-- ==== Sys2Proof/Word.lean ====
section
/-! DEFINITION. The words of the part and the names its masters and field connections go by: the byte of a frame,
the 32-bit counts, the four link ports, the two platforms, the two anemometers, the two causes of a warm restart. -/

namespace Sys2Proof

/-- One byte of a frame (R172 shifts and combines it bit by bit). -/
abbrev Byte := BitVec 8

/-- A count that wraps at 2^32: the travel counter τ (R1) and the millisecond count (R185). -/
abbrev Word := BitVec 32

/-- The four link ports of Table 0-1 (R171). -/
inductive Port where
  | drive
  | platformA
  | platformB
  | controlRoom
  deriving DecidableEq, Repr

/-- The two platforms, A and B. -/
inductive Platform where
  | a
  | b
  deriving DecidableEq, Repr

/-- The two anemometers (R119). -/
inductive Sensor where
  | crown
  | deck
  deriving DecidableEq, Repr

/-- What a warm restart follows (R188): the reply to an accepted RESTART request, or a short RESTART line pulse. -/
inductive RestartCause where
  | request
  | linePulse
  deriving DecidableEq, Repr

end Sys2Proof
end

