-- ==== Sys2Proof/Syntax.lean ====
section
/-! DEFINITION. The commands of the block: one constructor for each row of spec/opcode_table.json.

A request row stands for the reception of one whole request frame of its kind with a right CRC on the port named
(R175), its operands being the payload fields of Table 10-4 as numbers. A code field (a setting, an action, a kind)
stays a number here: the owning rule judges it. The rows of the link that are no request carry the bytes the port has
received on the way to them. A field event carries what the field shows at that moment. -/

namespace Sys2Proof

inductive Instr where
  -- requests open on every port
  | statusQuery (port : Port)
  | cabinRead (port : Port) (cabin : Nat)
  -- the DRIVE port's request
  | driveReport (port : Port) (speed position driveState brakeReleased : Nat)
  -- platform requests
  | berthQuery (port : Port) (platform : Nat)
  | queueQuery (port : Port) (platform : Nat)
  | partyAdd (port : Port) (tag size accessible priv : Nat)
  | partyCancel (port : Port) (tag : Nat)
  | alightCount (port : Port) (visit count : Nat)
  | boardCount (port : Port) (visit tag count : Nat)
  | dispatch (port : Port) (visit : Nat)
  | cabinHold (port : Port) (cabin setting : Nat)
  | platformStop (port : Port) (action : Nat)
  -- control-room requests
  | configWrite (port : Port) (item value : Nat)
  | configRead (port : Port) (item : Nat)
  | configSave (port : Port)
  | configLock (port : Port)
  | cabinWrite (port : Port) (cabin kind capacity autoHold : Nat)
  | cabinService (port : Port) (cabin action : Nat)
  | occupancyDeclare (port : Port) (cabin count : Nat) (records : List (Nat × Nat))
  | entrySet (port : Port) (cabin platform directive tag : Nat)
  | entryRemove (port : Port) (cabin platform : Nat)
  | listClear (port : Port)
  | settings (port : Port) (mode revolutions speed stopOnMiss : Nat)
  | planSwap (port : Port)
  | planRead (port : Port) (bank first : Nat)
  | operatorHold (port : Port) (grade : Nat)
  | holdRelease (port : Port) (source : Nat)
  | holdRead (port : Port) (source : Nat)
  | parkAdvance (port : Port) (count : Nat)
  | eventTake (port : Port) (count : Nat)
  | restart (port : Port)
  -- the link
  | unknownKindRequest (port : Port) (kind : Byte) (payload : List Byte)
  | crcWrongDiscard (port : Port) (bytes : List Byte)
  | frameGapTimeout (port : Port) (bytes : List Byte)
  | replyEnd (port : Port)
  -- field events and timers
  | forwardTick
  | reverseTick
  | indexEdge
  | windowEnd
  | anemometerPulse (sensor : Sensor)
  | scanStart
  | scanEnd (pattern : Byte) (contacts : List Bool)
  | actuatorTimerExpiry (platform : Platform)
  | blinkToggle
  | sequenceStart
  | sequenceEnd
  | refreshExpiry
  | stopLineTaken (platform : Platform) (lineOpen : Bool)
  | driveSilenceExpiry
  | saveDone (passed : Bool)
  -- starts
  | warmRestart (cause : RestartCause)
  | supplyOn
  | restartLineHeld
  | powerOnComplete (lineAOpen lineBOpen strapClosed : Bool)
  | supplyLoss
  | framingError (port : Port) (bytes : List Byte)
  deriving DecidableEq, Repr

end Sys2Proof
end

