-- ==== Sys2Proof/Decode.lean ====
section
/-! DEFINITION. The commands that a table word spells. No row of spec/opcode_table.json gives its command any bits (its
rows have no "fixed" and empty "fields"), so no word spells a command. -/

namespace Sys2Proof

/-- The command spelled by the low `nbits` bits of `w`: none, since no row of the table has bits. -/
def decodeTableWord (_nbits _w : Nat) : Option Instr := none

end Sys2Proof
end

