-- ==== Sys2Proof/Config.lean ====
section
/-! DEFINITION. What one implementation fixes and the spec does not, and the model's free values. -/

namespace Sys2Proof.Config

/-- The check pattern of the status loop. R41 gives it as 8 bits of alternating value and does not say which of the
two such patterns it is. DESIGN CHOICE (log 3): the one that begins with a 1; the pattern is read by the good or
failed judgement of a scan alone. -/
def checkPattern : Byte := 0xAA#8

/-- FREE VALUE (log 4): what a yes/no field of a request reads as when its code is neither 0 nor 1 and the owning rule
states no refusal for it (PARTY ADD's two flags, CABIN WRITE's auto-hold, SETTINGS' stop-on-miss). Nothing in the
model fixes it. -/
opaque freeYesNo : Nat → Bool

end Sys2Proof.Config
end

