-- ==== Sys2Proof/Machine/Types.lean ====
section
/-! DEFINITION. The records each block of the part holds (Table 0-3), in the spec's own names. -/

namespace Sys2Proof.Machine

/-! ## Families of like things -/

/-- One thing for each platform. -/
structure PerPlatform (α : Type) where
  a : α
  b : α
  deriving DecidableEq, Repr

/-- One thing for each anemometer. -/
structure PerSensor (α : Type) where
  crown : α
  deck : α
  deriving DecidableEq, Repr

/-- One thing for each link port. -/
structure PerPort (α : Type) where
  drive : α
  platformA : α
  platformB : α
  controlRoom : α
  deriving DecidableEq, Repr

/-! ## Grades and hold sources (Chapter 8) -/

/-- The scale of Table 0-5, lowest first. -/
inductive Grade where
  | none
  | limit
  | unload
  | park
  | stop
  | brake
  deriving DecidableEq, Repr

/-- The eighteen sources of Table 8-2, in number order. -/
inductive Source where
  | powerOn
  | restart
  | operator
  | wind
  | windSensor
  | platformStopA
  | platformStopB
  | doorLate
  | doorAway
  | loopFault
  | position
  | reverse
  | disagree
  | driveSilent
  | driveFault
  | planEnd
  | berthMiss
  | parkOvershoot
  deriving DecidableEq, Repr

/-- A hold source record (Table 8-1). The programmed grade and the auto-release setting are configuration items and
have their one home in `Settings`. -/
structure HoldRecord where
  cond : Grade
  peak : Grade
  floor : Grade
  latched : Grade
  deriving DecidableEq, Repr

/-- The eighteen records (R136). -/
structure HoldTable where
  powerOn : HoldRecord
  restart : HoldRecord
  operator : HoldRecord
  wind : HoldRecord
  windSensor : HoldRecord
  platformStopA : HoldRecord
  platformStopB : HoldRecord
  doorLate : HoldRecord
  doorAway : HoldRecord
  loopFault : HoldRecord
  position : HoldRecord
  reverse : HoldRecord
  disagree : HoldRecord
  driveSilent : HoldRecord
  driveFault : HoldRecord
  planEnd : HoldRecord
  berthMiss : HoldRecord
  parkOvershoot : HoldRecord
  deriving DecidableEq, Repr

/-- The hold table with the held grade it forms (R137). -/
structure Holds where
  table : HoldTable
  held : Grade
  deriving DecidableEq, Repr

/-- A platform's stop line as taken (open or closed) and its stop request (R146, R147). -/
structure StopLine where
  lineOpen : Bool
  request : Bool
  deriving DecidableEq, Repr

/-- The occupied count and the unload-complete flag (R149, R150). -/
structure Unload where
  occupied : Nat
  complete : Bool
  deriving DecidableEq, Repr

/-! ## Position (Chapter 1) -/

inductive Direction where
  | none
  | forward
  | reverse
  deriving DecidableEq, Repr

/-- A platform's role (R59). -/
inductive Role where
  | boardAlight
  | boardOnly
  | alightOnly
  | off
  deriving DecidableEq, Repr

/-- The berth points, the roles and the park platform in force: an accepted geometry write of one of them takes effect for
the next tick (R15), so every reader but CONFIG READ and the tests of CONFIG WRITE reads this copy, which each tick takes
from the settings (log 8). -/
structure Points where
  enter : Nat
  close : Nat
  exit : Nat
  beta : Nat
  roles : PerPlatform Role
  park : Platform
  deriving DecidableEq, Repr

/-- The four closed speed windows, oldest first (R3). -/
structure SpeedWindows where
  w1 : Int
  w2 : Int
  w3 : Int
  w4 : Int
  deriving DecidableEq, Repr

/-- The points a cabin's phase may cross (Table 1-6). -/
inductive Crossing where
  | enter
  | close
  | exit
  deriving DecidableEq, Repr

/-- A point of a cabin at a platform, with the θ that a forward tick reaches as the phase goes over it. -/
structure CrossedPoint where
  platform : Platform
  cabin : Nat
  point : Crossing
  theta : Nat
  deriving DecidableEq, Repr

/-- The Position Counter (Table 1-1), with the window timer and the points in force, and the points that stay crossed
though a backward correction has taken their phases back over them (R11, log 23). -/
structure Position where
  theta : Nat
  tau : Word
  lastDirection : Direction
  verified : Bool
  reverseRun : Nat
  closedWindows : SpeedWindows
  openWindow : Int
  v : Int
  revolutions : Nat
  disagreementRun : Nat
  agreementRun : Nat
  disagree : Bool
  windowTimer : Nat
  points : Points
  stillCrossed : List CrossedPoint
  deriving DecidableEq, Repr

/-! ## Cabins (Chapter 2) -/

/-- A cabin's kind. `letOut` is the spec's PRIVATE: a cabin let to one party at a time. -/
inductive CabinKind where
  | standard
  | accessible
  | letOut
  deriving DecidableEq, Repr

inductive Service where
  | inService
  | withdrawPending
  | withdrawn
  deriving DecidableEq, Repr

inductive Gate where
  | opened
  | hold
  deriving DecidableEq, Repr

/-- What CABIN HOLD asks for, and what a pending gate holds (R25, R28). -/
inductive GateSetting where
  | hold
  | opened
  | openOnce
  deriving DecidableEq, Repr

/-- What CABIN SERVICE asks for, and what a pending service holds (R22, R28). -/
inductive ServiceAction where
  | withdraw
  | restore
  deriving DecidableEq, Repr

inductive DoorState where
  | unknown
  | latched
  | closed
  | opened
  deriving DecidableEq, Repr

/-- A record of the parties-aboard list (R32). -/
structure Aboard where
  tag : Nat
  count : Nat
  deriving DecidableEq, Repr

/-- A cabin record (Table 2-1). -/
structure Cabin where
  kind : CabinKind
  capacity : Nat
  autoHold : Bool
  service : Service
  gate : Gate
  openOnce : Bool
  pendingGate : Option GateSetting
  pendingService : Option ServiceAction
  occupancy : Nat
  occupancyUnknown : Bool
  boardedAt : Option Word
  parties : List Aboard
  door : DoorState
  inVisit : Option Platform
  deriving DecidableEq, Repr

/-- The configuration fields of a cabin, as a saved copy holds them (Section 11.2). -/
structure CabinConfig where
  kind : CabinKind
  capacity : Nat
  autoHold : Bool
  deriving DecidableEq, Repr

/-! ## Status loop and output chain (Chapter 3) -/

/-- An accepted contact value: made (closed, latched, made), not made, or unknown. -/
inductive Contact where
  | unknown
  | made
  | notMade
  deriving DecidableEq, Repr

inductive ActuatorPosition where
  | unknown
  | opened
  | closed
  | moving
  | conflict
  deriving DecidableEq, Repr

/-- The accepted contacts and the conflict flag of one cabin. -/
structure LoopCabin where
  doorClosed : Contact
  latch : Contact
  conflict : Bool
  deriving DecidableEq, Repr

/-- The accepted stop contacts, the conflict flag and the actuator position of one berth. -/
structure LoopBerth where
  openStop : Contact
  closedStop : Contact
  conflict : Bool
  position : ActuatorPosition
  deriving DecidableEq, Repr

/-- The readings of one scan: door-closed and latch contact of each cabin in cabin order, OPEN-stop and CLOSED-stop
contact of each berth; `true` is a contact made. -/
structure Readings where
  cabins : List (Bool × Bool)
  berths : PerPlatform (Bool × Bool)
  deriving DecidableEq, Repr

/-- A scan in progress: the number of cabins whose contacts it began with, and whether N has changed since (R49). -/
structure ScanInProgress where
  cabins : Nat
  stale : Bool
  deriving DecidableEq, Repr

/-- The Status Loop Scanner (Table 3-1). -/
structure Loop where
  scanTimer : Nat
  scan : Option ScanInProgress
  newest : Option Readings
  previous : Option Readings
  cabins : List LoopCabin
  berths : PerPlatform LoopBerth
  failedCount : Nat
  loopFault : Bool
  away : List Nat
  deriving DecidableEq, Repr

inductive ActuatorCode where
  | close
  | opening
  | release
  deriving DecidableEq, Repr

inductive LampCode where
  | off
  | on
  | blinkA
  | blinkB
  deriving DecidableEq, Repr

/-- The three lamp codes of one platform. -/
structure Lamps where
  green : LampCode
  amber : LampCode
  red : LampCode
  deriving DecidableEq, Repr

inductive BlinkPhase where
  | a
  | b
  deriving DecidableEq, Repr

/-- What a sequence carries for one platform: the actuator code, and each lamp lit or dark (R52). -/
structure FieldUnit where
  actuator : ActuatorCode
  green : Bool
  amber : Bool
  red : Bool
  deriving DecidableEq, Repr

/-- One platform's part of the output image. -/
structure ImageUnit where
  actuator : ActuatorCode
  lamps : Lamps
  reclosePending : Bool
  deriving DecidableEq, Repr

/-- The Berth Output Chain (Table 3-7), with its two timers and what the field modules last applied (R54). -/
structure Output where
  image : PerPlatform ImageUnit
  blink : BlinkPhase
  blinkTimer : Nat
  sent : PerPlatform FieldUnit
  inProgress : Bool
  refreshTimer : Nat
  applied : PerPlatform FieldUnit
  deriving DecidableEq, Repr

/-! ## Visits and queues (Chapters 4 and 5) -/

/-- A party record (Table 5-2); `alone` is the spec's private flag. -/
structure Party where
  tag : Nat
  size : Nat
  accessible : Bool
  alone : Bool
  passCount : Nat
  timeTag : Word
  deriving DecidableEq, Repr

/-- An assigned party: its party record, kept for the case that it is handed back (R86), and its boarded count. -/
structure Assigned where
  party : Party
  boarded : Nat
  deriving DecidableEq, Repr

inductive Directive where
  | skip
  | alight
  | board
  | alightBoard
  deriving DecidableEq, Repr

inductive VisitState where
  | passing
  | opening
  | opened
  | closing
  | secured
  deriving DecidableEq, Repr

/-- A visit record (Table 4-2). An absent occupancy at ENTER is the spec's 'unknown'. -/
structure Visit where
  number : Nat
  cabin : Nat
  directive : Directive
  reservedTag : Option Nat
  occupancyAtEnter : Option Nat
  alighted : Option Nat
  assigned : List Assigned
  state : VisitState
  retries : Nat
  boardingOffered : Bool
  assignmentAsked : Bool
  boardingCounted : Bool
  openFailed : Bool
  closeFailed : Bool
  late : Bool
  retreated : Bool
  positionLost : Bool
  deriving DecidableEq, Repr

/-- A Berth Sequencer (Table 4-1). An absent current visit is VACANT; an absent actuator timer is stopped. -/
structure Sequencer where
  current : Option Visit
  last : Option Visit
  visitNumber : Nat
  actuatorTimer : Option Nat
  doorLate : Bool
  deriving DecidableEq, Repr

/-- A Party Queue (Table 5-1). -/
structure Queue where
  entries : List Party
  outCount : Nat
  deriving DecidableEq, Repr

/-! ## Plans (Chapter 6) -/

inductive PlanMode where
  | repeating
  | single
  deriving DecidableEq, Repr

/-- The directive of a plan entry; a tag is present with RESERVED only (Table 6-2). -/
inductive PlanDirective where
  | pass
  | alightOnly
  | reserved (tag : Nat)
  deriving DecidableEq, Repr

structure PlanEntry where
  cabin : Nat
  platform : Platform
  directive : PlanDirective
  deriving DecidableEq, Repr

structure Bank where
  mode : PlanMode
  count : Nat
  speed : Nat
  stopOnMiss : Bool
  ready : Bool
  run : Nat
  edits : Nat
  entries : List PlanEntry
  deriving DecidableEq, Repr

/-- The Plan Banks (Table 6-1): the active-bank index is 1 when `oneActive`. -/
structure Plans where
  bank0 : Bank
  bank1 : Bank
  oneActive : Bool
  swapPending : Bool
  planEnd : Bool
  deriving DecidableEq, Repr

/-! ## Wind (Chapter 7) -/

inductive WindClass where
  | pending
  | level (c : Nat)
  deriving DecidableEq, Repr

/-- One anemometer (Table 7-1), with the count of its last closed window (R133). The stall timer is in ms. -/
structure Anemometer where
  openCount : Nat
  lastCount : Nat
  windowRing : List Nat
  secondRing : List Nat
  gust : Nat
  mean : Nat
  faulted : Bool
  stallTimer : Nat
  overrangeRun : Nat
  recoveryRun : Nat
  deriving DecidableEq, Repr

/-- The Wind Assessor (Tables 7-1 and 7-2). The quiet timer is in ms. -/
structure Wind where
  sensors : PerSensor Anemometer
  windowEnds : Nat
  groupPosition : Nat
  gust : Nat
  mean : Nat
  sensorCondition : Bool
  windClass : WindClass
  quietTimer : Nat
  deriving DecidableEq, Repr

/-! ## Permit (Chapter 9) -/

inductive DriveState where
  | running
  | stopped
  | fault
  deriving DecidableEq, Repr

structure DriveRecord where
  speed : Nat
  position : Option Nat
  state : Option DriveState
  brakeReleased : Bool
  deriving DecidableEq, Repr

inductive ParkState where
  | parking
  | parked
  | stepping
  deriving DecidableEq, Repr

/-- The park record (Table 9-4); the park platform is kept with its offset for the PARKED record (R165). -/
structure ParkRecord where
  state : ParkState
  target : Word
  platform : Platform
  offset : Nat
  steps : Nat
  deriving DecidableEq, Repr

/-- The Permit Unit (Table 9-1). An absent silence timer is expired. `sinceReport` is the time since the last good
report in ms, saturating at 65,535 (R178). -/
structure Permit where
  drive : DriveRecord
  silenceTimer : Option Nat
  sinceReport : Nat
  driveSilent : Bool
  driveFault : Bool
  ceiling : Nat
  park : Option ParkRecord
  deriving DecidableEq, Repr

/-! ## Link ports (Chapter 10) -/

/-- The result codes of Table 10-3, in code order. -/
inductive Result where
  | accepted
  | refusedPort
  | badField
  | wrongState
  | stale
  | full
  | duplicate
  | notFound
  | overCapacity
  | pending
  | locked
  | stillActive
  | busy
  deriving DecidableEq, Repr

/-- The header of a reply (R177). -/
structure Header where
  held : Grade
  windClass : WindClass
  verified : Bool
  parked : Bool
  unloadComplete : Bool
  loopFault : Bool
  eventsWaiting : Bool
  rollover : Bool
  deriving DecidableEq, Repr

/-- A reply as formed (R176): the request's kind code, the result, the header, and the payload bytes. -/
structure Reply where
  kind : Nat
  result : Result
  header : Header
  payload : List Byte
  deriving DecidableEq, Repr

/-- The receive states of Table 10-2. HEAD may hold the kind byte; BODY holds the kind, the length and the bytes
received since, payload and CRC alike. REPLY holds the reply being formed or sent. -/
inductive PortState where
  | hunt
  | head (kind : Option Byte)
  | body (kind length : Byte) (got : List Byte)
  | reply (r : Reply)
  deriving DecidableEq, Repr

inductive Rate where
  | baud57600
  | baud115200
  deriving DecidableEq, Repr

/-- The four ports and the rate read from the RATE strap (R171). -/
structure Ports where
  states : PerPort PortState
  rate : Rate
  deriving DecidableEq, Repr

/-! ## Configuration and events (Chapter 11) -/

/-- The geometry items (Section 1.7). -/
structure Geometry where
  n : Nat
  p : Nat
  enter : Nat
  close : Nat
  exit : Nat
  beta : Nat
  park : Platform
  roles : PerPlatform Role
  deriving DecidableEq, Repr

/-- One row of the class thresholds (Table 7-9). -/
structure ClassRow where
  ug : Nat
  um : Nat
  dg : Nat
  dm : Nat
  q : Nat
  deriving DecidableEq, Repr

/-- The class thresholds of classes 1 to 4. -/
structure ClassTable where
  c1 : ClassRow
  c2 : ClassRow
  c3 : ClassRow
  c4 : ClassRow
  deriving DecidableEq, Repr

/-- The programmed grades of the seven sources that have one (Table 8-2). -/
structure Programmed where
  windSensor : Grade
  platformStopA : Grade
  platformStopB : Grade
  loopFault : Grade
  disagree : Grade
  planEnd : Grade
  berthMiss : Grade
  deriving DecidableEq, Repr

/-- The auto-release settings of the four capable sources (Table 8-2). -/
structure AutoRelease where
  wind : Bool
  windSensor : Bool
  position : Bool
  planEnd : Bool
  deriving DecidableEq, Repr

/-- The six speeds of Table 9-2. -/
structure Speeds where
  absolute : Nat
  limit : Nat
  unload : Nat
  boarding : Nat
  step : Nat
  homing : Nat
  deriving DecidableEq, Repr

/-- The items of Table 11-1. -/
structure Settings where
  geometry : Geometry
  indexTolerance : Nat
  reverseAllowance : Nat
  disagreementTolerance : Nat
  alignTolerance : Nat
  rideLength : Nat
  scanPeriod : Nat
  actuatorTime : Nat
  closeRetries : Nat
  passLimit : Nat
  partyLimit : Nat
  factors : PerSensor Nat
  stallTime : Nat
  stallReference : Nat
  classes : ClassTable
  programmed : Programmed
  auto : AutoRelease
  speeds : Speeds
  silenceTime : Nat
  deceleration : Nat
  deriving DecidableEq, Repr

/-- A copy of the configuration in a store slot whose CRC is right (Section 11.2). -/
structure Copy where
  number : Nat
  settings : Settings
  cabins : List CabinConfig
  deriving DecidableEq, Repr

/-- The two slots; a slot whose CRC is wrong is absent. -/
structure Slots where
  slot0 : Option Copy
  slot1 : Option Copy
  deriving DecidableEq, Repr

/-- A save in progress: the slot being written (1 when `intoOne`) and the copy written into it (R183). -/
structure SaveJob where
  intoOne : Bool
  copy : Copy
  deriving DecidableEq, Repr

/-- The Configuration Store: the working configuration (the cabins' own fields stand in their records), the slots,
the save in progress and the lock flag. -/
structure Store where
  working : Settings
  slots : Slots
  saving : Option SaveJob
  lock : Bool
  deriving DecidableEq, Repr

/-- The event record kinds of Table 11-2, in code order. -/
inductive EventKind where
  | index
  | indexMismatch
  | visitStart
  | visitEnd
  | missedBerth
  | partyAssigned
  | contactConflict
  | loopFault
  | loopOk
  | sensorFault
  | sensorRecovered
  | classChange
  | holdRaised
  | holdReleased
  | planSwapped
  | planEnd
  | parked
  | unloadComplete
  | saveDone
  | configDefaulted
  | restarted
  deriving DecidableEq, Repr

/-- An event record (R185); the value is a signed 16-bit number. -/
structure EventRecord where
  time : Word
  kind : EventKind
  cabin : Option Nat
  platform : Option Platform
  source : Option Source
  grade : Option Grade
  value : Int
  deriving DecidableEq, Repr

/-- The Event Stack, oldest record first (R185). -/
structure Events where
  records : List EventRecord
  rollover : Bool
  deriving DecidableEq, Repr

/-- Whether the part runs (R187, R188): without supply, held in reset, running, or with the reply to a RESTART request
ended and its warm restart to be taken before anything else. -/
inductive Phase where
  | off
  | heldInReset
  | running
  | restartDue
  deriving DecidableEq, Repr

end Sys2Proof.Machine
end

