-- ==== Sys2Proof/Machine/Defaults.lean ====
section
/-! DEFINITION. The default settings of each chapter's table and the power-on value of each block. -/

namespace Sys2Proof.Machine

/-! ## Default settings -/

/-- Table 1-9. -/
def Geometry.default : Geometry :=
  { n := 32, p := 36000, enter := 300, close := 200, exit := 400, beta := 18000, park := .a,
    roles := { a := .boardAlight, b := .off } }

/-- Table 7-9. -/
def ClassTable.default : ClassTable :=
  { c1 := { ug := 100, um := 70, dg := 90, dm := 60, q := 300 },
    c2 := { ug := 140, um := 100, dg := 125, dm := 90, q := 600 },
    c3 := { ug := 170, um := 120, dg := 150, dm := 110, q := 900 },
    c4 := { ug := 220, um := 160, dg := 200, dm := 145, q := 1200 } }

/-- Table 8-2, the defaults of the programmed grades. -/
def Programmed.default : Programmed :=
  { windSensor := .park, platformStopA := .stop, platformStopB := .stop, loopFault := .stop, disagree := .stop,
    planEnd := .unload, berthMiss := .park }

/-- Table 8-2, the defaults of the auto-release settings. -/
def AutoRelease.default : AutoRelease :=
  { wind := true, windSensor := false, position := true, planEnd := false }

/-- Table 9-2. -/
def Speeds.default : Speeds :=
  { absolute := 60, limit := 40, unload := 40, boarding := 25, step := 20, homing := 15 }

/-- The defaults of Tables 1-9, 4-6, 5-8, 7-12, 8-2 and 9-2 and of R40. -/
def Settings.default : Settings :=
  { geometry := Geometry.default
    indexTolerance := 30, reverseAllowance := 200, disagreementTolerance := 50, alignTolerance := 20
    rideLength := 36000
    scanPeriod := 50
    actuatorTime := 2000, closeRetries := 1
    passLimit := 3, partyLimit := 4
    factors := { crown := 1024, deck := 1024 }, stallTime := 120, stallReference := 30
    classes := ClassTable.default
    programmed := Programmed.default, auto := AutoRelease.default
    speeds := Speeds.default, silenceTime := 500, deceleration := 2 }

/-- A cabin's configuration when the store gives none (R19, R38, R184). -/
def CabinConfig.default : CabinConfig := { kind := .standard, capacity := 25, autoHold := false }

/-! ## Power-on values -/

/-- A cabin record at power-on, or as created by a rise of N (R19, R38). -/
def Cabin.fresh (c : CabinConfig) : Cabin :=
  { kind := c.kind, capacity := c.capacity, autoHold := c.autoHold
    service := .inService, gate := .opened, openOnce := false, pendingGate := none, pendingService := none
    occupancy := 0, occupancyUnknown := true, boardedAt := none, parties := [], door := .unknown, inVisit := none }

/-- The points, roles and park platform that settings put in force. -/
def Points.ofGeometry (g : Geometry) : Points :=
  { enter := g.enter, close := g.close, exit := g.exit, beta := g.beta, roles := g.roles, park := g.park }

/-- R17. -/
def Position.atPowerOn (g : Geometry) : Position :=
  { theta := 0, tau := 0, lastDirection := .none, verified := false, reverseRun := 0
    closedWindows := { w1 := 0, w2 := 0, w3 := 0, w4 := 0 }, openWindow := 0, v := 0, revolutions := 0
    disagreementRun := 0, agreementRun := 0, disagree := false, windowTimer := 250
    points := Points.ofGeometry g, stillCrossed := [] }

/-- The accepted contacts of a cabin the loop has not reported (R49, R57). -/
def LoopCabin.unreported : LoopCabin := { doorClosed := .unknown, latch := .unknown, conflict := false }

/-- The accepted contacts of a berth the loop has not reported (R57). -/
def LoopBerth.unreported : LoopBerth :=
  { openStop := .unknown, closedStop := .unknown, conflict := false, position := .unknown }

/-- R57, the Status Loop Scanner. -/
def Loop.atPowerOn (n scanPeriod : Nat) : Loop :=
  { scanTimer := scanPeriod, scan := none, newest := none, previous := none
    cabins := List.replicate n LoopCabin.unreported
    berths := { a := LoopBerth.unreported, b := LoopBerth.unreported }
    failedCount := 0, loopFault := false, away := [] }

/-- CLOSE with every lamp dark: the state the field modules hold on power-up (R57). -/
def FieldUnit.dark : FieldUnit := { actuator := .close, green := false, amber := false, red := false }

/-- R57, with the red lamp that R53 sets to ON at once, the held grade being at least STOP. -/
def ImageUnit.atPowerOn : ImageUnit :=
  { actuator := .close, lamps := { green := .off, amber := .off, red := .on }, reclosePending := false }

/-- R57, the Berth Output Chain. -/
def Output.atPowerOn : Output :=
  { image := { a := ImageUnit.atPowerOn, b := ImageUnit.atPowerOn }, blink := .a, blinkTimer := 500
    sent := { a := FieldUnit.dark, b := FieldUnit.dark }, inProgress := false, refreshTimer := 100
    applied := { a := FieldUnit.dark, b := FieldUnit.dark } }

/-- R84. -/
def Sequencer.atPowerOn : Sequencer :=
  { current := none, last := none, visitNumber := 0, actuatorTimer := none, doorLate := false }

/-- R101. -/
def Queue.empty : Queue := { entries := [], outCount := 0 }

/-- R117, one bank. -/
def Bank.atPowerOn (absolute : Nat) : Bank :=
  { mode := .repeating, count := 1, speed := absolute, stopOnMiss := false, ready := false, run := 0, edits := 0
    entries := [] }

/-- R117. -/
def Plans.atPowerOn (absolute : Nat) : Plans :=
  { bank0 := Bank.atPowerOn absolute, bank1 := Bank.atPowerOn absolute, oneActive := false, swapPending := false
    planEnd := false }

/-- R134, one sensor. -/
def Anemometer.atPowerOn : Anemometer :=
  { openCount := 0, lastCount := 0, windowRing := [], secondRing := [], gust := 0, mean := 0, faulted := false
    stallTimer := 0, overrangeRun := 0, recoveryRun := 0 }

/-- R134. -/
def Wind.atPowerOn : Wind :=
  { sensors := { crown := Anemometer.atPowerOn, deck := Anemometer.atPowerOn }, windowEnds := 0, groupPosition := 0
    gust := 0, mean := 0, sensorCondition := false, windClass := .pending, quietTimer := 0 }

/-- A source record that holds nothing. -/
def HoldRecord.clear : HoldRecord := { cond := .none, peak := .none, floor := .none, latched := .none }

/-- A source record whose condition stands at `g`, with no event. -/
def HoldRecord.standing (g : Grade) : HoldRecord := { cond := g, peak := g, floor := .none, latched := g }

/-- A source record that an event has left at `g`, with no condition. -/
def HoldRecord.struck (g : Grade) : HoldRecord := { cond := .none, peak := .none, floor := g, latched := g }

/-- R153: POWER_ON holds STOP by its event; POSITION and WIND stand at UNLOAD; the platform stops stand at the grade
given for their line; every other condition is NONE. -/
def HoldTable.atPowerOn (stopA stopB : Grade) : HoldTable :=
  { powerOn := HoldRecord.struck .stop, restart := HoldRecord.clear, operator := HoldRecord.clear
    wind := HoldRecord.standing .unload, windSensor := HoldRecord.clear
    platformStopA := HoldRecord.standing stopA, platformStopB := HoldRecord.standing stopB
    doorLate := HoldRecord.clear, doorAway := HoldRecord.clear, loopFault := HoldRecord.clear
    position := HoldRecord.standing .unload, reverse := HoldRecord.clear, disagree := HoldRecord.clear
    driveSilent := HoldRecord.clear, driveFault := HoldRecord.clear, planEnd := HoldRecord.clear
    berthMiss := HoldRecord.clear, parkOvershoot := HoldRecord.clear }

/-- R169; the time since a good report starts at 0 (DESIGN CHOICE, log 5: the spec gives it no value before the first
good report). -/
def Permit.atPowerOn (silenceTime : Nat) : Permit :=
  { drive := { speed := 0, position := none, state := none, brakeReleased := false }
    silenceTimer := some silenceTime, sinceReport := 0, driveSilent := false, driveFault := false, ceiling := 0
    park := none }

/-- R179. -/
def Ports.atPowerOn (rate : Rate) : Ports :=
  { states := { drive := .hunt, platformA := .hunt, platformB := .hunt, controlRoom := .hunt }, rate := rate }

end Sys2Proof.Machine
end

