-- ==== Sys2Proof/Machine/State.lean ====
section
/-! DEFINITION. The state of the whole part, the two kinds of stop, and the state right after power-on. -/

namespace Sys2Proof.Machine

/-- Everything the part holds, block by block (Table 0-3), with the brake demand line, the millisecond count, and the
queue of the commands that wait, first in, first out. -/
structure State where
  phase : Phase
  position : Position
  cabins : List Cabin
  loop : Loop
  output : Output
  sequencers : PerPlatform Sequencer
  queues : PerPlatform Queue
  plans : Plans
  wind : Wind
  holds : Holds
  stops : PerPlatform StopLine
  unload : Unload
  permit : Permit
  ports : Ports
  store : Store
  events : Events
  clock : Word
  brakeDemand : Bool
  pending : List Instr
  deriving DecidableEq, Repr

/-- No command of this part ends in a fault: the spec names none, and every command has an effect in every state. The
type has no constructor, so that no step can fault. -/
inductive Fault where
  deriving DecidableEq, Repr

/-- What a step may refuse. -/
inductive Refusal where
  /-- Raised by an arm of `exec` whose command has no meaning yet; no arm is such an arm. Safe: the machine stops where
  the part goes on. -/
  | notModelled (mnemonic : String)
  deriving DecidableEq, Repr

/-- The part right after a power-on with supply, as each chapter states it, for a store that holds no good copy, both
stop lines closed and the RATE strap open (DESIGN CHOICE, log 5: the spec leaves these three to the installation). The
configuration is then the defaults, and the one event record is CONFIG_DEFAULTED (R184). -/
def State.reset : State :=
  { phase := .running
    position := Position.atPowerOn Geometry.default
    cabins := List.replicate 32 (Cabin.fresh CabinConfig.default)
    loop := Loop.atPowerOn 32 50
    output := Output.atPowerOn
    sequencers := { a := Sequencer.atPowerOn, b := Sequencer.atPowerOn }
    queues := { a := Queue.empty, b := Queue.empty }
    plans := Plans.atPowerOn 60
    wind := Wind.atPowerOn
    holds := { table := HoldTable.atPowerOn .none .none, held := .stop }
    stops := { a := { lineOpen := false, request := false }, b := { lineOpen := false, request := false } }
    unload := { occupied := 32, complete := false }
    permit := Permit.atPowerOn 500
    ports := Ports.atPowerOn .baud57600
    store := { working := Settings.default, slots := { slot0 := none, slot1 := none }, saving := none, lock := false }
    events :=
      { records := [{ time := 0, kind := .configDefaulted, cabin := none, platform := none, source := none
                      grade := none, value := 0 }]
        rollover := false }
    clock := 0
    brakeDemand := false
    pending := [] }

end Sys2Proof.Machine
end

