-- ==== Sys2Proof/Machine/Ops.lean ====
section
/-! DEFINITION. The named operations over State that every block uses: one home for each read and write of a platform's,
a port's, a sensor's or a source's record, the arithmetic of Section "Arithmetic" of the scope file, and the Event
Stack's append. -/

namespace Sys2Proof.Machine

/-! ## Reads and writes by name -/

def PerPlatform.get {α : Type} (x : PerPlatform α) : Platform → α
  | .a => x.a
  | .b => x.b

def PerPlatform.set {α : Type} (x : PerPlatform α) (p : Platform) (v : α) : PerPlatform α :=
  match p with
  | .a => { x with a := v }
  | .b => { x with b := v }

/-- The same change on both platforms. -/
def PerPlatform.map {α β : Type} (f : α → β) (x : PerPlatform α) : PerPlatform β := { a := f x.a, b := f x.b }

def PerSensor.get {α : Type} (x : PerSensor α) : Sensor → α
  | .crown => x.crown
  | .deck => x.deck

def PerSensor.set {α : Type} (x : PerSensor α) (k : Sensor) (v : α) : PerSensor α :=
  match k with
  | .crown => { x with crown := v }
  | .deck => { x with deck := v }

def PerPort.get {α : Type} (x : PerPort α) : Port → α
  | .drive => x.drive
  | .platformA => x.platformA
  | .platformB => x.platformB
  | .controlRoom => x.controlRoom

def PerPort.set {α : Type} (x : PerPort α) (p : Port) (v : α) : PerPort α :=
  match p with
  | .drive => { x with drive := v }
  | .platformA => { x with platformA := v }
  | .platformB => { x with platformB := v }
  | .controlRoom => { x with controlRoom := v }

/-- The platform a platform port stands at (R175). -/
def portPlatform : Port → Option Platform
  | .platformA => some .a
  | .platformB => some .b
  | .drive => none
  | .controlRoom => none

def HoldTable.get (t : HoldTable) : Source → HoldRecord
  | .powerOn => t.powerOn
  | .restart => t.restart
  | .operator => t.operator
  | .wind => t.wind
  | .windSensor => t.windSensor
  | .platformStopA => t.platformStopA
  | .platformStopB => t.platformStopB
  | .doorLate => t.doorLate
  | .doorAway => t.doorAway
  | .loopFault => t.loopFault
  | .position => t.position
  | .reverse => t.reverse
  | .disagree => t.disagree
  | .driveSilent => t.driveSilent
  | .driveFault => t.driveFault
  | .planEnd => t.planEnd
  | .berthMiss => t.berthMiss
  | .parkOvershoot => t.parkOvershoot

def HoldTable.set (t : HoldTable) (src : Source) (r : HoldRecord) : HoldTable :=
  match src with
  | .powerOn => { t with powerOn := r }
  | .restart => { t with restart := r }
  | .operator => { t with operator := r }
  | .wind => { t with wind := r }
  | .windSensor => { t with windSensor := r }
  | .platformStopA => { t with platformStopA := r }
  | .platformStopB => { t with platformStopB := r }
  | .doorLate => { t with doorLate := r }
  | .doorAway => { t with doorAway := r }
  | .loopFault => { t with loopFault := r }
  | .position => { t with position := r }
  | .reverse => { t with reverse := r }
  | .disagree => { t with disagree := r }
  | .driveSilent => { t with driveSilent := r }
  | .driveFault => { t with driveFault := r }
  | .planEnd => { t with planEnd := r }
  | .berthMiss => { t with berthMiss := r }
  | .parkOvershoot => { t with parkOvershoot := r }

/-- The sources in number order (Table 8-2). -/
def Source.all : List Source :=
  [.powerOn, .restart, .operator, .wind, .windSensor, .platformStopA, .platformStopB, .doorLate, .doorAway,
   .loopFault, .position, .reverse, .disagree, .driveSilent, .driveFault, .planEnd, .berthMiss, .parkOvershoot]

/-- A platform's stop source (R146). -/
def stopSource : Platform → Source
  | .a => .platformStopA
  | .b => .platformStopB

/-- Wind class thresholds of class `c`, 1 to 4 (R131). -/
def ClassTable.get (t : ClassTable) (c : Nat) : ClassRow :=
  if c = 1 then t.c1 else if c = 2 then t.c2 else if c = 3 then t.c3 else t.c4

def ClassTable.set (t : ClassTable) (c : Nat) (r : ClassRow) : ClassTable :=
  if c = 1 then { t with c1 := r } else if c = 2 then { t with c2 := r }
  else if c = 3 then { t with c3 := r } else { t with c4 := r }

/-- The bank that is active (R103). -/
def Plans.active (x : Plans) : Bank := if x.oneActive then x.bank1 else x.bank0

/-- The bank that edits act on (R103). -/
def Plans.standby (x : Plans) : Bank := if x.oneActive then x.bank0 else x.bank1

def Plans.setActive (x : Plans) (k : Bank) : Plans :=
  if x.oneActive then { x with bank1 := k } else { x with bank0 := k }

def Plans.setStandby (x : Plans) (k : Bank) : Plans :=
  if x.oneActive then { x with bank0 := k } else { x with bank1 := k }

/-- The number of the bank that is active. -/
def Plans.activeNumber (x : Plans) : Nat := if x.oneActive then 1 else 0

/-! ## Writes to one block of State -/

def State.setSequencer (s : State) (pf : Platform) (q : Sequencer) : State :=
  { s with sequencers := s.sequencers.set pf q }

def State.setVisit (s : State) (pf : Platform) (v : Visit) : State :=
  s.setSequencer pf { s.sequencers.get pf with current := some v }

def State.setQueue (s : State) (pf : Platform) (q : Queue) : State :=
  { s with queues := s.queues.set pf q }

def State.setPort (s : State) (p : Port) (x : PortState) : State :=
  { s with ports := { s.ports with states := s.ports.states.set p x } }

/-- Changes the record of cabin `k`, where there is one. -/
def State.modifyCabin (s : State) (k : Nat) (f : Cabin → Cabin) : State :=
  { s with cabins := s.cabins.modify k f }

/-- The settings in force. -/
def State.settings (s : State) : Settings := s.store.working

/-- The geometry in force. -/
def State.geometry (s : State) : Geometry := s.store.working.geometry

def State.setSettings (s : State) (x : Settings) : State := { s with store := { s.store with working := x } }

/-- A platform's role in force (R59, R15). -/
def State.role (s : State) (pf : Platform) : Role := s.position.points.roles.get pf

/-- The door state of cabin `k` (R35). -/
def State.doorOf (s : State) (k : Nat) : DoorState :=
  match s.cabins[k]? with
  | some c => c.door
  | none => .unknown

/-! ## Arithmetic -/

/-- The value in (−P/2, P/2] congruent to `x` modulo `p`. -/
def signedMod (x : Int) (p : Nat) : Int :=
  let r := x % (p : Int)
  if 2 * r ≤ p then r else r - p

/-- One step of `isqrt`: keeps a candidate bit of the root where its square does not exceed `n`. -/
def isqrtBits (n : Nat) : Nat → Nat → Nat
  | 0, root => root
  | k + 1, root =>
    let next := root + 2 ^ k
    isqrtBits n k (if next * next ≤ n then next else root)

/-- The largest integer whose square does not exceed `n`, for `n` below 2^64. -/
def isqrt (n : Nat) : Nat := isqrtBits n 32 0

/-- `x` brought into `lo` to `hi`: a value outside is replaced by the nearer end. -/
def clamp (lo hi x : Nat) : Nat := if x < lo then lo else if hi < x then hi else x

/-- The newest `n` of a ring, oldest first. -/
def newest (n : Nat) (ring : List Nat) : List Nat := ring.drop (ring.length - n)

/-- The average of a ring with halves rounded up, 0 when it is empty (R122, R123). -/
def roundedMean (ring : List Nat) : Nat := (ring.sum + ring.length / 2) / ring.length

/-! ## Grades -/

/-- A grade's value (Table 0-5). -/
def Grade.value : Grade → Nat
  | .none => 0
  | .limit => 1
  | .unload => 2
  | .park => 3
  | .stop => 4
  | .brake => 5

/-- The grade of a value from 0 to 5. -/
def Grade.ofValue : Nat → Option Grade
  | 0 => some .none
  | 1 => some .limit
  | 2 => some .unload
  | 3 => some .park
  | 4 => some .stop
  | 5 => some .brake
  | _ => Option.none

/-- "At `h` or above", said of `g`. -/
def Grade.atLeast (g h : Grade) : Bool := h.value ≤ g.value

/-- The greater of two grades. -/
def Grade.max (g h : Grade) : Grade := if g.value ≤ h.value then h else g

/-- A grade brought into a range (R139). -/
def Grade.clamp (lo hi g : Grade) : Grade := if g.value < lo.value then lo else if hi.value < g.value then hi else g

/-! ## The Event Stack -/

/-- R185: the record goes to the end; with 256 records held the oldest is discarded first and the rollover flag set. -/
def State.append (s : State) (r : EventRecord) : State :=
  if s.events.records.length < 256 then
    { s with events := { s.events with records := s.events.records ++ [r] } }
  else
    { s with events := { records := s.events.records.drop 1 ++ [r], rollover := true } }

/-- A record with no field beside its value. -/
def State.logPlain (s : State) (kind : EventKind) (value : Int) : State :=
  s.append { time := s.clock, kind := kind, cabin := none, platform := none, source := none, grade := none
             value := value }

/-- A record of a cabin at a platform. -/
def State.logBerth (s : State) (kind : EventKind) (cabin : Nat) (pf : Platform) (value : Int) : State :=
  s.append { time := s.clock, kind := kind, cabin := some cabin, platform := some pf, source := none, grade := none
             value := value }

/-- A record with a grade. -/
def State.logGrade (s : State) (kind : EventKind) (g : Grade) (value : Int) : State :=
  s.append { time := s.clock, kind := kind, cabin := none, platform := none, source := none, grade := some g
             value := value }

/-- A record of a hold source (R138). -/
def State.logHold (s : State) (kind : EventKind) (src : Source) (g : Grade) (value : Int) : State :=
  s.append { time := s.clock, kind := kind, cabin := none, platform := none, source := some src, grade := some g
             value := value }

/-- A contact conflict of a cabin (value 0) or of a berth (value 1) (R47). -/
def State.logConflict (s : State) (cabin : Option Nat) (pf : Option Platform) (value : Int) : State :=
  s.append { time := s.clock, kind := .contactConflict, cabin := cabin, platform := pf, source := none, grade := none
             value := value }

/-- A 16-bit number read as signed (R94). -/
def signed16 (x : Nat) : Int := (BitVec.ofNat 16 x).toInt

end Sys2Proof.Machine
end

