-- ==== Sys2Proof/Machine/Operands.lean ====
section
/-! DEFINITION. The coded fields of requests and replies (Table 10-5), the configuration item codes (Table 11-1), and
the bytes a reply's fields are sent in (R176). -/

namespace Sys2Proof.Machine

/-! ## Fields of requests -/

/-- A yes/no field: 0 no, 1 yes. Any other code, where the owning rule does not refuse it, reads as a free value
(log 4). -/
def readYesNo (x : Nat) : Bool := if x = 0 then false else if x = 1 then true else Config.freeYesNo x

def Platform.ofCode : Nat → Option Platform
  | 0 => some .a
  | 1 => some .b
  | _ => none

def DriveState.ofCode : Nat → Option DriveState
  | 0 => some .running
  | 1 => some .stopped
  | 2 => some .fault
  | _ => none

def CabinKind.ofCode : Nat → Option CabinKind
  | 0 => some .standard
  | 1 => some .accessible
  | 2 => some .letOut
  | _ => none

def GateSetting.ofCode : Nat → Option GateSetting
  | 0 => some .hold
  | 1 => some .opened
  | 2 => some .openOnce
  | _ => none

def ServiceAction.ofCode : Nat → Option ServiceAction
  | 0 => some .withdraw
  | 1 => some .restore
  | _ => none

/-- PLATFORM STOP's action: CLEAR or ASSERT, as the request it leaves in force. -/
def stopActionOfCode : Nat → Option Bool
  | 0 => some false
  | 1 => some true
  | _ => none

/-- ENTRY SET's directive and tag (R109): RESERVED needs a tag, the others take none. -/
def PlanDirective.ofCode (directive tag : Nat) : Option PlanDirective :=
  match directive with
  | 0 => if tag = 0 then some .pass else none
  | 1 => if tag = 0 then some .alightOnly else none
  | 2 => if tag = 0 then none else some (.reserved tag)
  | _ => none

def PlanMode.ofCode : Nat → Option PlanMode
  | 0 => some .repeating
  | 1 => some .single
  | _ => none

/-- A source by its number (Table 8-2). -/
def Source.ofNumber (k : Nat) : Option Source := Source.all[k]?

def Role.ofCode : Nat → Option Role
  | 0 => some .boardAlight
  | 1 => some .boardOnly
  | 2 => some .alightOnly
  | 3 => some .off
  | _ => none

/-! ## Codes of named values -/

def Source.number : Source → Nat
  | .powerOn => 0
  | .restart => 1
  | .operator => 2
  | .wind => 3
  | .windSensor => 4
  | .platformStopA => 5
  | .platformStopB => 6
  | .doorLate => 7
  | .doorAway => 8
  | .loopFault => 9
  | .position => 10
  | .reverse => 11
  | .disagree => 12
  | .driveSilent => 13
  | .driveFault => 14
  | .planEnd => 15
  | .berthMiss => 16
  | .parkOvershoot => 17

def Platform.code : Platform → Nat
  | .a => 0
  | .b => 1

def Role.code : Role → Nat
  | .boardAlight => 0
  | .boardOnly => 1
  | .alightOnly => 2
  | .off => 3

def CabinKind.code : CabinKind → Nat
  | .standard => 0
  | .accessible => 1
  | .letOut => 2

def Service.code : Service → Nat
  | .inService => 0
  | .withdrawPending => 1
  | .withdrawn => 2

/-- The gate in replies shares the codes of the CABIN HOLD setting (DESIGN CHOICE, log 26: Table 10-5 has no row for it). -/
def Gate.code : Gate → Nat
  | .hold => 0
  | .opened => 1

def GateSetting.code : GateSetting → Nat
  | .hold => 0
  | .opened => 1
  | .openOnce => 2

def ServiceAction.code : ServiceAction → Nat
  | .withdraw => 0
  | .restore => 1

def DoorState.code : DoorState → Nat
  | .unknown => 0
  | .latched => 1
  | .closed => 2
  | .opened => 3

/-- The visit-state code; VACANT is 0. -/
def VisitState.code : VisitState → Nat
  | .passing => 1
  | .opening => 2
  | .opened => 3
  | .closing => 4
  | .secured => 5

def Directive.code : Directive → Nat
  | .skip => 0
  | .alight => 1
  | .board => 2
  | .alightBoard => 3

def ActuatorCode.code : ActuatorCode → Nat
  | .close => 0
  | .opening => 1
  | .release => 2

def ActuatorPosition.code : ActuatorPosition → Nat
  | .unknown => 0
  | .opened => 1
  | .closed => 2
  | .moving => 3
  | .conflict => 4

/-- The park state; NONE when no park record exists. -/
def parkStateCode : Option ParkRecord → Nat
  | none => 0
  | some r =>
    match r.state with
    | .parking => 1
    | .parked => 2
    | .stepping => 3

def WindClass.code : WindClass → Nat
  | .pending => 9
  | .level c => c

def DriveState.code : Option DriveState → Nat
  | some .running => 0
  | some .stopped => 1
  | some .fault => 2
  | none => 255

def PlanMode.code : PlanMode → Nat
  | .repeating => 0
  | .single => 1

def PlanDirective.code : PlanDirective → Nat
  | .pass => 0
  | .alightOnly => 1
  | .reserved _ => 2

/-- The tag a plan directive carries, 0 for absent. -/
def PlanDirective.tag : PlanDirective → Nat
  | .pass => 0
  | .alightOnly => 0
  | .reserved t => t

def Result.code : Result → Nat
  | .accepted => 0
  | .refusedPort => 1
  | .badField => 2
  | .wrongState => 3
  | .stale => 4
  | .full => 5
  | .duplicate => 6
  | .notFound => 7
  | .overCapacity => 8
  | .pending => 9
  | .locked => 10
  | .stillActive => 11
  | .busy => 12

def EventKind.code : EventKind → Nat
  | .index => 1
  | .indexMismatch => 2
  | .visitStart => 3
  | .visitEnd => 4
  | .missedBerth => 5
  | .partyAssigned => 6
  | .contactConflict => 7
  | .loopFault => 8
  | .loopOk => 9
  | .sensorFault => 10
  | .sensorRecovered => 11
  | .classChange => 12
  | .holdRaised => 13
  | .holdReleased => 14
  | .planSwapped => 15
  | .planEnd => 16
  | .parked => 17
  | .unloadComplete => 18
  | .saveDone => 19
  | .configDefaulted => 20
  | .restarted => 21

/-! ## Bytes of replies, most significant first (Section 10.2) -/

def bytes1 (x : Nat) : List Byte := [BitVec.ofNat 8 x]

def bytes2 (x : Nat) : List Byte := [BitVec.ofNat 8 (x / 256), BitVec.ofNat 8 x]

def bytes4 (x : Nat) : List Byte :=
  [BitVec.ofNat 8 (x / 16777216), BitVec.ofNat 8 (x / 65536), BitVec.ofNat 8 (x / 256), BitVec.ofNat 8 x]

/-- A signed number in 4 bytes, two's complement. -/
def signed4 (x : Int) : List Byte := bytes4 (BitVec.ofInt 32 x).toNat

/-- A signed number in 2 bytes, two's complement (R186). -/
def signed2 (x : Int) : List Byte := bytes2 (BitVec.ofInt 16 x).toNat

def yesNo (x : Bool) : List Byte := bytes1 (if x then 1 else 0)

/-- An optional 1-byte field; all ones for absent. Table 10-5 gives that code for optional numbers and R186 for the fields of a
record; for the named values pending gate, pending service and in visit it is the model's (DESIGN CHOICE, log 26). -/
def option1 : Option Nat → List Byte
  | some x => bytes1 x
  | none => bytes1 255

/-- An optional 4-byte field; all ones for absent. -/
def option4 : Option Nat → List Byte
  | some x => bytes4 x
  | none => bytes4 4294967295

/-- An optional signed field; the most negative value of its width for absent. -/
def optionSigned4 : Option Int → List Byte
  | some x => signed4 x
  | none => signed4 (-2147483648)

/-- A tag; 0 for absent. -/
def tagBytes : Option Nat → List Byte
  | some x => bytes2 x
  | none => bytes2 0

/-- A list: its count of entries, a number that is no field of a request and so has 4 bytes, then the entries (R176,
log 10). -/
def listBytes {α : Type} (f : α → List Byte) (xs : List α) : List Byte := bytes4 xs.length ++ xs.flatMap f

/-! ## Configuration items (Table 11-1) -/

/-- The four threshold columns that are not quiet times. -/
inductive Column where
  | ug
  | um
  | dg
  | dm
  deriving DecidableEq, Repr

/-- The eight items of Table 9-2, in code order. -/
inductive PermitItem where
  | absolute
  | limit
  | unload
  | boarding
  | step
  | homing
  | silence
  | deceleration
  deriving DecidableEq, Repr

inductive Item where
  | n
  | p
  | enter
  | close
  | exit
  | beta
  | park
  | role (pf : Platform)
  | indexTolerance
  | reverseAllowance
  | disagreementTolerance
  | alignTolerance
  | rideLength
  | scanPeriod
  | actuatorTime
  | closeRetries
  | passLimit
  | partyLimit
  | factor (k : Sensor)
  | stallTime
  | stallReference
  | threshold (col : Column) (c : Nat)
  | quiet (c : Nat)
  | programmed (src : Source)
  | auto (src : Source)
  | permit (k : PermitItem)
  deriving DecidableEq, Repr

/-- The programmed range of a source, for the sources that have one (Table 8-2). -/
def Source.programmedRange : Source → Option (Grade × Grade)
  | .windSensor => some (.unload, .stop)
  | .platformStopA => some (.stop, .brake)
  | .platformStopB => some (.stop, .brake)
  | .loopFault => some (.stop, .brake)
  | .disagree => some (.park, .stop)
  | .planEnd => some (.none, .park)
  | .berthMiss => some (.none, .park)
  | _ => none

/-- The sources that may be set to follow their condition down (Table 8-2). -/
def Source.autoCapable : Source → Bool
  | .wind => true
  | .windSensor => true
  | .position => true
  | .planEnd => true
  | _ => false

/-- The item of a code among the thresholds: 0x0100 + 16j + c for the columns, 0x0140 + c for Q, c from 1 to 4. -/
def thresholdOfCode (code : Nat) : Option Item :=
  let j := (code - 256) / 16
  let c := (code - 256) % 16
  if code < 256 ∨ c < 1 ∨ 4 < c then none
  else if j = 0 then some (.threshold .ug c)
  else if j = 1 then some (.threshold .um c)
  else if j = 2 then some (.threshold .dg c)
  else if j = 3 then some (.threshold .dm c)
  else if j = 4 then some (.quiet c)
  else none

/-- The item of a code among the hold settings: 0x0200 + source and 0x0300 + source. -/
def holdItemOfCode (code : Nat) : Option Item :=
  if 512 ≤ code ∧ code < 768 then
    match Source.ofNumber (code - 512) with
    | some src => if src.programmedRange.isSome then some (.programmed src) else none
    | none => none
  else if 768 ≤ code ∧ code < 1024 then
    match Source.ofNumber (code - 768) with
    | some src => if src.autoCapable then some (.auto src) else none
    | none => none
  else none

/-- The item an item code names (Table 11-1). -/
def Item.ofCode (code : Nat) : Option Item :=
  match code with
  | 0x0001 => some .n
  | 0x0002 => some .p
  | 0x0003 => some .enter
  | 0x0004 => some .close
  | 0x0005 => some .exit
  | 0x0006 => some .beta
  | 0x0007 => some .park
  | 0x0008 => some (.role .a)
  | 0x0009 => some (.role .b)
  | 0x0010 => some .indexTolerance
  | 0x0011 => some .reverseAllowance
  | 0x0012 => some .disagreementTolerance
  | 0x0013 => some .alignTolerance
  | 0x0014 => some .rideLength
  | 0x0020 => some .scanPeriod
  | 0x0021 => some .actuatorTime
  | 0x0022 => some .closeRetries
  | 0x0023 => some .passLimit
  | 0x0024 => some .partyLimit
  | 0x0030 => some (.factor .crown)
  | 0x0031 => some (.factor .deck)
  | 0x0032 => some .stallTime
  | 0x0033 => some .stallReference
  | 0x0400 => some (.permit .absolute)
  | 0x0401 => some (.permit .limit)
  | 0x0402 => some (.permit .unload)
  | 0x0403 => some (.permit .boarding)
  | 0x0404 => some (.permit .step)
  | 0x0405 => some (.permit .homing)
  | 0x0406 => some (.permit .silence)
  | 0x0407 => some (.permit .deceleration)
  | code => if code < 512 then thresholdOfCode code else holdItemOfCode code

/-- The geometry items, 0x0001 to 0x0009. -/
def Item.isGeometry : Item → Bool
  | .n => true
  | .p => true
  | .enter => true
  | .close => true
  | .exit => true
  | .beta => true
  | .park => true
  | .role _ => true
  | _ => false

/-- The items Table 11-1 marks as locked (R151). -/
def Item.lockable : Item → Bool
  | .scanPeriod => false
  | .actuatorTime => false
  | .closeRetries => false
  | .passLimit => false
  | .partyLimit => false
  | .permit .silence => false
  | .permit .deceleration => false
  | _ => true

end Sys2Proof.Machine
end

