-- ==== Sys2Proof/Machine/Flags.lean ====
section
/-! DEFINITION. Every grade, flag and lamp that the part forms from other state: latched and held grades (R137), the
brake demand (R148), the occupied count (R149), the reply header's flags (R177), the lamp codes (R53). -/

namespace Sys2Proof.Machine

/-! ## Grades of the Hold Table -/

/-- The programmed grade of a source that has one; NONE for the others. -/
def Programmed.get (x : Programmed) : Source → Grade
  | .windSensor => x.windSensor
  | .platformStopA => x.platformStopA
  | .platformStopB => x.platformStopB
  | .loopFault => x.loopFault
  | .disagree => x.disagree
  | .planEnd => x.planEnd
  | .berthMiss => x.berthMiss
  | _ => .none

def Programmed.set (x : Programmed) (src : Source) (g : Grade) : Programmed :=
  match src with
  | .windSensor => { x with windSensor := g }
  | .platformStopA => { x with platformStopA := g }
  | .platformStopB => { x with platformStopB := g }
  | .loopFault => { x with loopFault := g }
  | .disagree => { x with disagree := g }
  | .planEnd => { x with planEnd := g }
  | .berthMiss => { x with berthMiss := g }
  | _ => x

/-- The auto-release setting of a source; no for a source that is not capable (Table 8-2). -/
def AutoRelease.get (x : AutoRelease) : Source → Bool
  | .wind => x.wind
  | .windSensor => x.windSensor
  | .position => x.position
  | .planEnd => x.planEnd
  | _ => false

def AutoRelease.set (x : AutoRelease) (src : Source) (on : Bool) : AutoRelease :=
  match src with
  | .wind => { x with wind := on }
  | .windSensor => { x with windSensor := on }
  | .position => { x with position := on }
  | .planEnd => { x with planEnd := on }
  | _ => x

/-- R137: with auto-release the greater of the condition grade and the event floor, without it the greater of the
condition peak and the event floor. -/
def latchOf (auto : Bool) (r : HoldRecord) : Grade := if auto then r.cond.max r.floor else r.peak.max r.floor

/-- R137: the largest latched grade among the eighteen sources. -/
def HoldTable.heldGrade (t : HoldTable) : Grade :=
  Source.all.foldl (fun g src => g.max (t.get src).latched) .none

/-- The WIND condition grade of a class (Table 7-8). -/
def WindClass.grade : WindClass → Grade
  | .pending => .unload
  | .level 0 => .none
  | .level 1 => .limit
  | .level 2 => .unload
  | .level 3 => .park
  | .level _ => .stop

/-- R148: asserted exactly while the held grade is BRAKE or the part is held in reset, and without supply. -/
def State.brakeWanted (s : State) : Bool :=
  match s.phase with
  | .off => true
  | .heldInReset => true
  | .running => s.holds.held = .brake
  | .restartDue => s.holds.held = .brake

/-! ## Counts and flags -/

/-- A cabin counted in the occupied count (R149). -/
def Cabin.mayHoldRiders (c : Cabin) : Bool := 0 < c.occupancy || c.occupancyUnknown

/-- A cabin that is known to be empty. -/
def Cabin.knownEmpty (c : Cabin) : Bool := c.occupancy = 0 && !c.occupancyUnknown

/-- R149. -/
def occupiedCount (cabins : List Cabin) : Nat := cabins.countP Cabin.mayHoldRiders

/-- The parked flag: a park record exists in PARKED (R177). -/
def State.parkedFlag (s : State) : Bool :=
  match s.permit.park with
  | some r => r.state = .parked
  | none => false

/-- The header of a reply formed on port `p` (R177). `rollover` stands in for the rollover flag in the reply to EVENT
TAKE, which carries the flag as it stood before the request. -/
def State.header (s : State) (p : Port) (rollover : Option Bool) : Header :=
  { held := s.holds.held
    windClass := s.wind.windClass
    verified := s.position.verified
    parked := s.parkedFlag
    unloadComplete := s.unload.complete
    loopFault := s.loop.loopFault
    eventsWaiting := p = .controlRoom && !s.events.records.isEmpty
    rollover := p = .controlRoom && rollover.getD s.events.rollover }

/-! ## Lamps -/

def Lamps.dark : Lamps := { green := .off, amber := .off, red := .off }

/-- R53 and the rows of Table 3-8 in order: the row nearest the top that applies gives the codes. -/
def lampsFor (held : Grade) : Option Visit → Lamps
  | some v =>
    if v.late then { green := .off, amber := .blinkB, red := .blinkA }
    else if held.atLeast .stop then { green := .off, amber := .off, red := .on }
    else match v.state with
      | .opening => if v.boardingOffered then { green := .on, amber := .off, red := .off }
                    else { green := .off, amber := .blinkA, red := .off }
      | .opened => if v.boardingOffered then { green := .on, amber := .off, red := .off }
                   else { green := .off, amber := .blinkA, red := .off }
      | .closing => { green := .blinkA, amber := .off, red := .off }
      | .passing => { green := .off, amber := .on, red := .off }
      | .secured => Lamps.dark
  | none => if held.atLeast .stop then { green := .off, amber := .off, red := .on } else Lamps.dark

end Sys2Proof.Machine
end

