-- ==== Sys2Proof/Machine/Geometry.lean ====
section
/-! DEFINITION. Berth geometry (Sections 1.6 and 1.7): pitch, berth phase, windows, the points a movement crosses, the
next-ENTER figures, and the constraints of R14. -/

namespace Sys2Proof.Machine

/-- The pitch, P/N ticks. -/
def Geometry.pitch (g : Geometry) : Nat := g.p / g.n

/-- The berth offset: o_A is 0 and o_B is β (R10). -/
def berthOffset (beta : Nat) : Platform → Nat
  | .a => 0
  | .b => beta

/-- R14, rules 1 to 7. -/
def Geometry.ok (g : Geometry) : Bool :=
  8 ≤ g.n && g.n ≤ 64 &&
  7200 ≤ g.p && g.p ≤ 64800 && g.p % g.n = 0 &&
  1 ≤ g.enter && g.close < g.exit &&
  g.enter + g.exit < g.pitch &&
  g.beta < g.p &&
  (g.roles.a = .off || g.roles.b = .off ||
    (g.enter + g.exit ≤ g.beta % g.pitch && g.enter + g.exit ≤ g.pitch - g.beta % g.pitch)) &&
  g.roles.get g.park ≠ .off

/-- The berth phase of cabin `k` at a platform with the wheel at `theta` (R10), with the offset in force. -/
def State.phaseAt (s : State) (theta : Nat) (pf : Platform) (k : Nat) : Int :=
  signedMod ((theta : Int) - k * s.geometry.pitch - berthOffset s.position.points.beta pf) s.geometry.p

/-- A phase inside the window: −E ≤ phase ≤ +X (R10). -/
def Points.inWindow (x : Points) (phase : Int) : Bool := -(x.enter : Int) ≤ phase && phase ≤ x.exit

/-- The points a forward movement of the phase from `before` to `after` crosses, in the order ENTER, CLOSE, EXIT
(R11). -/
def Points.crossed (x : Points) (before after : Int) : List Crossing :=
  (if before < -(x.enter : Int) ∧ -(x.enter : Int) ≤ after then [.enter] else []) ++
  ((if before < (x.close : Int) ∧ (x.close : Int) ≤ after then [.close] else []) ++
   (if before ≤ (x.exit : Int) ∧ (x.exit : Int) < after then [.exit] else []))

/-- The cabins in the order they pass a platform: the one farthest past the berth first (DESIGN CHOICE, log 7: R11
hands crossings over cabin by cabin and does not say which cabin is first). -/
def State.passOrder (s : State) (theta : Nat) (pf : Platform) : List Nat :=
  let pitch := s.geometry.pitch
  let x : Int := 2 * ((theta : Int) - berthOffset s.position.points.beta pf) - s.geometry.p + 2 * pitch - 1
  let first := (x / (2 * pitch : Int)) % (s.geometry.n : Int)
  (List.range s.geometry.n).map (fun i => (first.toNat + i) % s.geometry.n)

/-- The platform takes crossings and retreats: its role in force is not OFF and the position is verified (R11, R12). -/
def State.takesCrossings (s : State) (pf : Platform) : Bool :=
  s.position.points.roles.get pf ≠ .off && s.position.verified

/-- The phase that a forward tick reaches as it crosses a point (R11). -/
def Points.reachedAt (x : Points) : Crossing → Int
  | .enter => -(x.enter : Int)
  | .close => x.close
  | .exit => x.exit + 1

/-- A point of cabin `k` at a platform, by the points in force, with the θ at which it is crossed. -/
def State.crossedPoint (s : State) (pf : Platform) (k : Nat) (c : Crossing) : CrossedPoint :=
  let x := s.position.points
  let theta : Int := k * s.geometry.pitch + berthOffset x.beta pf + x.reachedAt c
  { platform := pf, cabin := k, point := c, theta := (theta % (s.geometry.p : Int)).toNat }

/-- A backward correction has left this point crossed (R11). -/
def State.staysCrossed (s : State) (pf : Platform) (x : Nat × Crossing) : Bool :=
  s.position.stillCrossed.contains (s.crossedPoint pf x.1 x.2)

/-- The crossings that a forward movement of θ from `before` to `after` hands to a platform's Sequencer (R11): each point
that the phase passes over, but for those that stay crossed after a backward correction (log 23). -/
def State.forwardCrossings (s : State) (before after : Nat) (pf : Platform) : List (Nat × Crossing) :=
  if s.takesCrossings pf then
    ((s.passOrder after pf).flatMap fun k =>
      (s.position.points.crossed (s.phaseAt before pf k) (s.phaseAt after pf k)).map fun c => (k, c)).filter
        fun x => !s.staysCrossed pf x
  else []

/-- The points that a backward correction of θ from `before` to 0 takes phases back over (R11): those of the forward
movement it undoes. -/
def State.takenBack (s : State) (before : Nat) : List CrossedPoint :=
  [Platform.a, .b].flatMap fun pf => (s.forwardCrossings 0 before pf).map fun x => s.crossedPoint pf x.1 x.2

/-- The points still crossed once a tick has moved the phases over those of one θ: a forward tick hands those nothing over,
and after a reverse tick a forward one crosses them afresh (R11, R12). -/
def Position.passOver (x : Position) (theta : Nat) : Position :=
  { x with stillCrossed := x.stillCrossed.filter fun y => y.theta ≠ theta }

/-- The cabins that a reverse tick from `before` to `after` takes back below −E (R12). -/
def State.retreats (s : State) (before after : Nat) (pf : Platform) : List Nat :=
  if s.takesCrossings pf then
    (s.passOrder after pf).filter fun k =>
      -(s.position.points.enter : Int) ≤ s.phaseAt before pf k &&
      s.phaseAt after pf k < -(s.position.points.enter : Int)
  else []

/-- The next-ENTER distance of a platform, 1 to pitch (R13), by the points in force (R15, log 8). -/
def State.nextEnterDistance (s : State) (pf : Platform) : Nat :=
  let x := s.position.points
  let pitch := s.geometry.pitch
  let d := (((berthOffset x.beta pf : Nat) : Int) - x.enter - s.position.theta) % (pitch : Int)
  if d = 0 then pitch else d.toNat

/-- The next-ENTER cabin of a platform (R13). -/
def State.nextEnterCabin (s : State) (pf : Platform) : Nat :=
  let g := s.geometry
  let points := s.position.points
  let x : Int := (s.position.theta : Int) + s.nextEnterDistance pf - berthOffset points.beta pf + points.enter
  (x % (g.p : Int)).toNat / g.pitch

end Sys2Proof.Machine
end

