-- ==== Sys2Proof/Machine/Assignment.lean ====
section
/-! DEFINITION. The assignment of waiting parties to an open cabin (R66, R94 to R98). -/

namespace Sys2Proof.Machine

/-- What an assignment is made for: the cabin's kind, the visit's reserved tag, and the two queue limits. -/
structure Offer where
  kind : CabinKind
  reserved : Option Nat
  passLimit : Nat
  partyLimit : Nat
  deriving DecidableEq, Repr

/-- What a scan leaves: the parties chosen, in the order chosen, and the entries that stay, in list order. -/
structure ScanResult where
  chosen : List Party
  stay : List Party
  deriving DecidableEq, Repr

/-- The four tests of Table 5-4 (R95): room, accessibility, privacy, reservation. -/
def Offer.fits (o : Offer) (room : Nat) (chosen : List Party) (e : Party) : Bool :=
  e.size ≤ room &&
  (!e.accessible || o.kind = .accessible) &&
  ((o.kind ≠ .letOut && !e.alone) || chosen.isEmpty) &&
  (o.reserved.isNone || o.reserved = some e.tag)

/-- R97: a passed entry's pass count rises by 1, to a maximum of 7. -/
def Party.overtaken (e : Party) : Party := { e with passCount := min 7 (e.passCount + 1) }

/-- R96: the scan stops after this choice. -/
def Offer.full (o : Offer) (room : Nat) (chosen : List Party) (e : Party) : Bool :=
  room = 0 || o.partyLimit ≤ chosen.length || e.alone || o.kind = .letOut

/-- The scan of R96 over the entries from the front, with the parties chosen and passed so far. -/
def Offer.scan (o : Offer) (room : Nat) (chosen passed : List Party) : List Party → ScanResult
  | [] => { chosen := chosen, stay := passed }
  | e :: rest =>
    if o.fits room chosen e then
      if o.full (room - e.size) (chosen ++ [e]) e then
        { chosen := chosen ++ [e], stay := passed.map Party.overtaken ++ rest }
      else o.scan (room - e.size) (chosen ++ [e]) (passed.map Party.overtaken) rest
    else if o.passLimit ≤ e.passCount then { chosen := chosen, stay := passed ++ e :: rest }
    else o.scan room chosen (passed ++ [e]) rest

/-- R94: the PARTY_ASSIGNED records of the parties chosen, in order, for cabin `k`. -/
def State.logAssigned (s : State) (k : Nat) (pf : Platform) (chosen : List Party) : State :=
  chosen.foldl (fun s e => s.logBerth .partyAssigned k pf (signed16 e.tag)) s

/-- R66: the conditions under which the Sequencer asks its queue for an assignment. -/
def assignmentDue (held : Grade) (v : Visit) (c : Cabin) : Bool :=
  v.state = .opened && v.boardingOffered && c.knownEmpty && !held.atLeast .unload && !v.assignmentAsked

/-- R66, R94: asks for an assignment for the current visit of a platform and hands the chosen parties to it. -/
def State.assign (s : State) (pf : Platform) (v : Visit) (c : Cabin) : State :=
  let q := s.queues.get pf
  let o : Offer := { kind := c.kind, reserved := v.reservedTag, passLimit := s.settings.passLimit
                     partyLimit := s.settings.partyLimit }
  let r := o.scan c.capacity [] [] q.entries
  let taken := r.chosen.map fun e => ({ party := e, boarded := 0 } : Assigned)
  let s := s.setVisit pf { v with assigned := v.assigned ++ taken, assignmentAsked := true }
  let s := s.setQueue pf { entries := r.stay, outCount := q.outCount + r.chosen.length }
  s.logAssigned v.cabin pf r.chosen

/-- Asks for an assignment at a platform at the first moment at which R66 allows it. -/
def State.assignIfDue (s : State) (pf : Platform) : State :=
  match (s.sequencers.get pf).current with
  | none => s
  | some v =>
    match s.cabins[v.cabin]? with
    | none => s
    | some c => if assignmentDue s.holds.held v c then s.assign pf v c else s

end Sys2Proof.Machine
end

