-- ==== Sys2Proof/Machine/Park.lean ====
section
/-! DEFINITION. The park record and the speed ceiling (Sections 9.4 and 9.6): target, remainder, term, parked test,
creation and removal, and the ceiling of R159. -/

namespace Sys2Proof.Machine

/-- The target of R163, from θ, τ, v⁺, the park deceleration and the offset `o`. -/
def State.parkTarget (s : State) (o : Nat) : Word :=
  let a := s.settings.deceleration
  let v := s.position.v.toNat
  let stopping := (v * v + 2 * a - 1) / (2 * a)
  let stopPoint := (s.position.theta + stopping) % s.geometry.p
  let ahead := (((o : Nat) : Int) - stopPoint) % (s.geometry.pitch : Int)
  s.position.tau + BitVec.ofNat 32 (stopping + ahead.toNat)

/-- The park remainder, τ_t − τ as a signed 32-bit number (R164). -/
def State.parkRemainder (s : State) (r : ParkRecord) : Int := (r.target - s.position.tau).toInt

/-- The park term of the ceiling (R164). -/
def State.parkTerm (s : State) (r : ParkRecord) : Nat :=
  let root := isqrt (2 * s.settings.deceleration * (s.parkRemainder r).toNat)
  match r.state with
  | .stepping => min root s.settings.speeds.step
  | .parking => root
  | .parked => root

/-- The cabin centred at the park platform (R165). -/
def State.centredCabin (s : State) (r : ParkRecord) : Nat :=
  let g := s.geometry
  let x := (((s.position.theta : Int) - r.offset) % (g.p : Int)).toNat
  ((x + g.pitch / 2) / g.pitch) % g.n

def State.setPark (s : State) (r : Option ParkRecord) : State := { s with permit := { s.permit with park := r } }

/-- R165: the parked test, made in PARKING and STEPPING; when it passes, the state is PARKED and it is recorded. -/
def State.parkedTest (s : State) : State :=
  match s.permit.park with
  | none => s
  | some r =>
    if r.state ≠ .parked ∧ (s.parkRemainder r).natAbs ≤ s.settings.alignTolerance ∧ s.position.v = 0 then
      (s.setPark (some { r with state := .parked })).logBerth .parked (s.centredCabin r) r.platform
        (-(s.parkRemainder r))
    else s

/-- R165: in PARKED, a remainder above T_align returns the record to PARKING. -/
def State.unparkTest (s : State) : State :=
  match s.permit.park with
  | none => s
  | some r =>
    if r.state = .parked ∧ (s.settings.alignTolerance : Int) < s.parkRemainder r then
      s.setPark (some { r with state := .parking })
    else s

/-- R166: the wheel has run past the target by more than the alignment tolerance. -/
def State.overshot (s : State) : Bool :=
  match s.permit.park with
  | none => false
  | some r => s.parkRemainder r < -(s.settings.alignTolerance : Int)

/-- R162, R163: a fresh park record, in PARKING, and its parked test, for the park platform and the offset in force (R15,
log 8). -/
def State.createPark (s : State) : State :=
  let pf := s.position.points.park
  let o := berthOffset s.position.points.beta pf
  (s.setPark (some { state := .parking, target := s.parkTarget o, platform := pf, offset := o, steps := 0 })).parkedTest

/-- R162: what a change of the held grade from `old` to `new` does to the park record. -/
def State.parkOnChange (s : State) (old new : Grade) : State :=
  if new = .park ∧ old ≠ .park then s.createPark
  else if old = .park ∧ new ≠ .park then s.setPark none
  else s

/-! ## The ceiling -/

/-- The grade term of Table 9-3; absent for NONE, which sets no bound. A PARK without a park record does not arise
(R162); its term is 0 (log 17). -/
def State.gradeTerm (s : State) : Option Nat :=
  match s.holds.held with
  | .none => none
  | .limit => some s.settings.speeds.limit
  | .unload => some s.settings.speeds.unload
  | .park =>
    match s.permit.park with
    | some r => some (s.parkTerm r)
    | none => some 0
  | .stop => some 0
  | .brake => some 0

/-- A visit that brings in the boarding speed: OPENING, OPEN or CLOSING (R159). -/
def Visit.working (v : Visit) : Bool := v.state = .opening || v.state = .opened || v.state = .closing

/-- The visit of a platform is in OPENING, OPEN or CLOSING. -/
def Sequencer.working (q : Sequencer) : Bool :=
  match q.current with
  | some v => v.working
  | none => false

/-- `x` bounded by a term that may not apply. -/
def bounded (x : Nat) : Option Nat → Nat
  | none => x
  | some t => min x t

/-- R159: the smallest of the terms of Table 9-3. -/
def State.ceilingNow (s : State) : Nat :=
  let base := min s.permit.drive.speed (min s.plans.active.speed s.settings.speeds.absolute)
  let graded := bounded base s.gradeTerm
  let working := s.sequencers.a.working || s.sequencers.b.working
  let berth := bounded graded (if working then some s.settings.speeds.boarding else none)
  bounded berth (if s.position.verified then none else some s.settings.speeds.homing)

end Sys2Proof.Machine
end

