-- ==== Sys2Proof/Machine/Grades.lean ====
section
/-! DEFINITION. How a cause reaches a hold source and what a change of the held grade sets off (R136 to R140, R144,
R150, R162, R66). -/

namespace Sys2Proof.Machine

/-- R150: the unload-complete flag stands while the held grade is UNLOAD or above and the occupied count is 0; its
setting is recorded, its clearing is not. -/
def State.judgeUnload (s : State) : State :=
  let want := s.holds.held.atLeast .unload && s.unload.occupied = 0
  let s' := { s with unload := { s.unload with complete := want } }
  if want && !s.unload.complete then s'.logGrade .unloadComplete s.holds.held 0 else s'

/-- R149: the occupied count is formed again from the cabin records, and the unload-complete flag with it. -/
def State.recount (s : State) : State :=
  State.judgeUnload { s with unload := { s.unload with occupied := occupiedCount s.cabins } }

/-- R138: the record of a change of a source's latched grade. -/
def State.logLatch (s : State) (src : Source) (old new : Grade) : State :=
  if old.value < new.value then s.logHold .holdRaised src new old.value
  else if new.value < old.value then s.logHold .holdReleased src new old.value
  else s

/-- What a change of the held grade sets off, in this order (log 7): the unload-complete flag (R150), the park record
(R162), and, below UNLOAD, the assignments withheld so far (R66), platform A's before platform B's (DESIGN CHOICE, log
7). Lamps, ceiling and brake demand follow in `State.refresh`. -/
def State.heldChanged (s : State) (old new : Grade) : State :=
  let s := (s.judgeUnload).parkOnChange old new
  if new.atLeast .unload then s else (s.assignIfDue .a).assignIfDue .b

/-- R137: a change of a source's record: the latched grade is derived again, its move recorded, and the held grade
formed again. -/
def State.changeSource (s : State) (src : Source) (f : HoldRecord → HoldRecord) : State :=
  let old := s.holds.table.get src
  let changed := f old
  let latched := latchOf (s.settings.auto.get src) changed
  let table := s.holds.table.set src { changed with latched := latched }
  let before := s.holds.held
  let after := table.heldGrade
  let s := { s with holds := { table := table, held := after } }
  let s := s.logLatch src old.latched latched
  if before = after then s else s.heldChanged before after

/-- A record whose condition grade becomes `g`: the peak rises with it (R137). -/
def HoldRecord.withCond (r : HoldRecord) (g : Grade) : HoldRecord := { r with cond := g, peak := r.peak.max g }

/-- A record that an event at `g` reaches (R136). -/
def HoldRecord.withEvent (r : HoldRecord) (g : Grade) : HoldRecord := { r with floor := r.floor.max g }

/-- A record as a release leaves it (R141). -/
def HoldRecord.released (r : HoldRecord) : HoldRecord := { r with floor := .none, peak := r.cond }

/-- R136: the owner sets a source's condition grade. A grade it already has changes nothing. -/
def State.setCondition (s : State) (src : Source) (g : Grade) : State :=
  if (s.holds.table.get src).cond = g then s else s.changeSource src fun r => r.withCond g

/-- R136: an event reaches a source. One at or below the floor leaves the record as it was. -/
def State.deliverEvent (s : State) (src : Source) (g : Grade) : State :=
  if (s.holds.table.get src).floor.atLeast g then s else s.changeSource src fun r => r.withEvent g

/-- The programmed grade of a source as it stands. -/
def State.programmed (s : State) (src : Source) : Grade := s.settings.programmed.get src

/-- A condition at the source's programmed grade while it holds (R136). -/
def State.formProgrammed (s : State) (src : Source) (holding : Bool) : State :=
  s.setCondition src (if holding then s.programmed src else .none)

/-- R146: a platform's stop condition holds while its line is open or its request is in force. -/
def State.formStop (s : State) (pf : Platform) : State :=
  let x := s.stops.get pf
  s.formProgrammed (stopSource pf) (x.lineOpen || x.request)

/-- R76: DOOR_LATE's condition grade is STOP while the condition of either platform is set. -/
def State.formDoorLate (s : State) : State :=
  s.setCondition .doorLate (if s.sequencers.a.doorLate || s.sequencers.b.doorLate then .stop else .none)

/-- R8: POSITION's condition grade is UNLOAD while the position is unverified. -/
def State.formPosition (s : State) : State :=
  s.setCondition .position (if s.position.verified then .none else .unload)

end Sys2Proof.Machine
end

