-- ==== Sys2Proof/Machine/CabinTable.lean ====
section
/-! DEFINITION. What is done to a cabin record (Chapter 2): capacity, service, gate, the end of a visit, occupancy. -/

namespace Sys2Proof.Machine

/-- The largest capacity of a kind (Table 2-2). -/
def CabinKind.maximum : CabinKind → Nat
  | .standard => 28
  | .accessible => 10
  | .letOut => 40

/-- R20: a capacity brought into the kind's range. -/
def CabinKind.clampCapacity (k : CabinKind) (x : Nat) : Nat := clamp 1 k.maximum x

/-- R25: a CABIN HOLD setting that takes effect at once. -/
def Cabin.applyGate (c : Cabin) : GateSetting → Cabin
  | .hold => { c with gate := .hold, openOnce := false }
  | .opened => { c with gate := .opened, openOnce := false }
  | .openOnce => { c with openOnce := true }

/-- R22: a CABIN SERVICE action that takes effect at once. -/
def Cabin.applyService (c : Cabin) : ServiceAction → Cabin
  | .withdraw =>
    match c.service with
    | .inService => { c with service := if c.knownEmpty then .withdrawn else .withdrawPending }
    | .withdrawPending => c
    | .withdrawn => c
  | .restore => { c with service := .inService }

/-- R29, step 3. -/
def Cabin.takePendingGate (c : Cabin) : Cabin :=
  match c.pendingGate with
  | some g => { c.applyGate g with pendingGate := none }
  | none => c

/-- R29, step 4. -/
def Cabin.takePendingService (c : Cabin) : Cabin :=
  match c.pendingService with
  | some a => { c.applyService a with pendingService := none }
  | none => c

/-- R29, step 5 (R24). -/
def Cabin.settleWithdrawal (c : Cabin) : Cabin :=
  if c.service = .withdrawPending && c.knownEmpty then { c with service := .withdrawn } else c

/-- R29, steps 3 to 6; all that a warm restart applies (R39). -/
def Cabin.leaveVisit (c : Cabin) : Cabin :=
  { c.takePendingGate.takePendingService.settleWithdrawal with inVisit := none }

/-- R29, steps 1 and 2. -/
def Cabin.afterBoarding (c : Cabin) (offered boarded : Bool) : Cabin :=
  { c with openOnce := if offered then false else c.openOnce
           gate := if boarded && c.autoHold then .hold else c.gate }

/-- R29: what the Cabin Table applies at the end of a visit. -/
def Cabin.visitEnd (c : Cabin) (offered boarded : Bool) : Cabin := (c.afterBoarding offered boarded).leaveVisit

/-- R39: what a warm restart applies to a cabin. -/
def Cabin.warmRestart (c : Cabin) : Cabin := if c.inVisit.isSome then c.leaveVisit else c

/-! ## Occupancy (R31, Table 2-5) -/

/-- A value of τ that makes the riders' ride completed: (τ − ride length) mod 2^32. -/
def State.rideCompleted (s : State) : Word := s.position.tau - BitVec.ofNat 32 s.settings.rideLength

/-- An occupancy written as 0 and known: boarded-at removed and the list emptied. -/
def Cabin.emptied (c : Cabin) : Cabin :=
  { c with occupancy := 0, occupancyUnknown := false, boardedAt := none, parties := [] }

/-- An occupancy greater than 0 written for a cabin that held riders, which keeps boarded-at, or for one known to be
empty, which takes `at0`. -/
def Cabin.peopled (c : Cabin) (occupancy : Nat) (at0 : Word) (parties : List Aboard) : Cabin :=
  { c with occupancy := occupancy, occupancyUnknown := false
           boardedAt := if c.occupancy = 0 then some at0 else c.boardedAt, parties := parties }

/-- An ALIGHT COUNT's write of an occupancy (Table 2-5). -/
def Cabin.alightTo (c : Cabin) (occupancy : Nat) (rideCompleted : Word) : Cabin :=
  if occupancy = 0 then c.emptied else c.peopled occupancy rideCompleted c.parties

/-- R32: the parties-aboard list after a BOARD COUNT of `count` for `tag`. -/
def boardParties (parties : List Aboard) (tag count : Nat) : List Aboard :=
  if count = 0 then parties.filter fun x => x.tag ≠ tag
  else if parties.any fun x => x.tag = tag then
    parties.map fun x => if x.tag = tag then { x with count := count } else x
  else parties ++ [{ tag := tag, count := count }]

/-- A BOARD COUNT's write of an occupancy and the list (Table 2-5, R32). -/
def Cabin.boardTo (c : Cabin) (occupancy tag count : Nat) (tau : Word) : Cabin :=
  if occupancy = 0 then c.emptied else c.peopled occupancy tau (boardParties c.parties tag count)

/-- An OCCUPANCY DECLARE's writes (R34, Table 2-5). -/
def Cabin.declare (c : Cabin) (count : Nat) (parties : List Aboard) (rideCompleted : Word) : Cabin :=
  if count = 0 then
    { c.emptied with service := if c.service = .withdrawPending then .withdrawn else c.service }
  else
    { c with occupancy := count, occupancyUnknown := false, boardedAt := some rideCompleted, parties := parties
             service := if c.service = .withdrawn then .withdrawPending else c.service }

/-- An occupancy write, handed to the Hold Table as it is made (R30). -/
def State.writeCabin (s : State) (k : Nat) (f : Cabin → Cabin) : State := (s.modifyCabin k f).recount

/-- R87: the tag is in use anywhere in the part. -/
def State.tagQueued (s : State) (tag : Nat) : Bool :=
  s.queues.a.entries.any (fun e => e.tag = tag) || s.queues.b.entries.any (fun e => e.tag = tag)

/-- The assigned parties of a platform's current visit. -/
def Sequencer.assigned (q : Sequencer) : List Assigned :=
  match q.current with
  | some v => v.assigned
  | none => []

/-- The tag stands among the assignments of either current visit. -/
def State.tagAssigned (s : State) (tag : Nat) : Bool :=
  s.sequencers.a.assigned.any (fun e => e.party.tag = tag) ||
  s.sequencers.b.assigned.any (fun e => e.party.tag = tag)

/-- The tag stands on a cabin's parties-aboard list. -/
def Cabin.hasAboard (c : Cabin) (tag : Nat) : Bool := c.parties.any fun x => x.tag = tag

end Sys2Proof.Machine
end

