-- ==== Sys2Proof/Machine/Sequencer.lean ====
section
/-! DEFINITION. The Berth Sequencers (Chapter 4): a visit's creation, its moves, its end, and the crossings, door
changes and losses of position that drive it. -/

namespace Sys2Proof.Machine

/-! ## The output image as a Sequencer writes it -/

/-- R52, R56: a platform's actuator code as a Sequencer or a reset writes it; a re-close pending is replaced. -/
def State.command (s : State) (pf : Platform) (code : ActuatorCode) : State :=
  let u := s.output.image.get pf
  { s with output :=
      { s.output with image := s.output.image.set pf { u with actuator := code, reclosePending := false } } }

/-- R56: a re-close request. -/
def State.reclose (s : State) (pf : Platform) : State :=
  let u := s.output.image.get pf
  { s with output :=
      { s.output with image := s.output.image.set pf { u with actuator := .release, reclosePending := true } } }

def State.setTimer (s : State) (pf : Platform) (t : Option Nat) : State :=
  s.setSequencer pf { s.sequencers.get pf with actuatorTimer := t }

/-- The actuator timer starts with the actuator time in force (R83). -/
def State.startTimer (s : State) (pf : Platform) : State := s.setTimer pf (some s.settings.actuatorTime)

/-! ## Visit end (R78, R79) -/

/-- The outcome weights of Table 4-5. -/
def Visit.outcome (v : Visit) : Nat :=
  (if v.openFailed then 1 else 0) + (if v.closeFailed then 2 else 0) + (if v.late then 4 else 0) +
  (if v.retreated then 8 else 0)

/-- The sum of the assigned parties' boarded counts. -/
def Visit.boardedTotal (v : Visit) : Nat := (v.assigned.map Assigned.boarded).sum

/-- The value of a VISIT_END record (R79). -/
def Visit.endValue (v : Visit) : Int := (v.boardedTotal + 50 * v.alighted.getD 0 + 2048 * v.outcome : Nat)

/-- Some assigned party has a boarded count greater than 0. -/
def Visit.anyBoarded (v : Visit) : Bool := v.assigned.any fun e => 0 < e.boarded

/-- R99: the queue after the visit's unboarded parties come back to its front and all its parties leave assignment. -/
def Queue.takeBack (q : Queue) (assigned : List Assigned) : Queue :=
  { entries := (assigned.filter fun e => e.boarded = 0).map Assigned.party ++ q.entries
    outCount := q.outCount - assigned.length }

/-- R78, step 3: the Cabin Table's part, for a visit that set the in-visit field. -/
def State.endInCabin (s : State) (v : Visit) : State :=
  if v.state = .passing then s
  else s.modifyCabin v.cabin fun c => c.visitEnd (v.boardingOffered && !v.retreated) v.anyBoarded

/-- R78: the end of the visit `v` of a platform, in the order of its steps. The actuator code at the end of every visit is
CLOSE: the Sequencer writes it, and so replaces a re-close still pending (R56; DEDUCED, log 24). -/
def State.endVisit (s : State) (pf : Platform) (v : Visit) : State :=
  let s := s.command pf .close
  let s := s.setQueue pf ((s.queues.get pf).takeBack v.assigned)
  let s := s.endInCabin v
  let s := if v.state = .passing then s else s.logBerth .visitEnd v.cabin pf v.endValue
  let q := s.sequencers.get pf
  let s := s.setSequencer pf { q with current := none, last := some v, actuatorTimer := none
                                      doorLate := if v.late then false else q.doorLate }
  if v.late then s.formDoorLate else s

/-! ## Closing (R69 to R73) -/

/-- R70, R77, R80: the test of the door state in CLOSING. R70 has the actuator code stay CLOSE on the move to SECURED, so the
Sequencer writes it, in place of a re-close still pending (R56; DESIGN CHOICE, log 24: R70 names no write, and R56 would let
the RELEASE go out). -/
def State.testLatched (s : State) (pf : Platform) (v : Visit) : State :=
  if v.state = .closing ∧ s.doorOf v.cabin = .latched then
    if v.late || v.positionLost then s.endVisit pf v
    else ((s.command pf .close).setVisit pf { v with state := .secured }).setTimer pf none
  else s

/-- A visit enters CLOSING: CLOSE commanded, the timer started, no retry used (R65, R69, R71, R75), and the door state
tested on entry (R70). -/
def State.beginClosing (s : State) (pf : Platform) (v : Visit) : State :=
  let v := { v with state := .closing, retries := 0 }
  (((s.command pf .close).setVisit pf v).startTimer pf).testLatched pf v

/-! ## Opening (R62, R65) -/

/-- R65: the test for OPEN, and on the move the assignment of a BOARD visit (R66). -/
def State.testOpen (s : State) (pf : Platform) (v : Visit) : State :=
  if v.state = .opening ∧ (s.loop.berths.get pf).position = .opened ∧ s.doorOf v.cabin = .opened then
    ((s.setVisit pf { v with state := .opened }).setTimer pf none).assignIfDue pf
  else s

/-! ## The cabin at ENTER (R60, R61) -/

/-- The directive of the active bank's entry for a pair; absent is NORMAL (R104). -/
def Bank.directiveFor (x : Bank) (k : Nat) (pf : Platform) : Option PlanDirective :=
  (x.entries.find? fun e => e.cabin = k && e.platform = pf).map PlanEntry.directive

def Role.allowsAlighting : Role → Bool
  | .boardAlight => true
  | .alightOnly => true
  | .boardOnly => false
  | .off => false

def Role.allowsBoarding : Role → Bool
  | .boardAlight => true
  | .boardOnly => true
  | .alightOnly => false
  | .off => false

/-- R33: the distance run since boarded-at, 0 where there is none. -/
def State.distanceRun (s : State) (c : Cabin) : Nat :=
  match c.boardedAt with
  | some t => (s.position.tau - t).toNat
  | none => 0

/-- R61, step 3. -/
def State.alightingDue (s : State) (role : Role) (d : Option PlanDirective) (c : Cabin) : Bool :=
  d ≠ some .pass && role.allowsAlighting &&
  (c.occupancyUnknown || (0 < c.occupancy && s.settings.rideLength ≤ s.distanceRun c))

/-- A plan directive under which boarding may be offered: NORMAL or RESERVED (R61, step 4). -/
def allowsBoarding : Option PlanDirective → Bool
  | none => true
  | some (.reserved _) => true
  | some .pass => false
  | some .alightOnly => false

/-- R61, step 4. -/
def State.boardingOffered (s : State) (role : Role) (d : Option PlanDirective) (c : Cabin) : Bool :=
  role.allowsBoarding && allowsBoarding d && c.service = .inService && (c.gate = .opened || c.openOnce) &&
  !s.holds.held.atLeast .unload && (c.knownEmpty || s.alightingDue role d c)

/-- R61, step 5. -/
def Directive.of (alight board : Bool) : Directive :=
  match alight, board with
  | true, true => .alightBoard
  | true, false => .alight
  | false, true => .board
  | false, false => .skip

/-- The tag a plan directive reserves. -/
def reservedTag : Option PlanDirective → Option Nat
  | some (.reserved t) => some t
  | _ => none

/-- R60, R61: the record a visit of cabin `k` at a platform begins with. -/
def State.newVisit (s : State) (pf : Platform) (k : Nat) (c : Cabin) : Visit :=
  let withdrawn := c.service = .withdrawn
  let d := s.plans.active.directiveFor k pf
  let role := s.position.points.roles.get pf
  let alight := !withdrawn && s.alightingDue role d c
  let board := !withdrawn && s.boardingOffered role d c
  let directive := Directive.of alight board
  { number := ((s.sequencers.get pf).visitNumber + 1) % 256, cabin := k, directive := directive
    reservedTag := if withdrawn then none else reservedTag d
    occupancyAtEnter := if c.occupancyUnknown then none else some c.occupancy
    alighted := none, assigned := []
    state := if directive = .skip then .passing else .opening
    retries := 0, boardingOffered := board, assignmentAsked := false, boardingCounted := false, openFailed := false
    closeFailed := false, late := false, retreated := false, positionLost := false }

/-- R60, R62: a visit is created, in PASSING, or in OPENING with the door commanded. -/
def State.createVisit (s : State) (pf : Platform) (k : Nat) (c : Cabin) : State :=
  let v := s.newVisit pf k c
  let s := s.setSequencer pf { s.sequencers.get pf with current := some v, visitNumber := v.number }
  if v.state = .passing then s
  else
    let s := (s.command pf .opening).modifyCabin k fun c => { c with inVisit := some pf }
    let s := (s.startTimer pf).logBerth .visitStart k pf v.directive.code
    s.testOpen pf v

/-- R64, R107: the ENTER of another cabin while a visit holds the platform. -/
def State.missBerth (s : State) (pf : Platform) (k : Nat) (v : Visit) : State :=
  let s := s.logBerth .missedBerth k pf v.cabin
  if s.plans.active.stopOnMiss then s.deliverEvent .berthMiss (s.programmed .berthMiss) else s

/-- R61, R64: the ENTER crossing of cabin `k`. -/
def State.takeEnter (s : State) (pf : Platform) (k : Nat) : State :=
  match (s.sequencers.get pf).current with
  | some v => if v.cabin = k then s else s.missBerth pf k v
  | none =>
    match s.cabins[k]? with
    | some c => s.createVisit pf k c
    | none => s

/-- R71: the CLOSE crossing of cabin `k`. -/
def State.takeClose (s : State) (pf : Platform) (k : Nat) : State :=
  match (s.sequencers.get pf).current with
  | some v =>
    if v.cabin = k ∧ (v.state = .opened ∨ v.state = .opening) then s.beginClosing pf v else s
  | none => s

/-- R75: the late flag and the platform's DOOR_LATE condition. -/
def State.makeLate (s : State) (pf : Platform) (v : Visit) : State :=
  (s.setSequencer pf { s.sequencers.get pf with current := some v, doorLate := true }).formDoorLate

/-- R74, R75: the EXIT crossing of cabin `k`. -/
def State.takeExit (s : State) (pf : Platform) (k : Nat) : State :=
  match (s.sequencers.get pf).current with
  | some v =>
    if v.cabin ≠ k then s
    else
      let late := { v with late := true }
      match v.state with
      | .passing => s.endVisit pf v
      | .secured => s.endVisit pf v
      | .closing => s.makeLate pf late
      | .opening => (s.makeLate pf late).beginClosing pf late
      | .opened => (s.makeLate pf late).beginClosing pf late
  | none => s

/-- A crossing handed to a platform's Sequencer (R11). -/
def State.takeCrossing (s : State) (pf : Platform) (x : Nat × Crossing) : State :=
  match x.2 with
  | .enter => s.takeEnter pf x.1
  | .close => s.takeClose pf x.1
  | .exit => s.takeExit pf x.1

/-- R63: the ENTER retreat of cabin `k`. -/
def State.takeRetreat (s : State) (pf : Platform) (k : Nat) : State :=
  match (s.sequencers.get pf).current with
  | some v =>
    if v.cabin ≠ k then s
    else if v.state = .passing then s.endVisit pf v
    else if v.state = .opening ∧ s.doorOf k = .latched then
      (s.command pf .close).endVisit pf { v with retreated := true }
    else s
  | none => s

/-- R80: the position becomes unverified while a visit is current. -/
def State.losePosition (s : State) (pf : Platform) : State :=
  match (s.sequencers.get pf).current with
  | some v =>
    let lost := { v with positionLost := true }
    if v.state = .passing ∨ v.state = .secured then s.endVisit pf lost else s.setVisit pf lost
  | none => s

/-- R65, R70, R72: what a platform's visit does at a change of its cabin's door state or of its berth's actuator
position; `doorBefore` is the door state before the change. -/
def State.feedBack (s : State) (pf : Platform) (doorBefore : DoorState) : State :=
  match (s.sequencers.get pf).current with
  | some v =>
    match v.state with
    | .opening => s.testOpen pf v
    | .closing => s.testLatched pf v
    | .secured =>
      if doorBefore = .latched ∧ s.doorOf v.cabin ≠ .latched then
        (s.setVisit pf { v with state := .closing }).startTimer pf
      else s
    | .passing => s
    | .opened => s
  | none => s

/-- R65, R73: the actuator timer of a platform expires. -/
def State.expireActuator (s : State) (pf : Platform) : State :=
  match (s.sequencers.get pf).actuatorTimer, (s.sequencers.get pf).current with
  | some _, some v =>
    match v.state with
    | .opening => s.beginClosing pf { v with openFailed := true }
    | .closing =>
      if v.retries < s.settings.closeRetries then
        ((s.reclose pf).setVisit pf { v with retries := v.retries + 1 }).startTimer pf
      else (s.setVisit pf { v with closeFailed := true }).setTimer pf none
    | .passing => s.setTimer pf none
    | .opened => s.setTimer pf none
    | .secured => s.setTimer pf none
  | some _, none => s.setTimer pf none
  | none, _ => s

end Sys2Proof.Machine
end

