-- ==== Sys2Proof/Machine/Scanner.lean ====
section
/-! DEFINITION. The Status Loop Scanner (Sections 3.1 to 3.4): good and failed scans, debounce, door states, actuator
positions, conflicts, and the away set. -/

namespace Sys2Proof.Machine

/-! ## Doors away from the platform (R50, R51) -/

/-- The cabin's phase is outside the window of a platform, or the platform's role in force is OFF (R50, clause 3). -/
def State.clearOf (s : State) (k : Nat) (pf : Platform) : Bool :=
  s.position.points.roles.get pf = .off || !s.position.points.inWindow (s.phaseAt s.position.theta pf k)

/-- R50, its four clauses. -/
def State.isAway (s : State) (k : Nat) (c : Cabin) : Bool :=
  (c.door = .closed || c.door = .opened) && s.position.verified && s.clearOf k .a && s.clearOf k .b &&
  c.inVisit.isNone

/-- R51: the numbers of the cabins that are away, ascending. -/
def State.awaySet (s : State) : List Nat :=
  (List.range s.cabins.length).filter fun k => (s.cabins[k]?.map (s.isAway k)).getD false

/-- R51: the away set is judged again, and DOOR_AWAY's condition grade with it. -/
def State.judgeAway (s : State) : State :=
  let away := s.awaySet
  State.setCondition { s with loop := { s.loop with away := away } } .doorAway (if away.isEmpty then .none else .brake)

/-! ## Contacts (R42, R46 to R48) -/

def Contact.ofReading (made : Bool) : Contact := if made then .made else .notMade

/-- R42: the accepted value of one contact after a good scan, with the reading of the previous good scan where there
is one. -/
def debounce (accepted : Contact) (previous : Option Bool) (reading : Bool) : Contact :=
  match previous with
  | some p => if p = reading then Contact.ofReading reading else accepted
  | none => accepted

/-- Table 3-3. -/
def DoorState.ofContacts (doorClosed latch : Contact) : DoorState :=
  match doorClosed, latch with
  | .unknown, _ => .unknown
  | _, .unknown => .unknown
  | .made, .made => .latched
  | .made, .notMade => .closed
  | .notMade, .made => .opened
  | .notMade, .notMade => .opened

/-- Table 3-5. -/
def ActuatorPosition.ofContacts (openStop closedStop : Contact) : ActuatorPosition :=
  match openStop, closedStop with
  | .unknown, _ => .unknown
  | _, .unknown => .unknown
  | .made, .notMade => .opened
  | .notMade, .made => .closed
  | .notMade, .notMade => .moving
  | .made, .made => .conflict

/-- A cabin's loop record for accepted contacts: the conflict is open with latched (R47). -/
def LoopCabin.ofContacts (doorClosed latch : Contact) : LoopCabin :=
  { doorClosed := doorClosed, latch := latch, conflict := doorClosed = .notMade && latch = .made }

/-- A berth's loop record for accepted contacts: the conflict is both stops made (R47), the position Table 3-5's. -/
def LoopBerth.ofContacts (openStop closedStop : Contact) : LoopBerth :=
  { openStop := openStop, closedStop := closedStop, conflict := openStop = .made && closedStop = .made
    position := ActuatorPosition.ofContacts openStop closedStop }

def LoopCabin.door (x : LoopCabin) : DoorState := DoorState.ofContacts x.doorClosed x.latch

/-- R42 for the two contacts of a cabin. -/
def LoopCabin.accept (x : LoopCabin) (previous : Option (Bool × Bool)) (reading : Bool × Bool) : LoopCabin :=
  LoopCabin.ofContacts (debounce x.doorClosed (previous.map Prod.fst) reading.1)
    (debounce x.latch (previous.map Prod.snd) reading.2)

/-- R42 for the two stop contacts of a berth. -/
def LoopBerth.accept (x : LoopBerth) (previous : Option (Bool × Bool)) (reading : Bool × Bool) : LoopBerth :=
  LoopBerth.ofContacts (debounce x.openStop (previous.map Prod.fst) reading.1)
    (debounce x.closedStop (previous.map Prod.snd) reading.2)

/-! ## The readings of a scan -/

/-- The contacts in loop order (Section 3.1): each cabin's door-closed and latch contact, then OPEN stop and CLOSED
stop of A and of B. -/
def Readings.ofContacts (n : Nat) (xs : List Bool) : Readings :=
  let at' (i : Nat) : Bool := xs.getD i false
  { cabins := (List.range n).map fun k => (at' (2 * k), at' (2 * k + 1))
    berths := { a := (at' (2 * n), at' (2 * n + 1)), b := (at' (2 * n + 2), at' (2 * n + 3)) } }

/-- R41: the scan is good when the pattern returned after 2N + 4 contacts matches in every bit. A loop of another
length cannot return it in its place (log 20). -/
def scanGood (n : Nat) (pattern : Byte) (contacts : List Bool) : Bool :=
  pattern = Config.checkPattern && contacts.length = 2 * n + 4

/-! ## The effects of a scan's end -/

/-- R47: the records of the conflicts that begin between two accepted states, cabins in order, then A and B (DESIGN
CHOICE, log 7). -/
def State.logConflicts (s : State) (before after : Loop) : State :=
  let s := (List.range after.cabins.length).foldl (fun s k =>
    let was := (before.cabins[k]?.map LoopCabin.conflict).getD false
    let is := (after.cabins[k]?.map LoopCabin.conflict).getD false
    if is && !was then s.logConflict (some k) none 0 else s) s
  let berth (s : State) (pf : Platform) : State :=
    if (after.berths.get pf).conflict && !(before.berths.get pf).conflict then s.logConflict none (some pf) 1 else s
  berth (berth s .a) .b

/-- R46: the door state of every cabin is derived again and written into its record (R35). -/
def State.writeDoors (s : State) : State :=
  { s with cabins := s.cabins.mapIdx fun k c =>
      { c with door := ((s.loop.cabins[k]?).map LoopCabin.door).getD .unknown } }

/-- The door state of the cabin of a platform's current visit. -/
def State.visitDoor (s : State) (pf : Platform) : DoorState :=
  match (s.sequencers.get pf).current with
  | some v => s.doorOf v.cabin
  | none => .unknown

/-- New accepted contacts: the door states are written, the conflicts recorded, and the door states and actuator
positions handed to the Sequencers (R46 to R48). No rule orders these: the conflicts come first, of the cabins in
ascending order and then of A and B, and the Sequencer of A is fed before that of B (DESIGN CHOICE, log 7). -/
def State.takeContacts (s : State) (after : Loop) : State :=
  let doorA := s.visitDoor .a
  let doorB := s.visitDoor .b
  let before := s.loop
  let s := (State.writeDoors { s with loop := after }).logConflicts before after
  (s.feedBack .a doorA).feedBack .b doorB

/-- R42: the debounce of every contact against the previous good scan. -/
def Loop.accept (x : Loop) (previous : Option Readings) (r : Readings) : Loop :=
  { x with
    newest := some r, previous := previous
    cabins := x.cabins.mapIdx fun k c =>
      match r.cabins[k]? with
      | some now => c.accept (previous.bind fun p => p.cabins[k]?) now
      | none => c
    berths :=
      { a := x.berths.a.accept (previous.map fun p => p.berths.a) r.berths.a
        b := x.berths.b.accept (previous.map fun p => p.berths.b) r.berths.b } }

/-- R44: every contact unknown, both good scans discarded, the condition set. -/
def Loop.fail (x : Loop) : Loop :=
  { x with
    newest := none, previous := none, loopFault := true
    cabins := x.cabins.map fun _ => LoopCabin.unreported
    berths := { a := LoopBerth.unreported, b := LoopBerth.unreported } }

/-- R45: the first good scan of a fault clears the condition and is recorded. -/
def State.clearLoopFault (s : State) : State :=
  if s.loop.loopFault then
    let count : Nat := s.loop.failedCount
    let s := State.logPlain { s with loop := { s.loop with loopFault := false } } .loopOk count
    s.formProgrammed .loopFault false
  else s

/-- R42, R43, R45: the end of a good scan with its readings. After a fault the previous good scan is absent, since R44
discarded both. A stale scan's readings are discarded unread (R49). -/
def State.goodScan (s : State) (stale : Bool) (r : Readings) : State :=
  let s := s.clearLoopFault
  let s := { s with loop := { s.loop with failedCount := 0 } }
  if stale then s else s.takeContacts (s.loop.accept s.loop.newest r)

/-- R43, R44: the end of a failed scan. -/
def State.failedScan (s : State) : State :=
  let count := min 32767 (s.loop.failedCount + 1)
  let s := { s with loop := { s.loop with failedCount := count } }
  if count = 2 then
    let s := s.logPlain .loopFault 2
    let s := s.takeContacts s.loop.fail
    s.formProgrammed .loopFault true
  else s

/-- R40: the scan timer expires and starts a scan. A scan still in progress goes on as it began (log 14). -/
def State.startScan (s : State) : State :=
  { s with loop :=
      { s.loop with scanTimer := s.settings.scanPeriod
                    scan := some (s.loop.scan.getD { cabins := s.geometry.n, stale := false }) } }

/-- R41: the end of the scan in progress, with the 8 bits that came out of the loop and the contacts read. -/
def State.endScan (s : State) (pattern : Byte) (contacts : List Bool) : State :=
  match s.loop.scan with
  | none => s
  | some x =>
    let s := { s with loop := { s.loop with scan := none } }
    let s :=
      if scanGood x.cabins pattern contacts then s.goodScan x.stale (Readings.ofContacts x.cabins contacts)
      else s.failedScan
    s.judgeAway

end Sys2Proof.Machine
end

