-- ==== Sys2Proof/Machine/OutputChain.lean ====
section
/-! DEFINITION. The Berth Output Chain (Section 3.5) and the figures that are formed again at the end of every command:
lamps, ceiling, brake demand. -/

namespace Sys2Proof.Machine

/-- R52: a lamp is lit. -/
def LampCode.lit (x : LampCode) (phase : BlinkPhase) : Bool :=
  match x with
  | .off => false
  | .on => true
  | .blinkA => phase = .a
  | .blinkB => phase = .b

/-- R52: what a sequence carries for one platform. -/
def ImageUnit.content (x : ImageUnit) (phase : BlinkPhase) : FieldUnit :=
  { actuator := x.actuator, green := x.lamps.green.lit phase, amber := x.lamps.amber.lit phase
    red := x.lamps.red.lit phase }

/-- R52: the field content of the image. -/
def Output.content (x : Output) : PerPlatform FieldUnit :=
  { a := x.image.a.content x.blink, b := x.image.b.content x.blink }

/-- R56: what the start of a sequence that carries RELEASE leaves of one platform's image. -/
def ImageUnit.afterStart (x : ImageUnit) : ImageUnit :=
  if x.reclosePending then { x with actuator := .close, reclosePending := false } else x

/-- R54 to R56: a sequence starts with the field content as it stands. -/
def Output.startSequence (x : Output) : Output :=
  { x with sent := x.content, inProgress := true, refreshTimer := 100, image := x.image.map ImageUnit.afterStart }

/-- R54: a sequence starts when the field content differs from the sent content and none is in progress. -/
def Output.startIfDue (x : Output) : Output :=
  if x.content ≠ x.sent ∧ !x.inProgress then x.startSequence else x

/-- R54: the end of a sequence. Every field module applies what it received, and the next starts at once where the
field content differs. -/
def Output.endSequence (x : Output) : Output :=
  if x.inProgress then Output.startIfDue { x with applied := x.sent, inProgress := false } else x

/-- R55: the refresh timer expires. -/
def Output.refreshDue (x : Output) : Output := if x.inProgress then x else x.startSequence

/-- R52: the blink timer expires; it runs on for the next 500 ms. -/
def Output.toggle (x : Output) : Output :=
  { x with blink := if x.blink = .a then .b else .a, blinkTimer := 500 }

/-- The image's lamps for the visits and the held grade (R53). -/
def State.formLamps (s : State) : PerPlatform ImageUnit :=
  { a := { s.output.image.a with lamps := lampsFor s.holds.held s.sequencers.a.current }
    b := { s.output.image.b with lamps := lampsFor s.holds.held s.sequencers.b.current } }

/-- What follows other state at once is formed again: the lamp codes (R53), the ceiling (R160) and the brake demand
(R148). Every command that changes state ends here. -/
def State.refresh (s : State) : State :=
  { s with output := { s.output with image := s.formLamps }
           permit := { s.permit with ceiling := s.ceilingNow }
           brakeDemand := s.brakeWanted }

end Sys2Proof.Machine
end

