-- ==== Sys2Proof/Machine/WindAssessor.lean ====
section
/-! DEFINITION. The Wind Assessor's window end (R120), step by step: conversion, gust, mean, sensor faults, combined
wind, class. -/

namespace Sys2Proof.Machine

/-! ## One sensor -/

/-- R119: a pulse counts in the open window, up to 1,023. -/
def Anemometer.pulse (x : Anemometer) : Anemometer := { x with openCount := min 1023 (x.openCount + 1) }

/-- R121. -/
def windowSpeed (count factor : Nat) : Nat := min 600 ((count * factor + 128) / 256)

/-- R120, steps 1 and 3 for one sensor. -/
def Anemometer.closeWindow (x : Anemometer) (factor : Nat) : Anemometer :=
  let ring := newest 12 (x.windowRing ++ [windowSpeed x.openCount factor])
  { x with windowRing := ring, lastCount := x.openCount, openCount := 0, gust := roundedMean ring }

/-- R123: the one-second value and the mean. -/
def Anemometer.closeSecond (x : Anemometer) : Anemometer :=
  let ring := newest 60 (x.secondRing ++ [((newest 4 x.windowRing).sum + 2) / 4])
  { x with secondRing := ring, mean := roundedMean ring }

/-- What the fault and recovery tests of one window end find. -/
inductive SensorChange where
  | same
  | stalled
  | overran
  | recovered
  deriving DecidableEq, Repr

/-- What the other sensor contributes to a stall test: its fault state before the tests, and its gust (R124). -/
structure Companion where
  valid : Bool
  gust : Nat
  deriving DecidableEq, Repr

/-- A sensor with its stall timer, overrange run and recovery run at 0. -/
def Anemometer.rested (x : Anemometer) (faulted : Bool) : Anemometer :=
  { x with faulted := faulted, stallTimer := 0, overrangeRun := 0, recoveryRun := 0 }

/-- The three conditions of R124 under which a VALID sensor's stall timer advances. -/
def Anemometer.stalling (x : Anemometer) (other : Companion) (reference : Nat) : Bool :=
  x.lastCount = 0 && other.valid && reference ≤ other.gust

/-- R124, R125: the tests of a VALID sensor; the stall time is in seconds. -/
def Anemometer.faultTest (x : Anemometer) (other : Companion) (stallTime reference : Nat) :
    Anemometer × SensorChange :=
  let stall := if x.stalling other reference then x.stallTimer + 250 else 0
  let run := if x.lastCount = 1023 then x.overrangeRun + 1 else 0
  if x.stalling other reference ∧ 1000 * stallTime ≤ stall then (x.rested true, .stalled)
  else if 4 ≤ run then (x.rested true, .overran)
  else ({ x with stallTimer := stall, overrangeRun := run }, .same)

/-- R126: the test of a FAULTED sensor. -/
def Anemometer.recoveryTest (x : Anemometer) : Anemometer × SensorChange :=
  let run := if 1 ≤ x.lastCount ∧ x.lastCount ≤ 1022 then x.recoveryRun + 1 else 0
  if 240 ≤ run then (x.rested false, .recovered) else ({ x with recoveryRun := run }, .same)

/-- R120, step 5 for one sensor. -/
def Anemometer.test (x : Anemometer) (other : Companion) (stallTime reference : Nat) : Anemometer × SensorChange :=
  if x.faulted then x.recoveryTest else x.faultTest other stallTime reference

def Anemometer.companion (x : Anemometer) : Companion := { valid := !x.faulted, gust := x.gust }

/-- The sensor's number in the values of Table 7-5. -/
def sensorOrdinal : Sensor → Nat
  | .crown => 0
  | .deck => 1

/-- The record of a sensor's change (Table 7-5). -/
def State.logSensor (s : State) (k : Sensor) (c : SensorChange) : State :=
  match c with
  | .same => s
  | .stalled => s.logPlain .sensorFault ((1 + 2 * sensorOrdinal k : Nat) : Int)
  | .overran => s.logPlain .sensorFault ((2 + 2 * sensorOrdinal k : Nat) : Int)
  | .recovered => s.logPlain .sensorRecovered ((1 + sensorOrdinal k : Nat) : Int)

/-! ## The combined wind (R127) -/

/-- R127, Table 7-7: G and M from the sensors that are VALID; kept while there is none. -/
def Wind.combine (w : Wind) : Wind :=
  let c := w.sensors.crown
  let d := w.sensors.deck
  match c.faulted, d.faulted with
  | false, false =>
    { w with gust := Nat.max c.gust d.gust, mean := Nat.max c.mean d.mean, sensorCondition := false }
  | false, true => { w with gust := c.gust, mean := c.mean, sensorCondition := false }
  | true, false => { w with gust := d.gust, mean := d.mean, sensorCondition := false }
  | true, true => { w with sensorCondition := true }

/-! ## The class (R128, R129) -/

/-- A rise threshold of the row is reached. -/
def ClassRow.reached (r : ClassRow) (g m : Nat) : Bool := r.ug ≤ g || r.um ≤ m

/-- Both figures are below the row's fall thresholds. -/
def ClassRow.fallen (r : ClassRow) (g m : Nat) : Bool := g < r.dg && m < r.dm

/-- The rise level r of R128. -/
def ClassTable.riseLevel (t : ClassTable) (g m : Nat) : Nat :=
  if t.c4.reached g m then 4 else if t.c3.reached g m then 3 else if t.c2.reached g m then 2
  else if t.c1.reached g m then 1 else 0

/-- A class with the quiet timer beside it. -/
structure ClassStep where
  windClass : WindClass
  quietTimer : Nat
  deriving DecidableEq, Repr

/-- R128 for a class `c`, at a window end with a sensor VALID. -/
def ClassTable.evaluate (t : ClassTable) (g m c quiet : Nat) : ClassStep :=
  let r := t.riseLevel g m
  let row := t.get c
  if c < r then { windClass := .level r, quietTimer := 0 }
  else if 0 < c ∧ row.fallen g m then
    if 1000 * row.q ≤ quiet + 250 then { windClass := .level (c - 1), quietTimer := 0 }
    else { windClass := .level c, quietTimer := quiet + 250 }
  else { windClass := .level c, quietTimer := 0 }

/-- R128, R129: the class and the quiet timer after a window end. -/
def Wind.classStep (w : Wind) (t : ClassTable) : ClassStep :=
  if w.sensorCondition then { windClass := w.windClass, quietTimer := 0 }
  else match w.windClass with
    | .pending =>
      if w.windowEnds < 240 then { windClass := .pending, quietTimer := 0 }
      else { windClass := .level (t.riseLevel w.gust w.mean), quietTimer := 0 }
    | .level c => t.evaluate w.gust w.mean c w.quietTimer

/-- R130: a change of the class is recorded, with PENDING as 9, and its grade handed to the Hold Table. -/
def State.changeClass (s : State) (old new : WindClass) : State :=
  if old = new then s
  else (s.logGrade .classChange new.grade ((10 * old.code + new.code : Nat) : Int)).setCondition .wind new.grade

/-! ## The window end -/

/-- R120, steps 1 to 4. -/
def Wind.closeWindows (w : Wind) (factors : PerSensor Nat) : Wind :=
  let group := (w.groupPosition + 1) % 4
  let c := w.sensors.crown.closeWindow factors.crown
  let d := w.sensors.deck.closeWindow factors.deck
  { w with windowEnds := min 240 (w.windowEnds + 1), groupPosition := group
           sensors := if group = 0 then { crown := c.closeSecond, deck := d.closeSecond }
                      else { crown := c, deck := d } }

/-- R120, step 5: the tests of both sensors, each against the other as it stood before them. CROWN is recorded first
(DESIGN CHOICE, log 7: no rule orders the two records). -/
def State.testSensors (s : State) : State :=
  let x := s.wind.sensors
  let crown := x.crown.test x.deck.companion s.settings.stallTime s.settings.stallReference
  let deck := x.deck.test x.crown.companion s.settings.stallTime s.settings.stallReference
  let s := { s with wind := { s.wind with sensors := { crown := crown.1, deck := deck.1 } } }
  (s.logSensor .crown crown.2).logSensor .deck deck.2

/-- R120, step 7. -/
def State.judgeClass (s : State) : State :=
  let old := s.wind.windClass
  let step := s.wind.classStep s.settings.classes
  State.changeClass { s with wind := { s.wind with windClass := step.windClass, quietTimer := step.quietTimer } } old
    step.windClass

/-- R120: the Wind Assessor's operation at a window end. -/
def State.windWindow (s : State) : State :=
  let s := { s with wind := s.wind.closeWindows s.settings.factors }
  let s := s.testSensors
  let s := { s with wind := s.wind.combine }
  let s := s.formProgrammed .windSensor s.wind.sensorCondition
  s.judgeClass

end Sys2Proof.Machine
end

