-- ==== Sys2Proof/Machine/PositionCounter.lean ====
section
/-! DEFINITION. The Position Counter's events (Chapter 1) and the revolution boundary of the Plan Banks (R112 to R114):
ticks, index edges, window ends. -/

namespace Sys2Proof.Machine

/-! ## The revolution boundary (R7, R112 to R114) -/

/-- R112, step 1: a bank's revolutions run. -/
def Bank.countRevolution (x : Bank) : Bank := { x with run := min 255 (x.run + 1) }

/-- R112, step 3: the bank is exhausted. -/
def Bank.exhausted (x : Bank) : Bool := x.mode = .single && x.count ≤ x.run

/-- R113: the banks after a swap. The ready flag of the bank that becomes active stays as PLAN SWAP set it, until that bank
is retired (DESIGN CHOICE, log 25: R112 says that the swap clears the flag, R113 names the bank that becomes standby
alone). -/
def Plans.swapped (x : Plans) : Plans :=
  let retired := x.setActive { x.active with ready := false }
  let turned := { retired with oneActive := !x.oneActive, swapPending := false, planEnd := false }
  turned.setActive { turned.active with run := 0 }

/-- R113: the banks turn over, the PLAN_END condition clears, and PLAN_SWAPPED is recorded, in the order of the rule. -/
def State.swapPlans (s : State) : State :=
  let s := { s with plans := s.plans.swapped }
  (s.formProgrammed .planEnd false).logPlain .planSwapped s.plans.activeNumber

/-- R114. -/
def State.endPlan (s : State) : State :=
  let s := { s with plans := { s.plans with planEnd := true } }
  (s.logPlain .planEnd s.plans.active.count).formProgrammed .planEnd true

/-- R112: what the Plan Banks do at a revolution boundary. -/
def State.planBoundary (s : State) : State :=
  let s :=
    if s.plans.planEnd then s
    else { s with plans := s.plans.setActive s.plans.active.countRevolution }
  if s.plans.swapPending then s.swapPlans
  else if s.plans.active.exhausted && !s.plans.planEnd then s.endPlan
  else s

/-- R7. -/
def State.boundary (s : State) : State :=
  State.planBoundary
    { s with position := { s.position with revolutions := (s.position.revolutions + 1) % 65536 } }

/-! ## Ticks (R1 to R3, R11, R12) -/

/-- R1 to R3 for a forward tick; the points and roles as configured come into force (R15). -/
def Position.forward (x : Position) (g : Geometry) : Position :=
  { x with theta := (x.theta + 1) % g.p, tau := x.tau + 1, lastDirection := .forward
           reverseRun := x.reverseRun - 1, openWindow := min 32767 (x.openWindow + 1)
           points := Points.ofGeometry g }

/-- R1 to R3 for a reverse tick, the test of the reverse run left to `State.reverseTest`; the points of the θ it leaves are
no longer crossed (R12). -/
def Position.backward (x : Position) (g : Geometry) : Position :=
  { x.passOver x.theta with
    theta := (x.theta + g.p - 1) % g.p, tau := x.tau - 1, lastDirection := .reverse
    reverseRun := x.reverseRun + 1, openWindow := max (-32767) (x.openWindow - 1)
    points := Points.ofGeometry g }

/-- R2: a run above the allowance delivers its event and starts again at 0. -/
def State.reverseTest (s : State) : State :=
  if s.settings.reverseAllowance < s.position.reverseRun then
    State.deliverEvent { s with position := { s.position with reverseRun := 0 } } .reverse .stop
  else s

/-- R11: the crossings of a forward movement of θ handed to a platform's Sequencer. -/
def State.handCrossings (s : State) (before after : Nat) (pf : Platform) : State :=
  (s.forwardCrossings before after pf).foldl (fun s x => s.takeCrossing pf x) s

/-- R12: the retreats of a reverse tick handed to a platform's Sequencer. -/
def State.handRetreats (s : State) (before after : Nat) (pf : Platform) : State :=
  (s.retreats before after pf).foldl (fun s k => s.takeRetreat pf k) s

/-- R166: an overshoot delivers its event. -/
def State.overshootTest (s : State) : State := if s.overshot then s.deliverEvent .parkOvershoot .stop else s

/-- The tests that a tick makes of the park record (R165, R166). -/
def State.parkTests (s : State) : State := ((s.unparkTest).parkedTest).overshootTest

/-- The tick has passed the points of a θ (R11). -/
def State.passOver (s : State) (theta : Nat) : State := { s with position := s.position.passOver theta }

/-- A forward tick, all its effects but the figures that `State.refresh` forms. No rule orders the crossings and the park
tests of one tick: A's crossings come first, then B's, then the park tests, then the away set (DESIGN CHOICE, log 7). -/
def State.forwardTick (s : State) : State :=
  let before := s.position.theta
  let s := { s with position := s.position.forward s.geometry }
  let after := s.position.theta
  ((((s.handCrossings before after .a).handCrossings before after .b).passOver after).parkTests).judgeAway

/-- A reverse tick, likewise: REVERSE's event first, then A's retreats, B's, the park tests, the away set (DESIGN CHOICE,
log 7). -/
def State.reverseTick (s : State) : State :=
  let before := s.position.theta
  let s := State.reverseTest { s with position := s.position.backward s.geometry }
  let after := s.position.theta
  (((s.handRetreats before after .a).handRetreats before after .b).parkTests).judgeAway

/-! ## The index edge (R4 to R8, R167) -/

/-- A park record whose target an index edge moves: one in PARKING or STEPPING. -/
def ParkRecord.moves (r : ParkRecord) : Bool := r.state ≠ .parked

/-- R167: the target follows a correction by `d`. -/
def State.shiftTarget (s : State) (d : Int) : State :=
  match s.permit.park with
  | none => s
  | some r => if r.moves then s.setPark (some { r with target := r.target + BitVec.ofInt 32 d }) else s

/-- R167: the target is computed afresh at the edge that verifies the position. -/
def State.retarget (s : State) : State :=
  match s.permit.park with
  | none => s
  | some r => if r.moves then s.setPark (some { r with target := s.parkTarget r.offset }) else s

/-- A park record stands whose target an index edge moves. -/
def State.targetMoves (s : State) : Bool := (s.permit.park.map ParkRecord.moves).getD false

/-- R167: the tests after a move of the target; without a move there are none. -/
def State.movedTests (s : State) (moved : Bool) : State := if moved then (s.parkedTest).overshootTest else s

/-- R6: the edge that verifies the position. Crossings are judged from the new θ, so no point stays crossed. -/
def State.verifyEdge (s : State) : State :=
  let moved := s.targetMoves
  let s := { s with position := { s.position with theta := 0, verified := true, stillCrossed := [] } }
  ((((s.logPlain .index 0).retarget).formPosition).movedTests moved).judgeAway

/-- R4, R11: θ after a correction by `d`; a backward one leaves the points it takes phases back over crossed (log 23). -/
def State.correct (s : State) (d : Int) : State :=
  let back := if 0 < d then s.takenBack s.position.theta else []
  { s with position := { s.position with theta := 0, stillCrossed := back ++ s.position.stillCrossed } }

/-- R4: an edge within the tolerance, with offset `d`. The order of its effects beyond R4 and R115 is log 7's (DESIGN
CHOICE). -/
def State.goodEdge (s : State) (d : Int) : State :=
  let before := s.position.theta
  let moved := d ≠ 0 && s.targetMoves
  let s := (s.correct d).logPlain .index d
  let s := s.shiftTarget d
  let s := if d < 0 then (s.handCrossings before 0 .a).handCrossings before 0 .b else s
  let s := s.boundary
  (s.movedTests moved).judgeAway

/-- R5: an edge beyond the tolerance, with offset `d`: one change of the POSITION source by its condition and its
event (log 21). R5 orders INDEX_MISMATCH ahead of POSITION's HOLD_RAISED and nothing more: that POSITION changes next,
then the visits of A and of B lose the position (R80), and the revolution boundary comes last is the model's order
(DESIGN CHOICE, log 7). -/
def State.badEdge (s : State) (d : Int) : State :=
  let s := { s with position := { s.position with theta := 0, verified := false, stillCrossed := [] } }
  let s := s.logPlain .indexMismatch d
  let s := s.changeSource .position fun r => (r.withCond .unload).withEvent .stop
  let s := (s.losePosition .a).losePosition .b
  (s.boundary).judgeAway

/-- R4 to R6: an index edge that is taken. -/
def State.takenEdge (s : State) : State :=
  if s.position.verified then
    let d := signedMod s.position.theta s.geometry.p
    if d.natAbs ≤ s.settings.indexTolerance then s.goodEdge d else s.badEdge d
  else s.verifyEdge

/-! ## The window end (R3) -/

/-- R3: the open window closes and v is formed again. -/
def Position.closeWindow (x : Position) : Position :=
  let w := x.closedWindows
  { x with closedWindows := { w1 := w.w2, w2 := w.w3, w3 := w.w4, w4 := x.openWindow }, openWindow := 0
           v := w.w2 + w.w3 + w.w4 + x.openWindow, windowTimer := 250 }

/-- The end of a speed window and of a wind window (R3, R165, R120). No rule orders the two: v and the parked test come
first, then the wind (DESIGN CHOICE, log 7). -/
def State.windowEnd (s : State) : State :=
  (State.parkedTest { s with position := s.position.closeWindow }).windWindow

end Sys2Proof.Machine
end

