-- ==== Sys2Proof/Machine/Store.lean ====
section
/-! DEFINITION. The Configuration Store (Sections 11.1 and 11.2): reading and writing an item, the tests of a written
value, the effects of an accepted write, saving and loading. -/

namespace Sys2Proof.Machine

/-! ## Items of the working configuration (Table 11-1) -/

def ClassRow.column (r : ClassRow) : Column → Nat
  | .ug => r.ug
  | .um => r.um
  | .dg => r.dg
  | .dm => r.dm

def ClassRow.withColumn (r : ClassRow) (col : Column) (v : Nat) : ClassRow :=
  match col with
  | .ug => { r with ug := v }
  | .um => { r with um := v }
  | .dg => { r with dg := v }
  | .dm => { r with dm := v }

/-- The value of a geometry item; 0 for an item of another kind. -/
def Geometry.read (g : Geometry) : Item → Nat
  | .n => g.n
  | .p => g.p
  | .enter => g.enter
  | .close => g.close
  | .exit => g.exit
  | .beta => g.beta
  | .park => Platform.code g.park
  | .role pf => (g.roles.get pf).code
  | _ => 0

def Settings.readPermit (x : Settings) : PermitItem → Nat
  | .absolute => x.speeds.absolute
  | .limit => x.speeds.limit
  | .unload => x.speeds.unload
  | .boarding => x.speeds.boarding
  | .step => x.speeds.step
  | .homing => x.speeds.homing
  | .silence => x.silenceTime
  | .deceleration => x.deceleration

/-- The value of an item as CONFIG READ and CONFIG WRITE give it. -/
def Settings.read (x : Settings) (i : Item) : Nat :=
  match i with
  | .indexTolerance => x.indexTolerance
  | .reverseAllowance => x.reverseAllowance
  | .disagreementTolerance => x.disagreementTolerance
  | .alignTolerance => x.alignTolerance
  | .rideLength => x.rideLength
  | .scanPeriod => x.scanPeriod
  | .actuatorTime => x.actuatorTime
  | .closeRetries => x.closeRetries
  | .passLimit => x.passLimit
  | .partyLimit => x.partyLimit
  | .factor k => x.factors.get k
  | .stallTime => x.stallTime
  | .stallReference => x.stallReference
  | .threshold col c => (x.classes.get c).column col
  | .quiet c => (x.classes.get c).q
  | .programmed src => (x.programmed.get src).value
  | .auto src => if x.auto.get src then 1 else 0
  | .permit k => x.readPermit k
  | _ => x.geometry.read i

/-- The geometry that a write of `v` to a geometry item would leave; absent where `v` is no code of the item. -/
def Geometry.withItem (g : Geometry) (i : Item) (v : Nat) : Option Geometry :=
  match i with
  | .n => some { g with n := v }
  | .p => some { g with p := v }
  | .enter => some { g with enter := v }
  | .close => some { g with close := v }
  | .exit => some { g with exit := v }
  | .beta => some { g with beta := v }
  | .park => (Platform.ofCode v).map fun pf => { g with park := pf }
  | .role pf => (Role.ofCode v).map fun r => { g with roles := g.roles.set pf r }
  | _ => none

/-- R158: the speeds after a write of the absolute maximum; lowering it re-clamps the other five. -/
def Speeds.withAbsolute (x : Speeds) (v : Nat) : Speeds :=
  if v < x.absolute then
    { absolute := v, limit := min v x.limit, unload := min v x.unload, boarding := min v x.boarding
      step := min v x.step, homing := min v x.homing }
  else { x with absolute := v }

def Settings.writePermit (x : Settings) (k : PermitItem) (v : Nat) : Settings :=
  match k with
  | .absolute => { x with speeds := x.speeds.withAbsolute v }
  | .limit => { x with speeds := { x.speeds with limit := v } }
  | .unload => { x with speeds := { x.speeds with unload := v } }
  | .boarding => { x with speeds := { x.speeds with boarding := v } }
  | .step => { x with speeds := { x.speeds with step := v } }
  | .homing => { x with speeds := { x.speeds with homing := v } }
  | .silence => { x with silenceTime := v }
  | .deceleration => { x with deceleration := v }

/-- The settings with an item stored as `v`, a value that has passed its tests. -/
def Settings.write (x : Settings) (i : Item) (v : Nat) : Settings :=
  match i with
  | .indexTolerance => { x with indexTolerance := v }
  | .reverseAllowance => { x with reverseAllowance := v }
  | .disagreementTolerance => { x with disagreementTolerance := v }
  | .alignTolerance => { x with alignTolerance := v }
  | .rideLength => { x with rideLength := v }
  | .scanPeriod => { x with scanPeriod := v }
  | .actuatorTime => { x with actuatorTime := v }
  | .closeRetries => { x with closeRetries := v }
  | .passLimit => { x with passLimit := v }
  | .partyLimit => { x with partyLimit := v }
  | .factor k => { x with factors := x.factors.set k v }
  | .stallTime => { x with stallTime := v }
  | .stallReference => { x with stallReference := v }
  | .threshold col c => { x with classes := x.classes.set c ((x.classes.get c).withColumn col v) }
  | .quiet c => { x with classes := x.classes.set c { x.classes.get c with q := v } }
  | .programmed src =>
    { x with programmed := x.programmed.set src ((Grade.ofValue v).getD (x.programmed.get src)) }
  | .auto src => { x with auto := x.auto.set src (v = 1) }
  | .permit k => x.writePermit k v
  | _ => { x with geometry := (x.geometry.withItem i v).getD x.geometry }

/-! ## The tests of a written value -/

/-- R131, rule 1 for one class. -/
def ClassRow.legal (r : ClassRow) : Bool := r.dg < r.ug && r.dm < r.um

/-- R131, rule 2 for two neighbouring classes. -/
def ClassRow.below (r t : ClassRow) : Bool := r.ug ≤ t.ug && r.um ≤ t.um && r.dg ≤ t.dg && r.dm ≤ t.dm

/-- R131. -/
def ClassTable.legal (t : ClassTable) : Bool :=
  t.c1.legal && t.c2.legal && t.c3.legal && t.c4.legal && t.c1.below t.c2 && t.c2.below t.c3 && t.c3.below t.c4

/-- The range of a speed or permit setting (Table 9-2). -/
def Settings.clampPermit (x : Settings) (k : PermitItem) (v : Nat) : Nat :=
  match k with
  | .absolute => clamp 1 2000 v
  | .silence => clamp 100 2000 v
  | .deceleration => clamp 1 50 v
  | _ => clamp 1 x.speeds.absolute v

/-- The value an item would hold after a write of `v`, clamped as Table 11-1 says; absent where the write is refused
with BAD_FIELD. -/
def Settings.judge (x : Settings) (i : Item) (v : Nat) : Option Nat :=
  match i with
  | .indexTolerance => some (clamp 1 1000 v)
  | .reverseAllowance => some (clamp 1 5000 v)
  | .disagreementTolerance => some (clamp 1 5000 v)
  | .alignTolerance => some (clamp 1 200 v)
  | .rideLength => some (clamp 1000 4000000 v)
  | .scanPeriod => some (clamp 20 200 v)
  | .actuatorTime => some (clamp 500 30000 v)
  | .closeRetries => some (clamp 0 2 v)
  | .passLimit => some (clamp 0 7 v)
  | .partyLimit => some (clamp 1 4 v)
  | .factor _ => some (clamp 1 4095 v)
  | .stallTime => some (clamp 10 600 v)
  | .stallReference => some (clamp 1 600 v)
  | .threshold _ _ => if 1 ≤ v ∧ v ≤ 600 ∧ (x.write i v).classes.legal then some v else none
  | .quiet _ => some (clamp 60 3600 v)
  | .programmed src =>
    match src.programmedRange, Grade.ofValue v with
    | some (lo, hi), some g => some (Grade.clamp lo hi g).value
    | _, _ => none
  | .auto _ => if v ≤ 1 then some v else none
  | .permit k => some (x.clampPermit k v)
  | _ =>
    match x.geometry.withItem i v with
    | some g => if g.ok then some v else none
    | none => none

/-! ## The effects of an accepted write -/

/-- The first `n` of a list, made up to `n` with `fresh` (R19, R49). -/
def madeUpTo {α : Type} (n : Nat) (fresh : α) (xs : List α) : List α :=
  xs.take n ++ List.replicate (n - xs.length) fresh

/-- R19, R49: the Cabin Table and the loop for a new number of cabins. -/
def State.resize (s : State) (n : Nat) : State :=
  State.recount
    { s with
      cabins := madeUpTo n (Cabin.fresh CabinConfig.default) s.cabins
      loop := { s.loop with newest := none, previous := none
                            scan := s.loop.scan.map fun x => { x with stale := true }
                            cabins := madeUpTo n LoopCabin.unreported s.loop.cabins } }

/-- R15: what an accepted write of N or P does to the position. POSITION's condition changes ahead of DISAGREE's (DESIGN
CHOICE, log 7: no rule orders the two). -/
def State.loseGeometry (s : State) : State :=
  let s := { s with position :=
    { s.position with theta := 0, verified := false, disagreementRun := 0, agreementRun := 0, disagree := false
                      stillCrossed := [] } }
  ((s.formPosition).formProgrammed .disagree false).judgeAway

/-- The condition of a source with a programmed grade holds. -/
def State.holding (s : State) : Source → Bool
  | .windSensor => s.wind.sensorCondition
  | .platformStopA => s.stops.a.lineOpen || s.stops.a.request
  | .platformStopB => s.stops.b.lineOpen || s.stops.b.request
  | .loopFault => s.loop.loopFault
  | .disagree => s.position.disagree
  | .planEnd => s.plans.planEnd
  | _ => false

/-- R140: a record at a change of its auto-release setting to `on`. -/
def HoldRecord.switchAuto (r : HoldRecord) (on : Bool) : HoldRecord :=
  { r with floor := if on then r.floor.max r.latched else r.floor, peak := r.cond }

/-- What the owning rule of an item does at an accepted write that changes it, the item being stored. At a write of N the
recount with its UNLOAD_COMPLETE record comes first, then POSITION's change with its HOLD_RAISED, then DISAGREE's (DESIGN
CHOICE, log 7: no rule orders them). -/
def State.itemEffect (s : State) (i : Item) : State :=
  match i with
  | .n => (s.resize s.geometry.n).loseGeometry
  | .p => s.loseGeometry
  | .programmed src => s.formProgrammed src (s.holding src)
  | .auto src => s.changeSource src fun r => r.switchAuto (s.settings.auto.get src)
  | _ => s

/-- R181: stores `v`; the value the item already holds changes nothing. -/
def State.storeItem (s : State) (i : Item) (v : Nat) : State :=
  if s.settings.read i = v then s else (s.setSettings (s.settings.write i v)).itemEffect i

/-- R181, test 4: the wheel at rest with the held grade at STOP or BRAKE, and both visits VACANT. -/
def State.geometryWritable (s : State) : Bool :=
  s.position.v = 0 && s.holds.held.atLeast .stop &&
  s.sequencers.a.current.isNone && s.sequencers.b.current.isNone

/-! ## Saving and loading -/

/-- R184: `c` is 1 to 32,767 ahead of `d`. -/
def Copy.newer (c d : Copy) : Bool :=
  let ahead := (c.number + 65536 - d.number) % 65536
  1 ≤ ahead && ahead ≤ 32767

/-- A slot's copy where the slot is good (R184); an absent copy stands for a wrong CRC (log 18). -/
def goodCopy (c : Option Copy) : Option Copy := c.filter fun c => c.settings.geometry.ok

/-- The saved copy with the number of its slot, 1 for `true` (Section 11.2). -/
def Slots.saved (x : Slots) : Option (Bool × Copy) :=
  match goodCopy x.slot0, goodCopy x.slot1 with
  | none, none => none
  | some c, none => some (false, c)
  | none, some d => some (true, d)
  | some c, some d => if d.newer c then some (true, d) else some (false, c)

def Slots.set (x : Slots) (one : Bool) (c : Option Copy) : Slots :=
  if one then { x with slot1 := c } else { x with slot0 := c }

def Cabin.config (c : Cabin) : CabinConfig := { kind := c.kind, capacity := c.capacity, autoHold := c.autoHold }

/-- R183: a save begins. The slot being written is not good until the save has passed. -/
def State.beginSave (s : State) : State :=
  let target : Bool × Nat :=
    match s.store.slots.saved with
    | none => (false, 0)
    | some (one, c) => (!one, (c.number + 1) % 65536)
  let copy : Copy := { number := target.2, settings := s.settings, cabins := s.cabins.map Cabin.config }
  { s with store :=
      { s.store with slots := s.store.slots.set target.1 none
                     saving := some { intoOne := target.1, copy := copy } } }

/-- R183: the end of a save. -/
def State.endSave (s : State) (passed : Bool) : State :=
  match s.store.saving with
  | none => s
  | some j =>
    let slots := if passed then s.store.slots.set j.intoOne (some j.copy) else s.store.slots
    State.logPlain { s with store := { s.store with slots := slots, saving := none } } .saveDone
      (if passed then (if j.intoOne then 1 else 0) else -1)

/-- R139: a stored programmed grade brought into its source's range. -/
def Programmed.clampStored (x : Programmed) : Programmed :=
  { windSensor := Grade.clamp .unload .stop x.windSensor, platformStopA := Grade.clamp .stop .brake x.platformStopA
    platformStopB := Grade.clamp .stop .brake x.platformStopB, loopFault := Grade.clamp .stop .brake x.loopFault
    disagree := Grade.clamp .park .stop x.disagree, planEnd := Grade.clamp .none .park x.planEnd
    berthMiss := Grade.clamp .none .park x.berthMiss }

/-- R158, R169: a stored speed above the stored absolute maximum is clamped to it. -/
def Speeds.clampStored (x : Speeds) : Speeds :=
  { absolute := x.absolute, limit := min x.absolute x.limit, unload := min x.absolute x.unload
    boarding := min x.absolute x.boarding, step := min x.absolute x.step, homing := min x.absolute x.homing }

/-- R184: the settings of a stored copy as loaded. -/
def Settings.loaded (x : Settings) : Settings :=
  { x with programmed := x.programmed.clampStored, speeds := x.speeds.clampStored }

/-- R38, R20: a stored cabin as loaded. -/
def CabinConfig.loaded (c : CabinConfig) : CabinConfig := { c with capacity := c.kind.clampCapacity c.capacity }

/-- The cabins of a stored copy, 0 to N−1. -/
def Copy.loadedCabins (c : Copy) : List Cabin :=
  (List.range c.settings.geometry.n).map fun k =>
    Cabin.fresh (CabinConfig.loaded (c.cabins.getD k CabinConfig.default))

end Sys2Proof.Machine
end

