-- ==== Sys2Proof/Machine/Restart.lean ====
section
/-! DEFINITION. Power-on and warm restart (Section 11.4), and which commands a part that is not running takes. -/

namespace Sys2Proof.Machine

/-- What a command of this part answers. -/
abbrev Outcome : Type := Host.Outcome State Fault Refusal

/-! ## Warm restart (R188) -/

/-- Every port in HUNT (R179, R180). -/
def Ports.hunting (x : Ports) : Ports :=
  { x with states := { drive := .hunt, platformA := .hunt, platformB := .hunt, controlRoom := .hunt } }

/-- R170: the drive silence timer restarts and the DRIVE_SILENT condition clears. -/
def State.restartSilence (s : State) : State :=
  State.setCondition
    { s with permit := { s.permit with silenceTimer := some s.settings.silenceTime, driveSilent := false } }
    .driveSilent .none

/-- The value of a RESTARTED record. -/
def restartValue : RestartCause → Int
  | .request => 0
  | .linePulse => 1

/-- R188: the ports, the Sequencers, the cabins and the queues of a warm restart. A line pulse's restart returns the port to
HUNT also where the reply to an accepted RESTART is being sent, and that request's own restart then does not come (DESIGN
CHOICE, log 28: R180 excepts that reply and does not say whether from another restart). -/
def State.restartBlocks (s : State) : State :=
  { s with
    phase := .running
    ports := s.ports.hunting
    sequencers := { a := Sequencer.atPowerOn, b := Sequencer.atPowerOn }
    cabins := s.cabins.map Cabin.warmRestart
    queues := { a := Queue.empty, b := Queue.empty } }

/-- R188: a warm restart, in the order of the rule. The away set is judged as the in-visit fields clear (R58), ahead of
RESTARTED. -/
def State.warmRestart (s : State) (cause : RestartCause) : State :=
  let s := ((s.restartBlocks).formDoorLate).judgeAway
  let s := (s.command .a .close).command .b .close
  let s := s.restartSilence
  let s := s.logPlain .restarted (restartValue cause)
  (s.deliverEvent .restart .stop).refresh

/-! ## Power-on (R187) -/

/-- From the beginning of a power-on, and without supply: no port receives or sends, no sequence goes out, a save is
cut off, the brake is demanded (R148, R179, R183, R187). -/
def State.shut (s : State) (phase : Phase) : State :=
  { s with
    phase := phase
    ports := s.ports.hunting
    output := { s.output with inProgress := false }
    store := { s.store with saving := none }
    brakeDemand := true }

/-- The grade a platform's stop source stands at when power-on completes (R153). -/
def stopAtPowerOn (programmed : Grade) (lineOpen : Bool) : Grade := if lineOpen then programmed else .none

/-- The hold state of a power-on (R153). -/
def Holds.atPowerOn (x : Programmed) (lineAOpen lineBOpen : Bool) : Holds :=
  let table :=
    HoldTable.atPowerOn (stopAtPowerOn x.platformStopA lineAOpen) (stopAtPowerOn x.platformStopB lineBOpen)
  { table := table, held := table.heldGrade }

/-- The power-on state of every block for a configuration, before its figures are formed. -/
def State.started (s : State) (x : Settings) (cabins : List Cabin) (lineAOpen lineBOpen : Bool) (rate : Rate) :
    State :=
  { phase := .running
    position := Position.atPowerOn x.geometry
    cabins := cabins
    loop := Loop.atPowerOn x.geometry.n x.scanPeriod
    output := Output.atPowerOn
    sequencers := { a := Sequencer.atPowerOn, b := Sequencer.atPowerOn }
    queues := { a := Queue.empty, b := Queue.empty }
    plans := Plans.atPowerOn x.speeds.absolute
    wind := Wind.atPowerOn
    holds := Holds.atPowerOn x.programmed lineAOpen lineBOpen
    stops := { a := { lineOpen := lineAOpen, request := false }, b := { lineOpen := lineBOpen, request := false } }
    unload := { occupied := occupiedCount cabins, complete := false }
    permit := Permit.atPowerOn x.silenceTime
    ports := Ports.atPowerOn rate
    store := { working := x, slots := s.store.slots, saving := none, lock := false }
    events := { records := [], rollover := false }
    clock := 0
    brakeDemand := false
    pending := s.pending }

/-- R184, R187: power-on completes. -/
def State.powerOn (s : State) (lineAOpen lineBOpen : Bool) (rate : Rate) : State :=
  match s.store.slots.saved with
  | some (_, c) => (s.started c.settings.loaded c.loadedCabins lineAOpen lineBOpen rate).refresh
  | none =>
    let cabins := List.replicate Geometry.default.n (Cabin.fresh CabinConfig.default)
    ((s.started Settings.default cabins lineAOpen lineBOpen rate).logPlain .configDefaulted 0).refresh

/-! ## Which commands are taken -/

/-- A command that only a running part takes. Without supply or held in reset nothing is taken (R187). With the reply
to a RESTART request ended, its warm restart is taken before anything else (R188). -/
def State.whenRunning (s : State) (act : State → State) : State :=
  match s.phase with
  | .running => act s
  | .restartDue => act (s.warmRestart .request)
  | .off => s
  | .heldInReset => s

/-- The outcome of such a command. -/
def State.running (s : State) (act : State → State) : Outcome := .next (s.whenRunning act)

end Sys2Proof.Machine
end

