-- ==== Sys2Proof/Machine/Link.lean ====
section
/-! DEFINITION. The link ports (Chapter 10): CRC, kinds and the ports they are open on, the taking of a request and the
reply to it. -/

namespace Sys2Proof.Machine

/-! ## The frame CRC (R172) -/

/-- One shift. -/
def crcShift (x : BitVec 16) : BitVec 16 := if x.msb then (x <<< 1) ^^^ 0x1021#16 else x <<< 1

/-- One byte into the running value. -/
def crcByte (x : BitVec 16) (byte : Byte) : BitVec 16 :=
  crcShift (crcShift (crcShift (crcShift (crcShift (crcShift (crcShift (crcShift
    (x ^^^ (byte.zeroExtend 16 <<< 8)))))))))

def crc16 (bytes : List Byte) : BitVec 16 := bytes.foldl crcByte 0xFFFF#16

/-- A CRC as sent, high byte first. -/
def crcBytes (bytes : List Byte) : List Byte :=
  let x := crc16 bytes
  [x.extractLsb' 8 8, x.extractLsb' 0 8]

/-! ## Request kinds (Table 10-4) -/

/-- The ports a kind is open on. A code that is no kind is open on none (R175). -/
def kindOpen (kind : Nat) (p : Port) : Bool :=
  match kind with
  | 0x01 => true
  | 0x02 => true
  | 0x10 => p = .drive
  | 0x20 => p = .platformA || p = .platformB
  | 0x21 => p = .platformA || p = .platformB
  | 0x22 => p = .platformA || p = .platformB
  | 0x23 => p ≠ .drive
  | 0x24 => p = .platformA || p = .platformB
  | 0x25 => p = .platformA || p = .platformB
  | 0x26 => p = .platformA || p = .platformB
  | 0x27 => p ≠ .drive
  | 0x28 => p = .platformA || p = .platformB
  | 0x30 => p = .controlRoom
  | 0x31 => p = .controlRoom
  | 0x32 => p = .controlRoom
  | 0x33 => p = .controlRoom
  | 0x34 => p = .controlRoom
  | 0x35 => p = .controlRoom
  | 0x36 => p = .controlRoom
  | 0x38 => p = .controlRoom
  | 0x39 => p = .controlRoom
  | 0x3A => p = .controlRoom
  | 0x40 => p = .controlRoom
  | 0x41 => p = .controlRoom
  | 0x42 => p = .controlRoom
  | 0x43 => p = .controlRoom
  | 0x48 => p = .controlRoom
  | 0x4F => p = .controlRoom
  | _ => false

/-! ## Taking a request -/

/-- What an owning block answers: the state after the request has acted, the result and the reply's payload; and, for
EVENT TAKE, the rollover flag as it stood before. -/
structure Answer where
  state : State
  result : Result
  payload : List Byte
  rollover : Option Bool
  deriving DecidableEq, Repr

/-- A request that is refused: nothing changes and the payload is empty (R176). -/
def State.refuse (s : State) (r : Result) : Answer := { state := s, result := r, payload := [], rollover := none }

/-- A request that is accepted and leaves `s`, with the payload of its rule. -/
def State.accept (s : State) (payload : List Byte) : Answer :=
  { state := s, result := .accepted, payload := payload, rollover := none }

/-- The reply to a request, formed from the state after it has acted (R176, R177), with its header; the port is in
REPLY. -/
def State.reply (p : Port) (kind : Nat) (a : Answer) : State :=
  a.state.setPort p (.reply
    { kind := kind, result := a.result, header := a.state.header p a.rollover, payload := a.payload })

/-- R174, R175: a request of a kind whose payload has the length of its kind, received whole on a port. A port in REPLY
takes none. A kind refused at the port never reaches its owner (R175), so its payload is empty, HOLD RELEASE's too, which R141
and R176 have report a record whatever its result (DESIGN CHOICE, log 19). A port that a discard row has left in HEAD or BODY
drops the frame begun and takes the request (DESIGN CHOICE, log 1: on the line the request's bytes would go into that frame,
R173). -/
def State.take (s : State) (p : Port) (kind : Nat) (own : State → Answer) : State :=
  match s.ports.states.get p with
  | .reply _ => s
  | _ => State.reply p kind (if kindOpen kind p then own s else s.refuse .refusedPort)

/-- A request row of the table. -/
def State.request (s : State) (p : Port) (kind : Nat) (own : State → Answer) : Outcome :=
  s.running fun s => s.take p kind own

/-- A platform request is handed to its owner with the port's platform (R175). The port test has kept the other ports
away. -/
def State.atPlatform (s : State) (p : Port) (own : State → Platform → Answer) : Answer :=
  match portPlatform p with
  | some pf => own s pf
  | none => s.refuse .refusedPort

/-! ## The reply on the line (Table 10-1) -/

/-- The flags byte of a reply. -/
def Header.flags (h : Header) : Nat :=
  h.verified.toNat + 2 * h.parked.toNat + 4 * h.unloadComplete.toNat + 8 * h.loopFault.toNat +
  16 * h.eventsWaiting.toNat + 32 * h.rollover.toNat

/-- A reply frame after its sync byte and without its CRC. -/
def Reply.body (r : Reply) : List Byte :=
  bytes1 (r.kind + 128) ++ bytes1 r.result.code ++ bytes1 r.header.held.value ++ bytes1 r.header.windClass.code ++
  bytes1 r.header.flags ++ bytes1 r.payload.length ++ r.payload

/-- The bytes of a reply as sent. -/
def Reply.frame (r : Reply) : List Byte := 0x5A#8 :: (r.body ++ crcBytes r.body)

end Sys2Proof.Machine
end

