-- ==== Sys2Proof/Machine/StatusRequests.lean ====
section
/-! DEFINITION. The requests open on every port: STATUS QUERY (R178, R133) and CABIN READ (R37). -/

namespace Sys2Proof.Machine

/-! ## The parts of the status reply, in the order of R178 -/

/-- Time, position and hold figures. The brake demand is sent as 1 for asserted (DESIGN CHOICE, log 26). -/
def State.statusHead (s : State) : List Byte :=
  bytes4 s.clock.toNat ++ bytes4 s.position.theta ++ bytes4 s.position.tau.toNat ++ yesNo s.position.verified ++
  signed4 s.position.v ++ bytes4 s.position.revolutions ++ bytes1 s.holds.held.value ++ yesNo s.brakeDemand ++
  bytes4 s.unload.occupied

/-- The visit-state code of a platform, 0 for VACANT. -/
def Sequencer.stateCode (q : Sequencer) : Nat :=
  match q.current with
  | some v => v.state.code
  | none => 0

/-- One platform's part. The role is sent as its configuration item codes it, the stop line as 1 for open (DESIGN CHOICE,
log 26). -/
def State.statusPlatform (s : State) (pf : Platform) : List Byte :=
  let q := s.sequencers.get pf
  bytes1 (s.role pf).code ++ bytes1 q.stateCode ++ bytes1 q.visitNumber ++ yesNo q.doorLate ++
  bytes1 (s.output.image.get pf).actuator.code ++ bytes1 (s.loop.berths.get pf).position.code ++
  yesNo (s.stops.get pf).lineOpen

/-- One sensor's part (R133). -/
def Anemometer.status (x : Anemometer) : List Byte :=
  yesNo x.faulted ++ bytes4 x.lastCount ++ bytes4 x.gust ++ bytes4 x.mean ++ bytes4 x.windowRing.length ++
  bytes4 x.secondRing.length ++ bytes4 x.stallTimer ++ bytes4 x.recoveryRun

/-- The quiet time still to run before the class could fall, in ms; absent at class 0 and PENDING (R133). A
Q[class] that a write has lowered below the quiet timer leaves 0 (DESIGN CHOICE, log 27). -/
def State.quietLeft (s : State) : Option Nat :=
  match s.wind.windClass with
  | .pending => none
  | .level 0 => none
  | .level c => some (1000 * (s.settings.classes.get c).q - s.wind.quietTimer)

/-- The window ends still to come while the class is PENDING (R133). -/
def Wind.endsLeft (w : Wind) : Option Nat := if w.windClass = .pending then some (240 - w.windowEnds) else none

/-- The wind state in full (R133). -/
def State.statusWind (s : State) : List Byte :=
  s.wind.sensors.crown.status ++ s.wind.sensors.deck.status ++ bytes4 s.wind.gust ++ bytes4 s.wind.mean ++
  yesNo s.wind.sensorCondition ++ bytes1 s.wind.windClass.code ++ bytes4 s.wind.quietTimer ++ option4 s.quietLeft ++
  option4 s.wind.endsLeft

/-- The drive record and its supervision. A position that is absent is 65,535. -/
def State.statusDrive (s : State) : List Byte :=
  let d := s.permit.drive
  bytes2 d.speed ++ bytes2 (d.position.getD 65535) ++ bytes1 (DriveState.code d.state) ++ yesNo d.brakeReleased ++
  bytes4 s.permit.sinceReport ++ yesNo s.permit.driveSilent ++ yesNo s.permit.driveFault

/-- The park remainder as replies give it: present in PARKING and STEPPING (R161). -/
def State.remainder (s : State) : Option Int :=
  match s.permit.park with
  | some r => if r.state = .parked then none else some (s.parkRemainder r)
  | none => none

/-- Ceiling and park. Without a park record the steps taken are absent (DESIGN CHOICE, log 27). -/
def State.statusPermit (s : State) : List Byte :=
  bytes4 s.permit.ceiling ++ bytes1 (parkStateCode s.permit.park) ++ optionSigned4 s.remainder ++
  option4 (s.permit.park.map ParkRecord.steps)

/-- Plans and store. -/
def State.statusTail (s : State) : List Byte :=
  bytes1 s.plans.activeNumber ++ yesNo s.plans.swapPending ++ yesNo s.plans.planEnd ++
  yesNo s.store.saving.isSome ++ yesNo s.store.lock

/-- R178. -/
def State.status (s : State) : List Byte :=
  s.statusHead ++ s.statusPlatform .a ++ s.statusPlatform .b ++ yesNo s.loop.loopFault ++
  bytes4 s.loop.failedCount ++ s.statusWind ++ s.statusDrive ++ s.statusPermit ++ s.statusTail

/-- R178. -/
def ownStatusQuery (s : State) : Answer := s.accept s.status

/-! ## CABIN READ -/

def Aboard.bytes (x : Aboard) : List Byte := bytes2 x.tag ++ bytes1 x.count

/-- R37: every field of Table 2-1 in its order, then the distance run. -/
def State.cabinReply (s : State) (c : Cabin) : List Byte :=
  bytes1 c.kind.code ++ bytes1 c.capacity ++ yesNo c.autoHold ++ bytes1 c.service.code ++ bytes1 c.gate.code ++
  yesNo c.openOnce ++ option1 (c.pendingGate.map GateSetting.code) ++
  option1 (c.pendingService.map ServiceAction.code) ++ bytes1 c.occupancy ++ yesNo c.occupancyUnknown ++
  option4 (c.boardedAt.map BitVec.toNat) ++ listBytes Aboard.bytes c.parties ++ bytes1 c.door.code ++
  option1 (c.inVisit.map Platform.code) ++ option4 (c.boardedAt.map fun t => (s.position.tau - t).toNat)

/-- R37, R19. -/
def ownCabinRead (cabin : Nat) (s : State) : Answer :=
  match s.cabins[cabin]? with
  | some c => s.accept (s.cabinReply c)
  | none => s.refuse .badField

/-! ## The commands -/

def execStatusQuery (port : Port) (s : State) : Outcome := s.request port 0x01 ownStatusQuery

def execCabinRead (port : Port) (cabin : Nat) (s : State) : Outcome := s.request port 0x02 (ownCabinRead cabin)

end Sys2Proof.Machine
end

