-- ==== Sys2Proof/Machine/CabinRequests.lean ====
section
/-! DEFINITION. The requests that write a cabin record (Chapter 2): CABIN HOLD, CABIN WRITE, CABIN SERVICE, OCCUPANCY
DECLARE. -/

namespace Sys2Proof.Machine

/-- APPLIED or DEFERRED: a request for a cabin in visit is stored as pending (R28). -/
def Cabin.deferredCode (c : Cabin) : Nat := if c.inVisit.isSome then 1 else 0

/-! ## CABIN HOLD (R25, R28) -/

def Cabin.takeGate (c : Cabin) (g : GateSetting) : Cabin :=
  if c.inVisit.isSome then { c with pendingGate := some g } else c.applyGate g

def Cabin.gateReply (c : Cabin) : List Byte :=
  bytes1 c.deferredCode ++ bytes1 c.gate.code ++ yesNo c.openOnce ++ option1 (c.pendingGate.map GateSetting.code)

def ownCabinHold (cabin setting : Nat) (s : State) : Answer :=
  match s.cabins[cabin]?, GateSetting.ofCode setting with
  | some c, some g =>
    State.accept (s.modifyCabin cabin fun c => c.takeGate g) (c.takeGate g).gateReply
  | _, _ => s.refuse .badField

/-! ## CABIN SERVICE (R22, R28) -/

def Cabin.takeService (c : Cabin) (a : ServiceAction) : Cabin :=
  if c.inVisit.isSome then { c with pendingService := some a } else c.applyService a

def Cabin.serviceReply (c : Cabin) : List Byte :=
  bytes1 c.deferredCode ++ bytes1 c.service.code ++ option1 (c.pendingService.map ServiceAction.code)

def ownCabinService (cabin action : Nat) (s : State) : Answer :=
  match s.cabins[cabin]?, ServiceAction.ofCode action with
  | some c, some a =>
    State.accept (s.modifyCabin cabin fun c => c.takeService a) (c.takeService a).serviceReply
  | _, _ => s.refuse .badField

/-! ## CABIN WRITE (R20, R21) -/

/-- R20, R21: the three configuration fields. An auto-hold code that is neither 0 nor 1 has no refusal in R21 and reads
as a free value (log 4). -/
def Cabin.configure (c : Cabin) (k : CabinKind) (capacity autoHold : Nat) : Cabin :=
  { c with kind := k, capacity := k.clampCapacity capacity, autoHold := readYesNo autoHold }

def Cabin.configReply (c : Cabin) : List Byte := bytes1 c.kind.code ++ bytes1 c.capacity ++ yesNo c.autoHold

def ownCabinWrite (cabin kind capacity autoHold : Nat) (s : State) : Answer :=
  match s.cabins[cabin]?, CabinKind.ofCode kind with
  | some c, some k =>
    if s.store.saving.isSome then s.refuse .busy
    else if c.inVisit.isSome then s.refuse .wrongState
    else if !c.occupancyUnknown && k.clampCapacity capacity < c.occupancy then s.refuse .wrongState
    else State.accept (s.modifyCabin cabin fun c => c.configure k capacity autoHold)
      (c.configure k capacity autoHold).configReply
  | _, _ => s.refuse .badField

/-! ## OCCUPANCY DECLARE (R34) -/

/-- The tags of declared records are all different. -/
def distinctTags : List (Nat × Nat) → Bool
  | [] => true
  | x :: rest => !(rest.any fun y => y.1 = x.1) && distinctTags rest

/-- R34: the tests marked BAD_FIELD, beyond the cabin number. -/
def declareFits (c : Cabin) (count : Nat) (records : List (Nat × Nat)) : Bool :=
  count ≤ c.capacity && records.all (fun x => x.1 ≠ 0 && x.2 ≠ 0) && distinctTags records && records.length ≤ 4 &&
  (records.map Prod.snd).sum ≤ count && (count ≠ 0 || records.isEmpty)

/-- The tag stands on the parties-aboard list of a cabin other than `cabin`. -/
def State.tagAboardElsewhere (s : State) (cabin tag : Nat) : Bool :=
  (List.range s.cabins.length).any fun k => k ≠ cabin && ((s.cabins[k]?).map fun c => c.hasAboard tag).getD false

/-- R34: a declared tag is in use elsewhere. -/
def State.declareDuplicates (s : State) (cabin : Nat) (records : List (Nat × Nat)) : Bool :=
  records.any fun x => s.tagQueued x.1 || s.tagAssigned x.1 || s.tagAboardElsewhere cabin x.1

def ownOccupancyDeclare (cabin count : Nat) (records : List (Nat × Nat)) (s : State) : Answer :=
  match s.cabins[cabin]? with
  | none => s.refuse .badField
  | some c =>
    if !declareFits c count records then s.refuse .badField
    else if s.declareDuplicates cabin records then s.refuse .duplicate
    else if c.inVisit.isSome then s.refuse .wrongState
    else
      let parties := records.map fun x => ({ tag := x.1, count := x.2 } : Aboard)
      State.accept (s.writeCabin cabin fun c => c.declare count parties s.rideCompleted) []

/-! ## The commands -/

def execCabinHold (port : Port) (cabin setting : Nat) (s : State) : Outcome :=
  s.request port 0x27 (ownCabinHold cabin setting)

def execCabinService (port : Port) (cabin action : Nat) (s : State) : Outcome :=
  s.request port 0x35 (ownCabinService cabin action)

def execCabinWrite (port : Port) (cabin kind capacity autoHold : Nat) (s : State) : Outcome :=
  s.request port 0x34 (ownCabinWrite cabin kind capacity autoHold)

def execOccupancyDeclare (port : Port) (cabin count : Nat) (records : List (Nat × Nat)) (s : State) : Outcome :=
  s.request port 0x36 (ownOccupancyDeclare cabin count records)

end Sys2Proof.Machine
end

