-- ==== Sys2Proof/Machine/VisitRequests.lean ====
section
/-! DEFINITION. The requests of a platform console to its Sequencer (Chapter 4): BERTH QUERY, ALIGHT COUNT, BOARD COUNT,
DISPATCH. -/

namespace Sys2Proof.Machine

/-! ## BERTH QUERY (R82) -/

def Assigned.bytes (x : Assigned) : List Byte := bytes2 x.party.tag ++ bytes1 x.party.size ++ bytes1 x.boarded

/-- A visit record in a reply: every field of Table 4-2 in its order, the occupancy at ENTER in 4 bytes since it is in no
request (R82, R176); a VACANT platform or an empty last record is the code 0 of VACANT alone (log 11). -/
def visitBytes : Option Visit → List Byte
  | none => bytes1 0
  | some v =>
    bytes1 v.number ++ bytes1 v.cabin ++ bytes1 v.directive.code ++ tagBytes v.reservedTag ++
    option4 v.occupancyAtEnter ++ option1 v.alighted ++ listBytes Assigned.bytes v.assigned ++
    bytes1 v.state.code ++ bytes4 v.retries ++ yesNo v.boardingOffered ++ yesNo v.assignmentAsked ++
    yesNo v.boardingCounted ++ yesNo v.openFailed ++ yesNo v.closeFailed ++ yesNo v.late ++ yesNo v.retreated ++ yesNo v.positionLost

/-- R82, by the role in force (R15, log 8), sent as its configuration item codes it (DESIGN CHOICE, log 26). -/
def State.berthReply (s : State) (pf : Platform) : List Byte :=
  let q := s.sequencers.get pf
  bytes1 (s.role pf).code ++ visitBytes q.current ++ visitBytes q.last ++ yesNo q.doorLate ++
  bytes1 (s.output.image.get pf).actuator.code ++ bytes1 (s.loop.berths.get pf).position.code ++
  bytes1 (s.nextEnterCabin pf) ++ bytes4 (s.nextEnterDistance pf)

def ownBerthQuery (platform : Nat) (s : State) : Answer :=
  match Platform.ofCode platform with
  | some pf => s.accept (s.berthReply pf)
  | none => s.refuse .badField

/-! ## ALIGHT COUNT (R67) -/

/-- R67, R68: a count finds its visit STALE: another number, or past OPEN. -/
def Visit.staleFor (v : Visit) (number : Nat) : Bool :=
  v.number ≠ number || v.state = .closing || v.state = .secured

/-- R67: the largest count that is taken. -/
def Visit.alightLimit (v : Visit) (c : Cabin) : Nat := v.occupancyAtEnter.getD c.capacity

/-- R67: the occupancy that a count leaves. -/
def Visit.alightLeaves (v : Visit) (count : Nat) : Nat :=
  match v.occupancyAtEnter with
  | some n => n - count
  | none => 0

/-- R67, R66: an accepted ALIGHT COUNT. -/
def State.alight (s : State) (pf : Platform) (v : Visit) (count : Nat) : State :=
  let s := s.setVisit pf { v with alighted := some count }
  let s := s.writeCabin v.cabin fun c => c.alightTo (v.alightLeaves count) s.rideCompleted
  (s.assignIfDue pf).refresh

/-- R67: the tests and the effect, for the platform's current visit and its cabin. -/
def ownAlightCount (visit count : Nat) (s : State) (pf : Platform) : Answer :=
  match (s.sequencers.get pf).current with
  | none => s.refuse .stale
  | some v =>
    match s.cabins[v.cabin]? with
    | none => s.refuse .stale
    | some c =>
      if v.staleFor visit then s.refuse .stale
      else if v.state = .passing ∨ v.state = .opening ∨ v.directive = .board ∨ v.boardingCounted then
        s.refuse .wrongState
      else if v.alightLimit c < count then s.refuse .badField
      else State.accept (s.alight pf v count) []

/-! ## BOARD COUNT (R68) -/

/-- The visit with a party's boarded count replaced. -/
def Visit.setBoarded (v : Visit) (tag count : Nat) : Visit :=
  { v with boardingCounted := true
           assigned := v.assigned.map fun e => if e.party.tag = tag then { e with boarded := count } else e }

/-- R68: an accepted BOARD COUNT, with the occupancy just tested. -/
def State.board (s : State) (pf : Platform) (v : Visit) (tag count occupancy : Nat) : State :=
  let s := s.setVisit pf (v.setBoarded tag count)
  (s.writeCabin v.cabin fun c => c.boardTo occupancy tag count s.position.tau).refresh

/-- R68: the tests and the effect. -/
def ownBoardCount (visit tag count : Nat) (s : State) (pf : Platform) : Answer :=
  match (s.sequencers.get pf).current with
  | none => s.refuse .stale
  | some v =>
    match s.cabins[v.cabin]? with
    | none => s.refuse .stale
    | some c =>
      if v.staleFor visit then s.refuse .stale
      else if v.state = .passing ∨ v.state = .opening then s.refuse .wrongState
      else
        match v.assigned.find? fun e => e.party.tag = tag with
        | none => s.refuse .notFound
        | some e =>
          if e.party.size < count then s.refuse .badField
          else if c.capacity < c.occupancy - e.boarded + count then s.refuse .overCapacity
          else State.accept (s.board pf v tag count (c.occupancy - e.boarded + count)) []

/-! ## DISPATCH (R69) -/

def ownDispatch (visit : Nat) (s : State) (pf : Platform) : Answer :=
  match (s.sequencers.get pf).current with
  | none => s.refuse .wrongState
  | some v =>
    if v.number ≠ visit then s.refuse .stale
    else if v.state ≠ .opened then s.refuse .wrongState
    else State.accept (s.beginClosing pf v).refresh []

/-! ## The commands -/

def execBerthQuery (port : Port) (platform : Nat) (s : State) : Outcome :=
  s.request port 0x20 (ownBerthQuery platform)

def execAlightCount (port : Port) (visit count : Nat) (s : State) : Outcome :=
  s.request port 0x24 fun s => s.atPlatform port (ownAlightCount visit count)

def execBoardCount (port : Port) (visit tag count : Nat) (s : State) : Outcome :=
  s.request port 0x25 fun s => s.atPlatform port (ownBoardCount visit tag count)

def execDispatch (port : Port) (visit : Nat) (s : State) : Outcome :=
  s.request port 0x26 fun s => s.atPlatform port (ownDispatch visit)

end Sys2Proof.Machine
end

