-- ==== Sys2Proof/Machine/QueueRequests.lean ====
section
/-! DEFINITION. The requests to a Party Queue (Chapter 5): QUEUE QUERY, PARTY ADD, PARTY CANCEL. -/

namespace Sys2Proof.Machine

/-- R89: the free places of a platform's queue. -/
def Queue.freePlaces (q : Queue) : Nat := 16 - (q.entries.length + q.outCount)

/-! ## QUEUE QUERY (R93) -/

def Party.bytes (x : Party) : List Byte :=
  bytes2 x.tag ++ bytes1 x.size ++ yesNo x.accessible ++ yesNo x.alone ++ bytes4 x.passCount ++ bytes4 x.timeTag.toNat

def State.queueReply (s : State) (pf : Platform) : List Byte :=
  let q := s.queues.get pf
  bytes4 q.entries.length ++ bytes4 q.outCount ++ bytes4 q.freePlaces ++ bytes4 s.settings.passLimit ++
  bytes4 s.settings.partyLimit ++ listBytes Party.bytes q.entries

def ownQueueQuery (platform : Nat) (s : State) : Answer :=
  match Platform.ofCode platform with
  | some pf => s.accept (s.queueReply pf)
  | none => s.refuse .badField

/-! ## PARTY ADD (R87 to R90) -/

/-- The tag stands on some cabin's parties-aboard list. -/
def State.tagAboard (s : State) (tag : Nat) : Bool := s.cabins.any fun c => c.hasAboard tag

/-- R87: the tag is in use anywhere in the part. -/
def State.tagInUse (s : State) (tag : Nat) : Bool := s.tagQueued tag || s.tagAssigned tag || s.tagAboard tag

/-- R90: a cabin that could take a party. -/
def Cabin.couldTake (c : Cabin) (accessible : Bool) : Bool :=
  c.service = .inService && (!accessible || c.kind = .accessible)

/-- R90: the largest capacity of the cabins that could take a party, 0 where there is none. -/
def State.largestCapacity (s : State) (accessible : Bool) : Nat :=
  s.cabins.foldl (fun m c => if c.couldTake accessible then Nat.max m c.capacity else m) 0

/-- R88: an accepted PARTY ADD. -/
def State.addParty (s : State) (pf : Platform) (e : Party) : State :=
  let q := s.queues.get pf
  s.setQueue pf { q with entries := q.entries ++ [e] }

/-- R88. A flag code that is neither 0 nor 1 has no refusal there and reads as a free value (log 4). The role tested is
the one in force: a role write takes effect for the next tick (R15; that PARTY ADD waits for it too is DEDUCED, log 8). -/
def ownPartyAdd (tag size accessible priv : Nat) (s : State) (pf : Platform) : Answer :=
  let role := s.role pf
  let q := s.queues.get pf
  if tag = 0 ∨ size = 0 ∨ 40 < size then s.refuse .badField
  else if s.tagInUse tag then s.refuse .duplicate
  else if role = .off ∨ role = .alightOnly then s.refuse .wrongState
  else if q.freePlaces = 0 then s.refuse .full
  else if s.largestCapacity (readYesNo accessible) < size then s.refuse .badField
  else
    let e : Party := { tag := tag, size := size, accessible := readYesNo accessible, alone := readYesNo priv
                       passCount := 0, timeTag := s.clock }
    State.accept (s.addParty pf e) (bytes4 (q.entries.length + 1) ++ bytes4 (q.freePlaces - 1))

/-! ## PARTY CANCEL (R91, Table 5-3) -/

/-- The port may cancel a party of a platform: the platform's own port, or the control room. -/
def mayCancel (p : Port) (pf : Platform) : Bool := portPlatform p = some pf || p = .controlRoom

def Queue.holds (q : Queue) (tag : Nat) : Bool := q.entries.any fun e => e.tag = tag

/-- The queue that holds a tag. -/
def State.queueOf (s : State) (tag : Nat) : Option Platform :=
  if s.queues.a.holds tag then some .a else if s.queues.b.holds tag then some .b else none

/-- The assigned party of a platform's current visit that has a tag. -/
def Sequencer.assignedParty (q : Sequencer) (tag : Nat) : Option Assigned :=
  q.assigned.find? fun e => e.party.tag = tag

/-- The platform whose current visit has a tag assigned, with the party. -/
def State.assignedOf (s : State) (tag : Nat) : Option (Platform × Assigned) :=
  match s.sequencers.a.assignedParty tag with
  | some e => some (.a, e)
  | none => (s.sequencers.b.assignedParty tag).map fun e => (.b, e)

/-- R91: a queued party leaves its list. -/
def State.cancelQueued (s : State) (pf : Platform) (tag : Nat) : State :=
  let q := s.queues.get pf
  s.setQueue pf { q with entries := q.entries.eraseP fun e => e.tag = tag }

/-- R91, R66: an assigned party leaves its visit. -/
def State.cancelAssigned (s : State) (pf : Platform) (tag : Nat) : State :=
  let s :=
    match (s.sequencers.get pf).current with
    | some v => s.setVisit pf { v with assigned := v.assigned.eraseP fun e => e.party.tag = tag }
    | none => s
  let q := s.queues.get pf
  s.setQueue pf { q with outCount := q.outCount - 1 }

/-- The reply to an accepted cancel: the platform, and QUEUED (0) or ASSIGNED (1). -/
def cancelReply (pf : Platform) (place : Nat) : List Byte := bytes1 (Platform.code pf) ++ bytes1 place

/-- R91, Table 5-3, with the port the request came on. -/
def ownPartyCancel (p : Port) (tag : Nat) (s : State) : Answer :=
  if tag = 0 then s.refuse .badField
  else match s.queueOf tag, s.assignedOf tag with
    | some pf, _ =>
      if mayCancel p pf then State.accept (s.cancelQueued pf tag) (cancelReply pf 0) else s.refuse .notFound
    | none, some (pf, e) =>
      if 0 < e.boarded then s.refuse .wrongState
      else if mayCancel p pf then State.accept (s.cancelAssigned pf tag) (cancelReply pf 1)
      else s.refuse .notFound
    | none, none => if s.tagAboard tag then s.refuse .wrongState else s.refuse .notFound

/-! ## The commands -/

def execQueueQuery (port : Port) (platform : Nat) (s : State) : Outcome :=
  s.request port 0x21 (ownQueueQuery platform)

def execPartyAdd (port : Port) (tag size accessible priv : Nat) (s : State) : Outcome :=
  s.request port 0x22 fun s => s.atPlatform port (ownPartyAdd tag size accessible priv)

def execPartyCancel (port : Port) (tag : Nat) (s : State) : Outcome :=
  s.request port 0x23 (ownPartyCancel port tag)

end Sys2Proof.Machine
end

