-- ==== Sys2Proof/Machine/PlanRequests.lean ====
section
/-! DEFINITION. The control room's requests to the Plan Banks (Chapter 6): the four operations of PLAN EDIT, PLAN SWAP,
PLAN READ. -/

namespace Sys2Proof.Machine

/-- The number of the bank that is standby. -/
def Plans.standbyNumber (x : Plans) : Nat := 1 - x.activeNumber

/-- R108: the standby bank after an accepted operation, its edit count raised. -/
def Bank.edited (x : Bank) : Bank := { x with edits := (x.edits + 1) % 256 }

/-- R108: an accepted operation that leaves the standby bank `x`. -/
def State.editStandby (s : State) (x : Bank) : State := { s with plans := s.plans.setStandby x.edited }

/-- R108: the reply to an accepted operation: the bank edited, its entry count and its edit count. -/
def State.editReply (s : State) : List Byte :=
  bytes1 s.plans.standbyNumber ++ bytes4 s.plans.standby.entries.length ++ bytes4 s.plans.standby.edits

/-- An accepted operation with its reply. -/
def State.acceptEdit (s : State) (x : Bank) : Answer :=
  State.accept (s.editStandby x) (s.editStandby x).editReply

/-! ## ENTRY SET (R109) -/

def PlanEntry.isFor (e : PlanEntry) (cabin : Nat) (pf : Platform) : Bool := e.cabin = cabin && e.platform = pf

/-- R104: the sorted order of entries, by cabin and then platform. -/
def PlanEntry.before (e d : PlanEntry) : Bool :=
  e.cabin < d.cabin || (e.cabin = d.cabin && Platform.code e.platform < Platform.code d.platform)

def Bank.hasEntry (x : Bank) (cabin : Nat) (pf : Platform) : Bool := x.entries.any fun e => e.isFor cabin pf

/-- R109: an entry replaced in place, or inserted at its place in the sorted order. -/
def Bank.setEntry (x : Bank) (e : PlanEntry) : Bank :=
  { x with entries :=
      if x.hasEntry e.cabin e.platform then x.entries.map fun d => if d.isFor e.cabin e.platform then e else d
      else x.entries.takeWhile (fun d => d.before e) ++ e :: x.entries.dropWhile fun d => d.before e }

def ownEntrySet (cabin platform directive tag : Nat) (s : State) : Answer :=
  match Platform.ofCode platform, PlanDirective.ofCode directive tag with
  | some pf, some d =>
    let x := s.plans.standby
    if s.geometry.n ≤ cabin then s.refuse .badField
    else if s.plans.swapPending then s.refuse .pending
    else if 32 ≤ x.entries.length && !x.hasEntry cabin pf then s.refuse .full
    else s.acceptEdit (x.setEntry { cabin := cabin, platform := pf, directive := d })
  | _, _ => s.refuse .badField

/-! ## ENTRY REMOVE, LIST CLEAR, SETTINGS (R110) -/

def Bank.removeEntry (x : Bank) (cabin : Nat) (pf : Platform) : Bank :=
  { x with entries := x.entries.filter fun e => !e.isFor cabin pf }

def ownEntryRemove (cabin platform : Nat) (s : State) : Answer :=
  match Platform.ofCode platform with
  | some pf =>
    let x := s.plans.standby
    if 63 < cabin then s.refuse .badField
    else if s.plans.swapPending then s.refuse .pending
    else if !x.hasEntry cabin pf then s.refuse .notFound
    else s.acceptEdit (x.removeEntry cabin pf)
  | none => s.refuse .badField

def ownListClear (s : State) : Answer :=
  if s.plans.swapPending then s.refuse .pending
  else s.acceptEdit { s.plans.standby with entries := [] }

/-- R110, R106: the four settings as stored. A stop-on-miss code that is neither 0 nor 1 has no refusal there and reads
as a free value (log 4). -/
def Bank.configure (x : Bank) (m : PlanMode) (revolutions speed stopOnMiss absolute : Nat) : Bank :=
  { x with mode := m
           count := if m = .single then clamp 1 255 revolutions else 1
           speed := min (min 2000 speed) absolute
           stopOnMiss := readYesNo stopOnMiss }

def ownSettings (mode revolutions speed stopOnMiss : Nat) (s : State) : Answer :=
  match PlanMode.ofCode mode with
  | some m =>
    if s.plans.swapPending then s.refuse .pending
    else
      let x := s.plans.standby.configure m revolutions speed stopOnMiss s.settings.speeds.absolute
      State.accept (s.editStandby x)
        ((s.editStandby x).editReply ++ bytes1 x.mode.code ++ bytes1 x.count ++ bytes2 x.speed)
  | none => s.refuse .badField

/-! ## PLAN SWAP (R111) -/

def ownPlanSwap (s : State) : Answer :=
  if s.plans.swapPending then s.refuse .pending
  else
    let plans := { s.plans.setStandby { s.plans.standby with ready := true } with swapPending := true }
    State.accept { s with plans := plans } (bytes1 s.plans.standbyNumber)

/-! ## PLAN READ (R116) -/

def PlanEntry.bytes (e : PlanEntry) : List Byte :=
  bytes1 e.cabin ++ bytes1 (Platform.code e.platform) ++ bytes1 e.directive.code ++ bytes2 e.directive.tag

def Plans.bank (x : Plans) (number : Nat) : Bank := if number = 1 then x.bank1 else x.bank0

def State.planReply (s : State) (bank first : Nat) : List Byte :=
  let x := s.plans.bank bank
  yesNo (s.plans.activeNumber = bank) ++ bytes1 x.mode.code ++ bytes1 x.count ++ bytes2 x.speed ++
  yesNo x.stopOnMiss ++ yesNo x.ready ++ bytes4 x.run ++ bytes4 x.edits ++ bytes4 x.entries.length ++
  yesNo s.plans.swapPending ++ yesNo s.plans.planEnd ++ listBytes PlanEntry.bytes ((x.entries.drop first).take 8)

def ownPlanRead (bank first : Nat) (s : State) : Answer :=
  if 1 < bank then s.refuse .badField else s.accept (s.planReply bank first)

/-! ## The commands -/

def execEntrySet (port : Port) (cabin platform directive tag : Nat) (s : State) : Outcome :=
  s.request port 0x38 (ownEntrySet cabin platform directive tag)

def execEntryRemove (port : Port) (cabin platform : Nat) (s : State) : Outcome :=
  s.request port 0x38 (ownEntryRemove cabin platform)

def execListClear (port : Port) (s : State) : Outcome := s.request port 0x38 ownListClear

def execSettings (port : Port) (mode revolutions speed stopOnMiss : Nat) (s : State) : Outcome :=
  s.request port 0x38 (ownSettings mode revolutions speed stopOnMiss)

def execPlanSwap (port : Port) (s : State) : Outcome := s.request port 0x39 ownPlanSwap

def execPlanRead (port : Port) (bank first : Nat) (s : State) : Outcome :=
  s.request port 0x3A (ownPlanRead bank first)

end Sys2Proof.Machine
end

