-- ==== Sys2Proof/Machine/HoldRequests.lean ====
section
/-! DEFINITION. The requests to the Hold Table (Chapter 8): PLATFORM STOP, OPERATOR HOLD, HOLD RELEASE, HOLD READ, and
CONFIG LOCK. -/

namespace Sys2Proof.Machine

/-! ## PLATFORM STOP (R147) -/

/-- R147: the platform's request put in force or out of force, and its condition formed again (R146). -/
def State.stopRequest (s : State) (pf : Platform) (on : Bool) : State :=
  let s := { s with stops := s.stops.set pf { s.stops.get pf with request := on } }
  (s.formStop pf).refresh

/-- The reply of R147. The line level is sent as 1 for open and 0 for closed (DESIGN CHOICE, log 26). -/
def State.stopReply (s : State) (pf : Platform) : List Byte :=
  let r := s.holds.table.get (stopSource pf)
  yesNo (s.stops.get pf).lineOpen ++ yesNo (s.stops.get pf).request ++ bytes1 r.cond.value ++
  bytes1 r.latched.value ++ bytes1 s.holds.held.value

def ownPlatformStop (action : Nat) (s : State) (pf : Platform) : Answer :=
  match stopActionOfCode action with
  | some on => State.accept (s.stopRequest pf on) ((s.stopRequest pf on).stopReply pf)
  | none => s.refuse .badField

/-! ## OPERATOR HOLD (R145) -/

def State.operatorHold (s : State) (g : Grade) : State := (s.setCondition .operator g).refresh

def State.operatorReply (s : State) : List Byte :=
  let r := s.holds.table.get .operator
  bytes1 r.cond.value ++ bytes1 r.latched.value ++ bytes1 s.holds.held.value

def ownOperatorHold (grade : Nat) (s : State) : Answer :=
  match Grade.ofValue grade with
  | some g => State.accept (s.operatorHold g) (s.operatorHold g).operatorReply
  | none => s.refuse .badField

/-! ## HOLD RELEASE (R141, R142) -/

/-- R141: the result of a release, measured against the record as it stands. -/
def releaseResult (r : HoldRecord) (v : Int) : Result :=
  if r.latched = r.cond then .stillActive
  else if r.latched = .brake ∧ r.cond.value < Grade.brake.value ∧ v ≠ 0 then .wrongState
  else .accepted

/-- R141, step 3. -/
def State.release (s : State) (src : Source) : State := (s.changeSource src HoldRecord.released).refresh

def State.releaseReply (s : State) (src : Source) : List Byte :=
  let r := s.holds.table.get src
  bytes1 r.cond.value ++ bytes1 r.floor.value ++ bytes1 r.latched.value ++ bytes1 s.holds.held.value

/-- R141: the reply to a release of a source carries its record whatever the result. -/
def ownHoldRelease (source : Nat) (s : State) : Answer :=
  match Source.ofNumber source with
  | some src =>
    let result := releaseResult (s.holds.table.get src) s.position.v
    let s' := if result = .accepted then s.release src else s
    { state := s', result := result, payload := s'.releaseReply src, rollover := none }
  | none => s.refuse .badField

/-! ## HOLD READ (R152) -/

/-- The figures of every HOLD READ reply. The brake demand is sent as 1 for asserted and 0 for released (DESIGN CHOICE,
log 26). -/
def State.holdHead (s : State) : List Byte :=
  bytes1 s.holds.held.value ++ yesNo s.brakeDemand ++ bytes4 s.unload.occupied ++ yesNo s.unload.complete ++
  yesNo s.store.lock

/-- The latched grades of the summary, in source order. -/
def State.holdSummary (s : State) : List Byte :=
  Source.all.flatMap fun src => bytes1 (s.holds.table.get src).latched.value

/-- The grade HOLD READ reports as a source's programmed or fixed grade (Table 8-2). For OPERATOR and WIND, whose grade
comes with each cause, it is the condition grade (log 12). -/
def State.sourceGrade (s : State) (src : Source) : Grade :=
  match src with
  | .powerOn => .stop
  | .restart => .stop
  | .operator => (s.holds.table.get .operator).cond
  | .wind => (s.holds.table.get .wind).cond
  | .doorLate => .stop
  | .doorAway => .brake
  | .position => .unload
  | .reverse => .stop
  | .driveSilent => .brake
  | .driveFault => .stop
  | .parkOvershoot => .stop
  | .windSensor => s.programmed .windSensor
  | .platformStopA => s.programmed .platformStopA
  | .platformStopB => s.programmed .platformStopB
  | .loopFault => s.programmed .loopFault
  | .disagree => s.programmed .disagree
  | .planEnd => s.programmed .planEnd
  | .berthMiss => s.programmed .berthMiss

/-- The details of Table 8-7. A line level is sent as 1 for open and 0 for closed (DESIGN CHOICE, log 26). -/
def State.holdDetails (s : State) : Source → List Byte
  | .operator => bytes1 (s.holds.table.get .operator).cond.value
  | .wind => bytes1 s.wind.windClass.code
  | .windSensor => yesNo s.wind.sensors.crown.faulted ++ yesNo s.wind.sensors.deck.faulted
  | .platformStopA => yesNo s.stops.a.lineOpen ++ yesNo s.stops.a.request
  | .platformStopB => yesNo s.stops.b.lineOpen ++ yesNo s.stops.b.request
  | .doorLate => yesNo s.sequencers.a.doorLate ++ yesNo s.sequencers.b.doorLate
  | .doorAway => listBytes bytes1 s.loop.away
  | .loopFault => bytes4 s.loop.failedCount
  | .position => yesNo s.position.verified
  | .disagree => bytes4 s.position.disagreementRun ++ bytes4 s.position.agreementRun
  | .planEnd => bytes1 s.plans.activeNumber ++ bytes4 s.plans.active.run
  | _ => []

/-- One source's record and details. -/
def State.holdRecord (s : State) (src : Source) : List Byte :=
  let r := s.holds.table.get src
  bytes1 r.cond.value ++ bytes1 r.peak.value ++ bytes1 r.floor.value ++ bytes1 r.latched.value ++
  bytes1 (s.sourceGrade src).value ++ yesNo src.autoCapable ++ yesNo (s.settings.auto.get src) ++ s.holdDetails src

def ownHoldRead (source : Nat) (s : State) : Answer :=
  if source = 255 then s.accept (s.holdHead ++ s.holdSummary)
  else match Source.ofNumber source with
    | some src => s.accept (s.holdHead ++ s.holdRecord src)
    | none => s.refuse .badField

/-! ## CONFIG LOCK (R151) -/

def ownConfigLock (s : State) : Answer := State.accept { s with store := { s.store with lock := true } } []

/-! ## The commands -/

def execPlatformStop (port : Port) (action : Nat) (s : State) : Outcome :=
  s.request port 0x28 fun s => s.atPlatform port (ownPlatformStop action)

def execOperatorHold (port : Port) (grade : Nat) (s : State) : Outcome :=
  s.request port 0x40 (ownOperatorHold grade)

def execHoldRelease (port : Port) (source : Nat) (s : State) : Outcome :=
  s.request port 0x41 (ownHoldRelease source)

def execHoldRead (port : Port) (source : Nat) (s : State) : Outcome := s.request port 0x42 (ownHoldRead source)

def execConfigLock (port : Port) (s : State) : Outcome := s.request port 0x33 ownConfigLock

end Sys2Proof.Machine
end

