-- ==== Sys2Proof/Machine/ConfigRequests.lean ====
section
/-! DEFINITION. The requests to the Configuration Store (Chapter 11): CONFIG WRITE, CONFIG READ, CONFIG SAVE; the end of a
save; and the requests EVENT TAKE and RESTART. -/

namespace Sys2Proof.Machine

/-! ## CONFIG WRITE (R181) -/

/-- R158: the five speeds in the reply to a write of the absolute maximum. -/
def Settings.speedsReply (x : Settings) : Item → List Byte
  | .permit .absolute =>
    bytes4 x.speeds.limit ++ bytes4 x.speeds.unload ++ bytes4 x.speeds.boarding ++ bytes4 x.speeds.step ++
    bytes4 x.speeds.homing
  | _ => []

/-- The reply to an accepted write: the item code, the value as stored, and further fields. -/
def State.writeReply (s : State) (code : Nat) (i : Item) : List Byte :=
  bytes2 code ++ bytes4 (s.settings.read i) ++ s.settings.speedsReply i

/-- R181, tests 2 to 5: the value to store, or the result that answers. -/
def State.judgeWrite (s : State) (i : Item) (value : Nat) : Except Result Nat :=
  if s.store.saving.isSome then .error .busy
  else if s.store.lock && i.lockable then .error .locked
  else if i.isGeometry && !s.geometryWritable then .error .wrongState
  else match s.settings.judge i value with
    | some v => .ok v
    | none => .error .badField

def ownConfigWrite (code value : Nat) (s : State) : Answer :=
  match Item.ofCode code with
  | none => s.refuse .badField
  | some i =>
    match s.judgeWrite i value with
    | .error r => s.refuse r
    | .ok v => State.accept (s.storeItem i v).refresh ((s.storeItem i v).refresh.writeReply code i)

/-! ## CONFIG READ (R182) -/

def State.readReply (s : State) (code : Nat) (i : Item) : List Byte :=
  bytes2 code ++ bytes4 (s.settings.read i) ++
  option4 (s.store.slots.saved.map fun x => x.2.settings.read i) ++ yesNo i.lockable ++ yesNo s.store.lock ++
  yesNo s.store.saving.isSome

def ownConfigRead (code : Nat) (s : State) : Answer :=
  match Item.ofCode code with
  | some i => s.accept (s.readReply code i)
  | none => s.refuse .badField

/-! ## CONFIG SAVE (R183) -/

def ownConfigSave (s : State) : Answer :=
  if s.store.saving.isSome then s.refuse .busy else s.beginSave.accept []

/-! ## EVENT TAKE (R186) -/

/-- A record as sent; 255 for an absent field. -/
def EventRecord.bytes (e : EventRecord) : List Byte :=
  bytes4 e.time.toNat ++ bytes1 e.kind.code ++ option1 e.cabin ++ option1 (e.platform.map Platform.code) ++
  option1 (e.source.map Source.number) ++ option1 (e.grade.map Grade.value) ++ signed2 e.value

def ownEventTake (count : Nat) (s : State) : Answer :=
  if count = 0 ∨ 8 < count then s.refuse .badField
  else
    { state := { s with events := { records := s.events.records.drop count, rollover := false } }
      result := .accepted
      payload := listBytes EventRecord.bytes (s.events.records.take count)
      rollover := some s.events.rollover }

/-! ## RESTART (R188) -/

/-- The request is accepted whatever the state; the warm restart follows the end of its reply. -/
def ownRestart (s : State) : Answer := s.accept []

/-! ## The commands -/

def execConfigWrite (port : Port) (item value : Nat) (s : State) : Outcome :=
  s.request port 0x30 (ownConfigWrite item value)

def execConfigRead (port : Port) (item : Nat) (s : State) : Outcome := s.request port 0x31 (ownConfigRead item)

def execConfigSave (port : Port) (s : State) : Outcome := s.request port 0x32 ownConfigSave

def execSaveDone (passed : Bool) (s : State) : Outcome := s.running fun s => s.endSave passed

def execEventTake (port : Port) (count : Nat) (s : State) : Outcome := s.request port 0x48 (ownEventTake count)

def execRestart (port : Port) (s : State) : Outcome := s.request port 0x4F ownRestart

end Sys2Proof.Machine
end

