-- ==== Sys2Proof/Machine/DriveRequests.lean ====
section
/-! DEFINITION. The drive exchange (Chapter 9): DRIVE REPORT with its PERMIT, the expiry of the drive silence timer, and
PARK ADVANCE. -/

namespace Sys2Proof.Machine

/-! ## DRIVE REPORT (R155 to R157, R9, R161) -/

/-- R155: the report's fields as clamped. -/
def State.driveFields (s : State) (speed position : Nat) (state : DriveState) (brakeReleased : Bool) : DriveRecord :=
  { speed := min 2000 speed, position := if position < s.geometry.p then some position else none
    state := some state, brakeReleased := brakeReleased }

/-- R155, steps 1 and 2: the record, the silence timer and the DRIVE_SILENT condition. -/
def State.takeDriveRecord (s : State) (d : DriveRecord) : State :=
  State.restartSilence { s with permit := { s.permit with drive := d, sinceReport := 0 } }

/-- R157. -/
def State.formDriveFault (s : State) (fault : Bool) : State :=
  State.setCondition { s with permit := { s.permit with driveFault := fault } } .driveFault
    (if fault then .stop else .none)

/-- R9: the position's runs and condition after a report that disagrees or agrees. -/
def Position.crossChecked (x : Position) (disagrees : Bool) : Position :=
  if disagrees then
    let run := min 3 (x.disagreementRun + 1)
    { x with disagreementRun := run, agreementRun := 0, disagree := x.disagree || run = 3 }
  else
    let run := min 3 (x.agreementRun + 1)
    { x with agreementRun := run, disagreementRun := 0, disagree := x.disagree && run ≠ 3 }

/-- R9: the cross-check of a report's position with θ. -/
def State.crossCheck (s : State) : State :=
  match s.permit.drive.position with
  | none => s
  | some p =>
    if s.position.verified then
      let difference := signedMod ((p : Int) - s.position.theta) s.geometry.p
      let disagrees : Bool := s.settings.disagreementTolerance < difference.natAbs
      let s := { s with position := s.position.crossChecked disagrees }
      s.formProgrammed .disagree s.position.disagree
    else s

/-- R155, steps 1 to 5. -/
def State.driveReport (s : State) (d : DriveRecord) : State :=
  (((s.takeDriveRecord d).formDriveFault (d.state = some .fault)).crossCheck).refresh

/-- The PERMIT (R161), with the next-ENTER distance of the park platform in force (R15, log 8). -/
def State.permitReply (s : State) : List Byte :=
  bytes4 s.permit.ceiling ++ bytes1 s.holds.held.value ++ yesNo s.brakeDemand ++
  bytes1 (parkStateCode s.permit.park) ++ optionSigned4 s.remainder ++ bytes4 s.position.theta ++
  yesNo s.position.verified ++ bytes4 (s.nextEnterDistance s.position.points.park)

def ownDriveReport (speed position driveState brakeReleased : Nat) (s : State) : Answer :=
  match DriveState.ofCode driveState with
  | none => s.refuse .badField
  | some d =>
    if 1 < brakeReleased then s.refuse .badField
    else
      let s := s.driveReport (s.driveFields speed position d (brakeReleased = 1))
      s.accept s.permitReply

/-! ## The drive silence timer (R156) -/

/-- R156: a timer that is expired already, or that a report has yet to start, changes nothing. -/
def State.driveSilence (s : State) : State :=
  if s.permit.silenceTimer.isSome then
    (State.setCondition { s with permit := { s.permit with silenceTimer := none, driveSilent := true } } .driveSilent
      .brake).refresh
  else s

/-! ## PARK ADVANCE (R168) -/

/-- R168: the record after an accepted advance by `n` cabins. -/
def ParkRecord.advanced (r : ParkRecord) (n pitch : Nat) : ParkRecord :=
  { r with state := .stepping, target := r.target + BitVec.ofNat 32 (n * pitch), steps := min 65535 (r.steps + 1) }

def State.advance (s : State) (r : ParkRecord) (n : Nat) : State :=
  (s.setPark (some (r.advanced n s.geometry.pitch))).refresh

def ownParkAdvance (count : Nat) (s : State) : Answer :=
  if count = 0 ∨ s.geometry.n ≤ count then s.refuse .badField
  else if s.holds.held ≠ .park then s.refuse .wrongState
  else match s.permit.park with
    | none => s.refuse .wrongState
    | some r =>
      if r.state ≠ .parked then s.refuse .wrongState
      else if s.sequencers.a.working ∨ s.sequencers.b.working then s.refuse .pending
      else State.accept (s.advance r count) (optionSigned4 (s.advance r count).remainder)

/-! ## The commands -/

def execDriveReport (port : Port) (speed position driveState brakeReleased : Nat) (s : State) : Outcome :=
  s.request port 0x10 (ownDriveReport speed position driveState brakeReleased)

def execDriveSilenceExpiry (s : State) : Outcome := s.running State.driveSilence

def execParkAdvance (port : Port) (count : Nat) (s : State) : Outcome := s.request port 0x43 (ownParkAdvance count)

end Sys2Proof.Machine
end

