-- ==== Sys2Proof/Machine/LinkEvents.lean ====
section
/-! DEFINITION. The link's own rows (Chapter 10): the routing of a frame by its bytes (R175), the byte receiver (R173),
discards, and the end of a reply (R174, R188). -/

namespace Sys2Proof.Machine

/-! ## Routing by kind and payload (R175, Table 10-4) -/

/-- A 2-byte field, most significant byte first. -/
def field2 (hi lo : Byte) : Nat := 256 * hi.toNat + lo.toNat

/-- A 4-byte field, most significant byte first. -/
def field4 (a b c d : Byte) : Nat := 65536 * field2 a b + field2 c d

/-- The party records of an OCCUPANCY DECLARE, where the bytes are whole records. -/
def recordFields : List Byte → Option (List (Nat × Nat))
  | [] => some []
  | hi :: lo :: count :: rest => (recordFields rest).map fun xs => (field2 hi lo, count.toNat) :: xs
  | _ => none

/-- PLAN EDIT's operation and fields; absent where the length is not the one the operation calls for. An operation code
outside Table 10-5 with a length of 1 is refused by R108. -/
def planEditOwner : List Byte → Option (State → Answer)
  | [op] =>
    if op.toNat = 2 then some ownListClear
    else if op.toNat < 4 then none
    else some fun s => s.refuse .badField
  | [op, cabin, platform] => if op.toNat = 1 then some (ownEntryRemove cabin.toNat platform.toNat) else none
  | [op, a, b, c, d, e] =>
    if op.toNat = 0 then some (ownEntrySet a.toNat b.toNat c.toNat (field2 d e))
    else if op.toNat = 3 then some (ownSettings a.toNat b.toNat (field2 c d) e.toNat)
    else none
  | _ => none

/-- OCCUPANCY DECLARE's fields; absent where the length is not 3 + 3k. -/
def declareOwner : List Byte → Option (State → Answer)
  | cabin :: count :: k :: rest =>
    match recordFields rest with
    | some xs => if xs.length = k.toNat then some (ownOccupancyDeclare cabin.toNat count.toNat xs) else none
    | none => none
  | _ => none

/-- The request kinds whose payload has no field. -/
def emptyOwner (kind : Nat) : Option (State → Answer) :=
  match kind with
  | 0x01 => some ownStatusQuery
  | 0x32 => some ownConfigSave
  | 0x33 => some ownConfigLock
  | 0x39 => some ownPlanSwap
  | 0x4F => some ownRestart
  | _ => none

/-- The request kinds with a payload of 1 byte. -/
def oneByteOwner (p : Port) (kind x : Nat) : Option (State → Answer) :=
  match kind with
  | 0x02 => some (ownCabinRead x)
  | 0x20 => some (ownBerthQuery x)
  | 0x21 => some (ownQueueQuery x)
  | 0x26 => some fun s => s.atPlatform p (ownDispatch x)
  | 0x28 => some fun s => s.atPlatform p (ownPlatformStop x)
  | 0x40 => some (ownOperatorHold x)
  | 0x41 => some (ownHoldRelease x)
  | 0x42 => some (ownHoldRead x)
  | 0x43 => some (ownParkAdvance x)
  | 0x48 => some (ownEventTake x)
  | _ => none

/-- The request kinds with a payload of 2 bytes. -/
def twoByteOwner (p : Port) (kind : Nat) (x y : Byte) : Option (State → Answer) :=
  match kind with
  | 0x23 => some (ownPartyCancel p (field2 x y))
  | 0x24 => some fun s => s.atPlatform p (ownAlightCount x.toNat y.toNat)
  | 0x27 => some (ownCabinHold x.toNat y.toNat)
  | 0x31 => some (ownConfigRead (field2 x y))
  | 0x35 => some (ownCabinService x.toNat y.toNat)
  | 0x3A => some (ownPlanRead x.toNat y.toNat)
  | _ => none

/-- The request kinds with a payload of one longer length. -/
def longOwner (p : Port) (kind : Nat) (payload : List Byte) : Option (State → Answer) :=
  match kind, payload with
  | 0x10, [a, b, c, d, e, f] => some (ownDriveReport (field2 a b) (field2 c d) e.toNat f.toNat)
  | 0x22, [a, b, c, d, e] => some fun s => s.atPlatform p (ownPartyAdd (field2 a b) c.toNat d.toNat e.toNat)
  | 0x25, [a, b, c, d] => some fun s => s.atPlatform p (ownBoardCount a.toNat (field2 b c) d.toNat)
  | 0x30, [a, b, c, d, e, f] => some (ownConfigWrite (field2 a b) (field4 c d e f))
  | 0x34, [a, b, c, d] => some (ownCabinWrite a.toNat b.toNat c.toNat d.toNat)
  | _, _ => none

/-- The owner of a request by its kind and payload; absent where the length is not the one Table 10-4 gives. -/
def ownerOf (p : Port) (kind : Nat) (payload : List Byte) : Option (State → Answer) :=
  if kind = 0x36 then declareOwner payload
  else if kind = 0x38 then planEditOwner payload
  else match payload with
    | [] => emptyOwner kind
    | [x] => oneByteOwner p kind x.toNat
    | [x, y] => twoByteOwner p kind x y
    | _ => longOwner p kind payload

/-- R175: a request taken by its bytes. A kind that is unknown or not open is answered REFUSED_PORT, then a wrong length
BAD_FIELD. -/
def State.route (s : State) (p : Port) (kind : Byte) (payload : List Byte) : State :=
  s.take p kind.toNat fun s =>
    match ownerOf p kind.toNat payload with
    | some own => own s
    | none => s.refuse .badField

/-! ## The byte receiver (R173) -/

/-- R173: the end of a frame in BODY, its bytes the payload and the two CRC bytes. -/
def State.endFrame (s : State) (p : Port) (kind length : Byte) (got : List Byte) : State :=
  let payload := got.take length.toNat
  let s := s.setPort p .hunt
  if got.drop length.toNat = crcBytes (kind :: length :: payload) then s.route p kind payload else s

/-- R173, R174: one byte received on a port. -/
def State.receive (s : State) (p : Port) (byte : Byte) : State :=
  match s.ports.states.get p with
  | .hunt => if byte = 0xA5#8 then s.setPort p (.head none) else s
  | .head none => s.setPort p (.head (some byte))
  | .head (some kind) => if 64 < byte.toNat then s.setPort p .hunt else s.setPort p (.body kind byte [])
  | .body kind length got =>
    let got := got ++ [byte]
    if got.length = length.toNat + 2 then s.endFrame p kind length got else s.setPort p (.body kind length got)
  | .reply _ => s

def State.receiveAll (s : State) (p : Port) (bytes : List Byte) : State :=
  bytes.foldl (fun s byte => s.receive p byte) s

/-- R173: the frame being received is discarded, by a gap or a framing error. -/
def State.discardFrame (s : State) (p : Port) : State :=
  match s.ports.states.get p with
  | .hunt => s
  | .head _ => s.setPort p .hunt
  | .body _ _ _ => s.setPort p .hunt
  | .reply _ => s

/-! ## The end of a reply (R174, R188) -/

/-- The reply to a RESTART request that was accepted. -/
def Reply.restarts (r : Reply) : Bool := r.kind = 0x4F && r.result = .accepted

/-- R174: the port returns to HUNT. R188: after the reply to an accepted RESTART the warm restart is due. -/
def State.endReply (s : State) (p : Port) : State :=
  match s.ports.states.get p with
  | .reply r =>
    let s := s.setPort p .hunt
    if r.restarts then { s with phase := .restartDue } else s
  | _ => s

/-! ## The commands -/

def execUnknownKindRequest (port : Port) (kind : Byte) (payload : List Byte) (s : State) : Outcome :=
  s.running fun s => s.route port kind payload

def execCrcWrongDiscard (port : Port) (bytes : List Byte) (s : State) : Outcome :=
  s.running fun s => s.receiveAll port bytes

def execFrameGapTimeout (port : Port) (bytes : List Byte) (s : State) : Outcome :=
  s.running fun s => (s.receiveAll port bytes).discardFrame port

def execFramingError (port : Port) (bytes : List Byte) (s : State) : Outcome :=
  s.running fun s => (s.receiveAll port bytes).discardFrame port

def execReplyEnd (port : Port) (s : State) : Outcome := s.running fun s => s.endReply port

end Sys2Proof.Machine
end

