-- ==== Sys2Proof/Machine/FieldEvents.lean ====
section
/-! DEFINITION. The rows of the field and of the part's timers: ticks, index edges, window ends, pulses, scans, the
output chain, stop lines and actuator timers. -/

namespace Sys2Proof.Machine

/-! ## Position and wind -/

def execForwardTick (s : State) : Outcome := s.running fun s => s.forwardTick.refresh

def execReverseTick (s : State) : Outcome := s.running fun s => s.reverseTick.refresh

/-- R4: an edge while the last direction is REVERSE or NONE changes nothing. -/
def execIndexEdge (s : State) : Outcome :=
  s.running fun s => if s.position.lastDirection = .forward then s.takenEdge.refresh else s

def execWindowEnd (s : State) : Outcome := s.running fun s => s.windowEnd.refresh

/-- R119. -/
def State.pulse (s : State) (k : Sensor) : State :=
  { s with wind := { s.wind with sensors := s.wind.sensors.set k (s.wind.sensors.get k).pulse } }

def execAnemometerPulse (sensor : Sensor) (s : State) : Outcome := s.running fun s => s.pulse sensor

/-! ## The status loop -/

def execScanStart (s : State) : Outcome := s.running State.startScan

/-- The end of a scan, where one is in progress. -/
def execScanEnd (pattern : Byte) (contacts : List Bool) (s : State) : Outcome :=
  s.running fun s => if s.loop.scan.isSome then (s.endScan pattern contacts).refresh else s

/-- R65, R73: where the timer is running. -/
def execActuatorTimerExpiry (platform : Platform) (s : State) : Outcome :=
  s.running fun s =>
    if (s.sequencers.get platform).actuatorTimer.isSome then (s.expireActuator platform).refresh else s

/-! ## The output chain -/

def State.mapOutput (s : State) (f : Output → Output) : State := { s with output := f s.output }

def execBlinkToggle (s : State) : Outcome := s.running fun s => s.mapOutput Output.toggle

def execSequenceStart (s : State) : Outcome := s.running fun s => s.mapOutput Output.startIfDue

def execSequenceEnd (s : State) : Outcome := s.running fun s => s.mapOutput Output.endSequence

def execRefreshExpiry (s : State) : Outcome := s.running fun s => s.mapOutput Output.refreshDue

/-! ## The stop lines (R146) -/

/-- R146: the level of a platform's stop line is taken, and its condition formed again. -/
def State.takeLine (s : State) (pf : Platform) (lineOpen : Bool) : State :=
  let s := { s with stops := s.stops.set pf { s.stops.get pf with lineOpen := lineOpen } }
  (s.formStop pf).refresh

def execStopLineTaken (platform : Platform) (lineOpen : Bool) (s : State) : Outcome :=
  s.running fun s => s.takeLine platform lineOpen

end Sys2Proof.Machine
end

