-- ==== Sys2Proof/Machine/StartEvents.lean ====
section
/-! DEFINITION. The rows that start, restart and stop the part (R187, R188). -/

namespace Sys2Proof.Machine

/-- R188. The restart that the reply to a RESTART request has made due is this one. The row with the cause REQUEST on a part
that runs, with no such restart due, is a restart all the same, with RESTARTED of value 0 (DESIGN CHOICE, log 9: the spec has
no such event). -/
def execWarmRestart (cause : RestartCause) (s : State) : Outcome :=
  match s.phase, cause with
  | .restartDue, .request => .next (s.warmRestart .request)
  | _, _ => s.running fun s => s.warmRestart cause

/-- R187: supply is applied and the part is held in reset. -/
def execSupplyOn (s : State) : Outcome := .next (s.shut .heldInReset)

/-- R187: the RESTART line has been held asserted for 100 ms. Without supply it has no effect. -/
def execRestartLineHeld (s : State) : Outcome := .next (if s.phase = .off then s else s.shut .heldInReset)

/-- R171: the rate of the RATE strap. -/
def rateOf (strapClosed : Bool) : Rate := if strapClosed then .baud115200 else .baud57600

/-- R187: power-on completes. Without supply it cannot. -/
def execPowerOnComplete (lineAOpen lineBOpen strapClosed : Bool) (s : State) : Outcome :=
  .next (if s.phase = .off then s else s.powerOn lineAOpen lineBOpen (rateOf strapClosed))

/-- A loss of supply: the part stops and the brake is demanded (R148). -/
def execSupplyLoss (s : State) : Outcome := .next (s.shut .off)

end Sys2Proof.Machine
end

