-- ==== Sys2Proof/Machine/Dispatch.lean ====
section
/-! DEFINITION. The meaning of each command. -/

namespace Sys2Proof.Machine

def exec (i : Instr) (s : State) : Host.Outcome State Fault Refusal :=
  match i with
  | .statusQuery port => Sys2Proof.Machine.execStatusQuery port s
  | .cabinRead port cabin => Sys2Proof.Machine.execCabinRead port cabin s
  | .driveReport port speed position driveState brakeReleased => Sys2Proof.Machine.execDriveReport port speed position driveState brakeReleased s
  | .berthQuery port platform => Sys2Proof.Machine.execBerthQuery port platform s
  | .queueQuery port platform => Sys2Proof.Machine.execQueueQuery port platform s
  | .partyAdd port tag size accessible priv => Sys2Proof.Machine.execPartyAdd port tag size accessible priv s
  | .partyCancel port tag => Sys2Proof.Machine.execPartyCancel port tag s
  | .alightCount port visit count => Sys2Proof.Machine.execAlightCount port visit count s
  | .boardCount port visit tag count => Sys2Proof.Machine.execBoardCount port visit tag count s
  | .dispatch port visit => Sys2Proof.Machine.execDispatch port visit s
  | .cabinHold port cabin setting => Sys2Proof.Machine.execCabinHold port cabin setting s
  | .platformStop port action => Sys2Proof.Machine.execPlatformStop port action s
  | .configWrite port item value => Sys2Proof.Machine.execConfigWrite port item value s
  | .configRead port item => Sys2Proof.Machine.execConfigRead port item s
  | .configSave port => Sys2Proof.Machine.execConfigSave port s
  | .configLock port => Sys2Proof.Machine.execConfigLock port s
  | .cabinWrite port cabin kind capacity autoHold => Sys2Proof.Machine.execCabinWrite port cabin kind capacity autoHold s
  | .cabinService port cabin action => Sys2Proof.Machine.execCabinService port cabin action s
  | .occupancyDeclare port cabin count records => Sys2Proof.Machine.execOccupancyDeclare port cabin count records s
  | .entrySet port cabin platform directive tag => Sys2Proof.Machine.execEntrySet port cabin platform directive tag s
  | .entryRemove port cabin platform => Sys2Proof.Machine.execEntryRemove port cabin platform s
  | .listClear port => Sys2Proof.Machine.execListClear port s
  | .settings port mode revolutions speed stopOnMiss => Sys2Proof.Machine.execSettings port mode revolutions speed stopOnMiss s
  | .planSwap port => Sys2Proof.Machine.execPlanSwap port s
  | .planRead port bank first => Sys2Proof.Machine.execPlanRead port bank first s
  | .operatorHold port grade => Sys2Proof.Machine.execOperatorHold port grade s
  | .holdRelease port source => Sys2Proof.Machine.execHoldRelease port source s
  | .holdRead port source => Sys2Proof.Machine.execHoldRead port source s
  | .parkAdvance port count => Sys2Proof.Machine.execParkAdvance port count s
  | .eventTake port count => Sys2Proof.Machine.execEventTake port count s
  | .restart port => Sys2Proof.Machine.execRestart port s
  | .unknownKindRequest port kind payload => Sys2Proof.Machine.execUnknownKindRequest port kind payload s
  | .crcWrongDiscard port bytes => Sys2Proof.Machine.execCrcWrongDiscard port bytes s
  | .frameGapTimeout port bytes => Sys2Proof.Machine.execFrameGapTimeout port bytes s
  | .replyEnd port => Sys2Proof.Machine.execReplyEnd port s
  | .forwardTick => Sys2Proof.Machine.execForwardTick s
  | .reverseTick => Sys2Proof.Machine.execReverseTick s
  | .indexEdge => Sys2Proof.Machine.execIndexEdge s
  | .windowEnd => Sys2Proof.Machine.execWindowEnd s
  | .anemometerPulse sensor => Sys2Proof.Machine.execAnemometerPulse sensor s
  | .scanStart => Sys2Proof.Machine.execScanStart s
  | .scanEnd pattern contacts => Sys2Proof.Machine.execScanEnd pattern contacts s
  | .actuatorTimerExpiry platform => Sys2Proof.Machine.execActuatorTimerExpiry platform s
  | .blinkToggle => Sys2Proof.Machine.execBlinkToggle s
  | .sequenceStart => Sys2Proof.Machine.execSequenceStart s
  | .sequenceEnd => Sys2Proof.Machine.execSequenceEnd s
  | .refreshExpiry => Sys2Proof.Machine.execRefreshExpiry s
  | .stopLineTaken platform lineOpen => Sys2Proof.Machine.execStopLineTaken platform lineOpen s
  | .driveSilenceExpiry => Sys2Proof.Machine.execDriveSilenceExpiry s
  | .saveDone passed => Sys2Proof.Machine.execSaveDone passed s
  | .warmRestart cause => Sys2Proof.Machine.execWarmRestart cause s
  | .supplyOn => Sys2Proof.Machine.execSupplyOn s
  | .restartLineHeld => Sys2Proof.Machine.execRestartLineHeld s
  | .powerOnComplete lineAOpen lineBOpen strapClosed => Sys2Proof.Machine.execPowerOnComplete lineAOpen lineBOpen strapClosed s
  | .supplyLoss => Sys2Proof.Machine.execSupplyLoss s
  | .framingError port bytes => Sys2Proof.Machine.execFramingError port bytes s

end Sys2Proof.Machine
end

