-- ==== Sys2Proof/Machine/Tick.lean ====
section
/-! DEFINITION. What one millisecond does while no command waits (DESIGN CHOICE, log 2): the millisecond count and the
timers run, and the timers that run out put their rows of the table into the queue. -/

namespace Sys2Proof.Machine

/-- A free-running timer runs out with this millisecond. -/
def runsOut (t : Nat) : Bool := t ≤ 1

/-- A timer that may be stopped runs out with this millisecond. -/
def mayRunOut (t : Option Nat) : Bool := (t.map runsOut).getD false

def countDown (t : Option Nat) : Option Nat := t.map fun x => x - 1

/-- One item, where it is due. -/
def ifDue (due : Bool) (c : Instr) : List Instr := if due then [c] else []

/-- R54: the field content differs from the sent content with no sequence in progress. -/
def Output.sequenceDue (x : Output) : Bool := x.content ≠ x.sent && !x.inProgress

/-- The rows that this millisecond makes due, in the order in which they are taken (log 2). -/
def State.dueRows (s : State) : List Instr :=
  ifDue (mayRunOut s.permit.silenceTimer) .driveSilenceExpiry ++
  ifDue (mayRunOut s.sequencers.a.actuatorTimer) (.actuatorTimerExpiry .a) ++
  ifDue (mayRunOut s.sequencers.b.actuatorTimer) (.actuatorTimerExpiry .b) ++
  ifDue (runsOut s.position.windowTimer) .windowEnd ++
  ifDue (runsOut s.loop.scanTimer) .scanStart ++
  ifDue (runsOut s.output.blinkTimer) .blinkToggle ++
  ifDue s.output.sequenceDue .sequenceStart ++
  ifDue (runsOut s.output.refreshTimer) .refreshExpiry

/-- A Sequencer after a millisecond. -/
def Sequencer.runTimer (q : Sequencer) : Sequencer := { q with actuatorTimer := countDown q.actuatorTimer }

/-- A millisecond of a running part. -/
def State.millisecond (s : State) : State :=
  { s with
    clock := s.clock + 1
    position := { s.position with windowTimer := s.position.windowTimer - 1 }
    loop := { s.loop with scanTimer := s.loop.scanTimer - 1 }
    output := { s.output with blinkTimer := s.output.blinkTimer - 1, refreshTimer := s.output.refreshTimer - 1 }
    sequencers := s.sequencers.map Sequencer.runTimer
    permit := { s.permit with silenceTimer := countDown s.permit.silenceTimer
                              sinceReport := min 65535 (s.permit.sinceReport + 1) }
    pending := s.pending ++ s.dueRows }

/-- A step with no command waiting. -/
def State.tick (s : State) : State := s.whenRunning State.millisecond

end Sys2Proof.Machine
end

