-- ==== Sys2Proof/Machine/Frames.lean ====
section
/-! DEFINITION. The frame a request row stands for (log 1): its port, its kind code and its payload bytes, field by field
from Table 10-4. -/

namespace Sys2Proof.Machine

/-- A request as its master sends it. -/
structure RequestFrame where
  port : Port
  kind : Byte
  payload : List Byte
  deriving DecidableEq, Repr

/-- A party record of an OCCUPANCY DECLARE. -/
def recordBytes (x : Nat × Nat) : List Byte := bytes2 x.1 ++ bytes1 x.2

/-- The request frame of a row of the table; absent for the rows that are no request of a known kind. -/
def requestFrame : Instr → Option RequestFrame
  | .statusQuery p => some ⟨p, 0x01#8, []⟩
  | .cabinRead p cabin => some ⟨p, 0x02#8, bytes1 cabin⟩
  | .driveReport p speed position state brake =>
    some ⟨p, 0x10#8, bytes2 speed ++ bytes2 position ++ bytes1 state ++ bytes1 brake⟩
  | .berthQuery p platform => some ⟨p, 0x20#8, bytes1 platform⟩
  | .queueQuery p platform => some ⟨p, 0x21#8, bytes1 platform⟩
  | .partyAdd p tag size accessible priv =>
    some ⟨p, 0x22#8, bytes2 tag ++ bytes1 size ++ bytes1 accessible ++ bytes1 priv⟩
  | .partyCancel p tag => some ⟨p, 0x23#8, bytes2 tag⟩
  | .alightCount p visit count => some ⟨p, 0x24#8, bytes1 visit ++ bytes1 count⟩
  | .boardCount p visit tag count => some ⟨p, 0x25#8, bytes1 visit ++ bytes2 tag ++ bytes1 count⟩
  | .dispatch p visit => some ⟨p, 0x26#8, bytes1 visit⟩
  | .cabinHold p cabin setting => some ⟨p, 0x27#8, bytes1 cabin ++ bytes1 setting⟩
  | .platformStop p action => some ⟨p, 0x28#8, bytes1 action⟩
  | .configWrite p item value => some ⟨p, 0x30#8, bytes2 item ++ bytes4 value⟩
  | .configRead p item => some ⟨p, 0x31#8, bytes2 item⟩
  | .configSave p => some ⟨p, 0x32#8, []⟩
  | .configLock p => some ⟨p, 0x33#8, []⟩
  | .cabinWrite p cabin kind capacity autoHold =>
    some ⟨p, 0x34#8, bytes1 cabin ++ bytes1 kind ++ bytes1 capacity ++ bytes1 autoHold⟩
  | .cabinService p cabin action => some ⟨p, 0x35#8, bytes1 cabin ++ bytes1 action⟩
  | .occupancyDeclare p cabin count records =>
    some ⟨p, 0x36#8, bytes1 cabin ++ bytes1 count ++ bytes1 records.length ++ records.flatMap recordBytes⟩
  | .entrySet p cabin platform directive tag =>
    some ⟨p, 0x38#8, bytes1 0 ++ bytes1 cabin ++ bytes1 platform ++ bytes1 directive ++ bytes2 tag⟩
  | .entryRemove p cabin platform => some ⟨p, 0x38#8, bytes1 1 ++ bytes1 cabin ++ bytes1 platform⟩
  | .listClear p => some ⟨p, 0x38#8, bytes1 2⟩
  | .settings p mode revolutions speed stopOnMiss =>
    some ⟨p, 0x38#8, bytes1 3 ++ bytes1 mode ++ bytes1 revolutions ++ bytes2 speed ++ bytes1 stopOnMiss⟩
  | .planSwap p => some ⟨p, 0x39#8, []⟩
  | .planRead p bank first => some ⟨p, 0x3A#8, bytes1 bank ++ bytes1 first⟩
  | .operatorHold p grade => some ⟨p, 0x40#8, bytes1 grade⟩
  | .holdRelease p source => some ⟨p, 0x41#8, bytes1 source⟩
  | .holdRead p source => some ⟨p, 0x42#8, bytes1 source⟩
  | .parkAdvance p count => some ⟨p, 0x43#8, bytes1 count⟩
  | .eventTake p count => some ⟨p, 0x48#8, bytes1 count⟩
  | .restart p => some ⟨p, 0x4F#8, []⟩
  | _ => none

/-- The bytes of a request frame on the line (Table 10-1). -/
def RequestFrame.bytes (f : RequestFrame) : List Byte :=
  let body := f.kind :: BitVec.ofNat 8 f.payload.length :: f.payload
  0xA5#8 :: (body ++ crcBytes body)

end Sys2Proof.Machine
end

