-- ==== Sys2Proof/Safety.lean ====
section
/-! DEFINITION. What is meant by a sound state of the part: the invariants that the statements speak of, the forms in
which they say what a reply holds, and the frames of the commands. -/

namespace Sys2Proof

open Machine

/-- The lamps, the ceiling and the brake demand are those that the rest of the state forms (R53, R159, R148). -/
def Formed (s : State) : Prop := s.refresh = s

/-- One source record obeys R137: the peak is at least the condition grade, and the latched grade is the derived one. -/
def RecordDerived (auto : Bool) (r : HoldRecord) : Prop :=
  r.cond.value ≤ r.peak.value ∧ r.latched = latchOf auto r

/-- Every source record obeys R137, and the held grade is the largest latched grade. -/
def HoldsDerived (s : State) : Prop :=
  (∀ src : Source, RecordDerived (s.settings.auto.get src) (s.holds.table.get src)) ∧
  s.holds.held = s.holds.table.heldGrade

/-- The occupied count is the number of cabins that may hold riders (R149), and the unload-complete flag stands exactly
while the held grade is UNLOAD or above with the count at 0 (R150). -/
def UnloadCounted (s : State) : Prop :=
  s.unload.occupied = occupiedCount s.cabins ∧
  s.unload.complete = (s.holds.held.atLeast .unload && s.unload.occupied = 0)

/-- The queue of a platform keeps to R89: the out-on-assignment count is the length of the current visit's assigned
list, and with the entries it fills at most 16 places. -/
def PlacesKept (s : State) (pf : Platform) : Prop :=
  (s.queues.get pf).outCount = (s.sequencers.get pf).assigned.length ∧
  (s.queues.get pf).entries.length + (s.queues.get pf).outCount ≤ 16

/-- The geometry obeys R14, θ is a position of the wheel, no point stays crossed while the position is unverified (R11, log
23), the Cabin Table and the loop hold one record for each cabin (R19, R49), and a current visit is of a cabin of the
table. -/
def WheelSound (s : State) : Prop :=
  s.geometry.ok = true ∧ s.position.theta < s.geometry.p ∧
  (s.position.verified = false → s.position.stillCrossed = []) ∧ s.cabins.length = s.geometry.n ∧
  s.loop.cabins.length = s.geometry.n ∧
  ∀ (pf : Platform) (v : Visit), (s.sequencers.get pf).current = some v → v.cabin < s.cabins.length

/-- The save numbers are 16 bits wide, and a save in progress is one that R183 begins: the slot being written is not good, its
copy has a legal geometry and the number after the saved copy's, and it is not the saved copy's slot. -/
def SaveKept (s : State) : Prop :=
  let slots := s.store.slots
  (∀ c : Copy, slots.slot0 = some c ∨ slots.slot1 = some c → c.number < 65536) ∧
  ∀ j : SaveJob, s.store.saving = some j →
    j.copy.settings.geometry.ok = true ∧ (if j.intoOne then slots.slot1 else slots.slot0) = none ∧
    (slots.saved = none → j.intoOne = false ∧ j.copy.number = 0) ∧
    ∀ (one : Bool) (c : Copy), slots.saved = some (one, c) → j.intoOne = !one ∧ j.copy.number = (c.number + 1) % 65536

/-- The Event Stack holds at most 256 records (R185). -/
def EventsBounded (s : State) : Prop := s.events.records.length ≤ 256

/-- A park record exists exactly while the held grade is PARK (R162). -/
def ParkKept (s : State) : Prop := s.holds.held = .park ↔ s.permit.park.isSome = true

/-- The grade a source's condition has by its owner (R136, Table 8-2). OPERATOR's is the one its last request asked
for, which is its condition grade itself (R145). -/
def ownedGrade (s : State) : Source → Grade
  | .operator => (s.holds.table.get .operator).cond
  | .wind => s.wind.windClass.grade
  | .position => if s.position.verified then .none else .unload
  | .doorLate => if s.sequencers.a.doorLate || s.sequencers.b.doorLate then .stop else .none
  | .doorAway => if s.loop.away.isEmpty then .none else .brake
  | .driveSilent => if s.permit.driveSilent then .brake else .none
  | .driveFault => if s.permit.driveFault then .stop else .none
  | src => if s.holding src then s.programmed src else .none

/-- Every source's condition grade is the one its owner gives it (R136). -/
def ConditionsOwned (s : State) : Prop := ∀ src : Source, (s.holds.table.get src).cond = ownedGrade s src

/-- The four clauses of R50 for cabin `k` with the record `c`. -/
def AwayCabin (s : State) (k : Nat) (c : Cabin) : Prop :=
  (c.door = .closed ∨ c.door = .opened) ∧ s.position.verified = true ∧
  (∀ pf : Platform, s.position.points.roles.get pf = .off ∨
    s.phaseAt s.position.theta pf k < -(s.position.points.enter : Int) ∨
    (s.position.points.exit : Int) < s.phaseAt s.position.theta pf k) ∧
  c.inVisit = none

/-- The away set holds the numbers of the cabins for which R50 holds, ascending and without duplicates (R51). -/
def AwayJudged (s : State) : Prop :=
  s.loop.away.Pairwise (· < ·) ∧
  ∀ k : Nat, k ∈ s.loop.away ↔ ∃ c : Cabin, s.cabins[k]? = some c ∧ AwayCabin s k c

/-! ## Requests and replies -/

/-- A port with a request in hand (R174). -/
def inReply : PortState → Bool
  | .reply _ => true
  | .hunt => false
  | .head _ => false
  | .body _ _ _ => false

/-- The part runs and the port has no request in hand: a request that arrives whole is taken. -/
def Ready (s : State) (p : Port) : Prop := s.phase = .running ∧ inReply (s.ports.states.get p) = false

/-- From `s` to `t` the port has come to hold this reply, with the header of `t`, and the other ports are as they
were. -/
def Replied (s t : State) (p : Port) (kind : Nat) (r : Result) (payload : List Byte) : Prop :=
  t.ports.rate = s.ports.rate ∧ (∀ q : Port, q ≠ p → t.ports.states.get q = s.ports.states.get q) ∧
  t.ports.states.get p = .reply { kind := kind, result := r, header := t.header p none, payload := payload }

/-- A request that changes nothing beside its reply. -/
def RepliedOnly (s t : State) (p : Port) (kind : Nat) (r : Result) (payload : List Byte) : Prop :=
  t = { s with ports := t.ports } ∧ Replied s t p kind r payload

/-! ## Frames -/

/-- The Event Stack of `t` is that of `s` with these records appended, the first of them first (R185). -/
def Recorded (s t : State) (xs : List EventRecord) : Prop := t.events = (xs.foldl State.append s).events

/-- A Sequencer without what an assignment writes into its current visit (R66). -/
def apartFromAssignment (q : Sequencer) : Sequencer :=
  { q with current := q.current.map fun v => { v with assigned := [], assignmentAsked := false } }

/-! ## The assignment (R66, R94) -/

/-- The current visit of a platform and its cabin, where the conditions of R66 for an assignment hold, the held grade
aside. -/
def assignmentAwaited (s : State) (pf : Platform) : Option (Visit × Cabin) :=
  match (s.sequencers.get pf).current with
  | none => none
  | some v =>
    match s.cabins[v.cabin]? with
    | none => none
    | some c =>
      if v.state = .opened ∧ v.boardingOffered = true ∧ c.occupancy = 0 ∧ c.occupancyUnknown = false ∧
          v.assignmentAsked = false then some (v, c)
      else none

/-- What the queue of a platform chooses for a visit of a cabin, and which entries stay (R95 to R98). -/
def chosenFor (s : State) (pf : Platform) (v : Visit) (c : Cabin) : ScanResult :=
  let offer : Offer := { kind := c.kind, reserved := v.reservedTag, passLimit := s.settings.passLimit
                         partyLimit := s.settings.partyLimit }
  offer.scan c.capacity [] [] (s.queues.get pf).entries

/-- The Sequencers and the queues with the assignment that a platform awaits made: the parties chosen stand on the visit's
list with nothing boarded, the visit has asked, and the queue counts them out. -/
def asked (s : State) (pf : Platform) : State :=
  match assignmentAwaited s pf with
  | none => s
  | some (v, c) =>
    let r := chosenFor s pf v c
    let w : Visit :=
      { v with assigned := v.assigned ++ r.chosen.map (fun e => { party := e, boarded := 0 }), assignmentAsked := true }
    { s with
      sequencers := s.sequencers.set pf { s.sequencers.get pf with current := some w }
      queues := s.queues.set pf
        { entries := r.stay, outCount := (s.queues.get pf).outCount + r.chosen.length } }

/-- The records of that assignment, one PARTY_ASSIGNED for each party in the order chosen (R94). -/
def assignmentRecords (s : State) (pf : Platform) : List EventRecord :=
  match assignmentAwaited s pf with
  | none => []
  | some (v, c) =>
    (chosenFor s pf v c).chosen.map fun e =>
      { time := s.clock, kind := .partyAssigned, cabin := some v.cabin, platform := some pf, source := none
        grade := none, value := signed16 e.tag }

/-- A platform asks for the assignment it awaits, where the held grade is below UNLOAD. -/
def askedIfAllowed (s : State) (pf : Platform) : State :=
  if s.holds.held.atLeast .unload then s else (assignmentRecords s pf).foldl State.append (asked s pf)

/-- From `s` to `t` the records appended whose kind is one of `kinds` are exactly `recs`, in this order. -/
def RecordedOf (s t : State) (kinds : List EventKind) (recs : List EventRecord) : Prop :=
  ∃ xs : List EventRecord, Recorded s t xs ∧ xs.filter (fun e => kinds.contains e.kind) = recs

/-- The visits and the queues of `t` are those of `s`, and no assignment is recorded. -/
def NothingAsked (s t : State) : Prop :=
  t.sequencers = s.sequencers ∧ t.queues = s.queues ∧ RecordedOf s t [.partyAssigned] []

/-- The visits and the queues of `t` are those of `s` with the assignments that the platforms await made and recorded, A's
before B's (DESIGN CHOICE, log 7). -/
def BothAsked (s t : State) : Prop :=
  t.sequencers = (asked (asked s .a) .b).sequencers ∧ t.queues = (asked (asked s .a) .b).queues ∧
  RecordedOf s t [.partyAssigned] (assignmentRecords s .a ++ assignmentRecords s .b)

/-- What changes of hold sources may have made of `s`: the records and the held grade (R137), the unload-complete flag
(R150), the park record (R162), assignments withheld until now (R66), records on the Event Stack (R138), and the figures
that follow (R53, R148, R159). Everything else is as it was. The visits and the queues are as they were or those of the
assignments awaited, and these are made where the held grade has fallen from UNLOAD or above to below it. -/
def Reacted (s t : State) : Prop :=
  t = { s with holds := t.holds, unload := { s.unload with complete := t.unload.complete }
               permit := { s.permit with park := t.permit.park, ceiling := t.permit.ceiling }
               sequencers := t.sequencers, queues := t.queues, output := { s.output with image := t.output.image }
               events := t.events, brakeDemand := t.brakeDemand } ∧
  (∀ pf : Platform, apartFromAssignment (t.sequencers.get pf) = apartFromAssignment (s.sequencers.get pf) ∧
    (t.output.image.get pf).actuator = (s.output.image.get pf).actuator ∧
    (t.output.image.get pf).reclosePending = (s.output.image.get pf).reclosePending) ∧
  (NothingAsked s t ∨ BothAsked s t) ∧
  (s.holds.held.atLeast .unload = true → t.holds.held.atLeast .unload = false → BothAsked s t)

/-- A reaction to changes of the sources `srcs` alone: every other source's record is as it was, nothing is assigned at
UNLOAD and above, and a held grade that does not move sets nothing off. -/
def HoldFrame (s t : State) (srcs : List Source) : Prop :=
  Reacted s t ∧ (∀ src : Source, src ∉ srcs → t.holds.table.get src = s.holds.table.get src) ∧
  (t.holds.held.atLeast .unload = true → t.sequencers = s.sequencers ∧ t.queues = s.queues) ∧
  (t.holds.held = s.holds.held →
    t.unload = s.unload ∧ t.permit.park = s.permit.park ∧ t.sequencers = s.sequencers ∧ t.queues = s.queues)

/-- What a tick may change: the position, the visits and what they command, the hold state, the park record, the away
set. -/
def TickFrame (s t : State) : Prop :=
  t = { s with position := t.position, cabins := t.cabins, sequencers := t.sequencers, queues := t.queues
               output := { s.output with image := t.output.image }, holds := t.holds
               unload := { s.unload with complete := t.unload.complete }
               permit := { s.permit with park := t.permit.park, ceiling := t.permit.ceiling }
               loop := { s.loop with away := t.loop.away }, events := t.events, brakeDemand := t.brakeDemand }

/-- A platform's part of the output image with its actuator commanded (R52, R56). -/
def commanded (u : ImageUnit) (code : ActuatorCode) : ImageUnit := { u with actuator := code, reclosePending := false }

/-- The output image with one platform's part replaced. -/
def withUnit (s : State) (pf : Platform) (u : ImageUnit) : State :=
  { s with output := { s.output with image := s.output.image.set pf u } }

/-- The door of a platform commanded, and its Sequencer replaced. -/
def actuated (s : State) (pf : Platform) (code : ActuatorCode) (q : Sequencer) : State :=
  { withUnit s pf (commanded (s.output.image.get pf) code) with sequencers := s.sequencers.set pf q }

/-- A source record after its condition has come to `g`, for a source that keeps its peak (R137). -/
def latchedAt (r : HoldRecord) (g : Grade) : HoldRecord :=
  { cond := g, peak := r.peak.max g, floor := r.floor, latched := (r.peak.max g).max r.floor }

/-- The occupied count and the unload-complete flag of `t` are those of its cabins, its held grade being that of `s`, and
the flag's setting is the one record appended (R149, R150). -/
def Recounted (s t : State) : Prop :=
  t.unload.occupied = (t.cabins.filter fun c => 0 < c.occupancy || c.occupancyUnknown).length ∧
  t.unload.complete = (s.holds.held.atLeast .unload && t.unload.occupied = 0) ∧
  Recorded s t (if t.unload.complete && !s.unload.complete then
    [{ time := s.clock, kind := .unloadComplete, cabin := none, platform := none, source := none
       grade := some s.holds.held, value := 0 }] else [])

/-- The banks after a revolution boundary (R112 to R114): the active bank's run counts up, unless its plan has ended;
then a pending swap turns the banks over, or an exhausted SINGLE bank ends. The bank that becomes active keeps its ready
flag (DESIGN CHOICE, log 25). -/
def afterBoundary (x : Plans) : Plans :=
  let counted := if x.planEnd then x else x.setActive { x.active with run := min 255 (x.active.run + 1) }
  let retired := counted.setActive { counted.active with ready := false }
  let turned := { retired with oneActive := !x.oneActive, swapPending := false, planEnd := false }
  if x.swapPending then turned.setActive { turned.active with run := 0 }
  else if counted.active.mode = .single ∧ counted.active.count ≤ counted.active.run ∧ x.planEnd = false then
    { counted with planEnd := true }
  else counted

/-- A plain record of the Event Stack with the clock of `s`. -/
def plainRecord (s : State) (kind : EventKind) (value : Int) : EventRecord :=
  { time := s.clock, kind := kind, cabin := none, platform := none, source := none, grade := none, value := value }

/-- A record of the Event Stack about a cabin at a platform, with the clock of `s`. -/
def berthRecord (s : State) (kind : EventKind) (cabin : Nat) (pf : Platform) (value : Int) : EventRecord :=
  { time := s.clock, kind := kind, cabin := some cabin, platform := some pf, source := none, grade := none
    value := value }

/-- The record that a revolution boundary of `s` makes: PLAN_SWAPPED with the number of the bank that becomes active
(R113), PLAN_END with the count of the bank that ends (R114), or none. -/
def boundaryRecords (s : State) : List EventRecord :=
  if s.plans.swapPending then [plainRecord s .planSwapped (if s.plans.oneActive then 0 else 1)]
  else if (afterBoundary s.plans).planEnd && !s.plans.planEnd then [plainRecord s .planEnd s.plans.active.count]
  else []

/-! ## What a movement hands over (R11, R12) -/

/-- A point of cabin `k` at a platform, with the θ that a forward tick reaches as the phase goes over it (R10, R11). -/
def crossedAt (s : State) (pf : Platform) (k : Nat) (c : Crossing) : CrossedPoint :=
  let x := s.position.points
  let o : Int := if pf = .a then 0 else x.beta
  let phase : Int := match c with
    | .enter => -(x.enter : Int)
    | .close => x.close
    | .exit => x.exit + 1
  { platform := pf, cabin := k, point := c
    theta := ((k * (s.geometry.p / s.geometry.n : Nat) + o + phase) % (s.geometry.p : Int)).toNat }

/-- The points that a forward movement of θ from 0 to `before` crosses at both platforms: a backward correction that undoes
the movement leaves them crossed (R11, log 23). -/
def crossedUpTo (s : State) (before : Nat) : List CrossedPoint :=
  let ofPlatform (pf : Platform) : List CrossedPoint :=
    (s.forwardCrossings 0 before pf).map fun x => crossedAt s pf x.1 x.2
  ofPlatform .a ++ ofPlatform .b

/-- The crossings of a forward movement of θ taken by the Sequencer of a platform, each by its kind, in their order. -/
def handed (s : State) (before after : Nat) (pf : Platform) : State :=
  (s.forwardCrossings before after pf).foldl (init := s) fun s x =>
    match x.2 with
    | .enter => s.takeEnter pf x.1
    | .close => s.takeClose pf x.1
    | .exit => s.takeExit pf x.1

/-- The retreats of a reverse movement of θ taken by the Sequencer of a platform. -/
def handedBack (s : State) (before after : Nat) (pf : Platform) : State :=
  (s.retreats before after pf).foldl (fun s k => s.takeRetreat pf k) s

/-- The visits, the cabins, the queues and the actuator commands of `t` are those of `u`. -/
def SameVisits (u t : State) : Prop :=
  t.cabins = u.cabins ∧ t.sequencers = u.sequencers ∧ t.queues = u.queues ∧
  ∀ pf : Platform, (t.output.image.get pf).actuator = (u.output.image.get pf).actuator ∧
    (t.output.image.get pf).reclosePending = (u.output.image.get pf).reclosePending

/-! ## The park record (R162 to R167) -/

/-- The park record that a change of the held grade to PARK creates (R162, R163), with the park platform and the offset in
force (R15, log 8). -/
def freshPark (s : State) : ParkRecord :=
  let o : Nat := match s.position.points.park with
    | .a => 0
    | .b => s.position.points.beta
  { state := .parking, target := s.parkTarget o, platform := s.position.points.park, offset := o, steps := 0 }

/-- The record that a park record turning PARKED makes: the platform, the cabin centred at it, the alignment error
(R165). -/
def parkedRecord (s : State) (r : ParkRecord) : EventRecord :=
  let pitch := s.geometry.p / s.geometry.n
  let round := (((s.position.theta : Int) - r.offset) % (s.geometry.p : Int)).toNat
  berthRecord s .parked ((round + pitch / 2) / pitch % s.geometry.n) r.platform (-(r.target - s.position.tau).toInt)

/-! ## Party tags (R87) -/

/-- The tag stands in a queue. -/
def TagQueued (s : State) (pf : Platform) (tag : Nat) : Prop := ∃ e ∈ (s.queues.get pf).entries, e.tag = tag

/-- The tag stands on the assigned-parties list of a current visit. -/
def TagAssigned (s : State) (pf : Platform) (tag : Nat) : Prop :=
  ∃ e ∈ (s.sequencers.get pf).assigned, e.party.tag = tag

/-- The tag stands on the parties-aboard list of cabin `k`. -/
def TagAboard (s : State) (k tag : Nat) : Prop := ∃ c, s.cabins[k]? = some c ∧ ∃ x ∈ c.parties, x.tag = tag

end Sys2Proof
end

