-- ==== Sys2Proof/WellFormed.lean ====
section
/-! DEFINITION. Which commands can stand on the line: every payload field fits the width Table 10-4 gives it, and no
payload is longer than the 64 bytes of Table 10-1. -/

namespace Sys2Proof

/-- A number that fits a 1-byte field. -/
def fits1 (x : Nat) : Bool := x < 256

/-- A number that fits a 2-byte field. -/
def fits2 (x : Nat) : Bool := x < 65536

/-- A number that fits a 4-byte field. -/
def fits4 (x : Nat) : Bool := x < 4294967296

/-- The bytes of a discarded frame begin with its sync byte, and its head has been received (R173). -/
def beginsFrame : List Byte → Bool
  | sync :: _ :: _ :: _ => sync = 0xA5#8
  | _ => false

/-- The widths of Table 10-4, field by field. -/
def Instr.wf : Instr → Bool
  | .statusQuery _ => true
  | .cabinRead _ cabin => fits1 cabin
  | .driveReport _ speed position driveState brakeReleased =>
      fits2 speed && fits2 position && fits1 driveState && fits1 brakeReleased
  | .berthQuery _ platform => fits1 platform
  | .queueQuery _ platform => fits1 platform
  | .partyAdd _ tag size accessible priv => fits2 tag && fits1 size && fits1 accessible && fits1 priv
  | .partyCancel _ tag => fits2 tag
  | .alightCount _ visit count => fits1 visit && fits1 count
  | .boardCount _ visit tag count => fits1 visit && fits2 tag && fits1 count
  | .dispatch _ visit => fits1 visit
  | .cabinHold _ cabin setting => fits1 cabin && fits1 setting
  | .platformStop _ action => fits1 action
  | .configWrite _ item value => fits2 item && fits4 value
  | .configRead _ item => fits2 item
  | .configSave _ => true
  | .configLock _ => true
  | .cabinWrite _ cabin kind capacity autoHold => fits1 cabin && fits1 kind && fits1 capacity && fits1 autoHold
  | .cabinService _ cabin action => fits1 cabin && fits1 action
  | .occupancyDeclare _ cabin count records =>
      fits1 cabin && fits1 count && records.length ≤ 20 && records.all (fun r => fits2 r.1 && fits1 r.2)
  | .entrySet _ cabin platform directive tag => fits1 cabin && fits1 platform && fits1 directive && fits2 tag
  | .entryRemove _ cabin platform => fits1 cabin && fits1 platform
  | .listClear _ => true
  | .settings _ mode revolutions speed stopOnMiss =>
      fits1 mode && fits1 revolutions && fits2 speed && fits1 stopOnMiss
  | .planSwap _ => true
  | .planRead _ bank first => fits1 bank && fits1 first
  | .operatorHold _ grade => fits1 grade
  | .holdRelease _ source => fits1 source
  | .holdRead _ source => fits1 source
  | .parkAdvance _ count => fits1 count
  | .eventTake _ count => fits1 count
  | .restart _ => true
  | .unknownKindRequest _ _ payload => payload.length ≤ 64
  | .crcWrongDiscard _ bytes => beginsFrame bytes
  | .frameGapTimeout _ _ => true
  | .replyEnd _ => true
  | .forwardTick => true
  | .reverseTick => true
  | .indexEdge => true
  | .windowEnd => true
  | .anemometerPulse _ => true
  | .scanStart => true
  | .scanEnd _ _ => true
  | .actuatorTimerExpiry _ => true
  | .blinkToggle => true
  | .sequenceStart => true
  | .sequenceEnd => true
  | .refreshExpiry => true
  | .stopLineTaken _ _ => true
  | .driveSilenceExpiry => true
  | .saveDone _ => true
  | .warmRestart _ => true
  | .supplyOn => true
  | .restartLineHeld => true
  | .powerOnComplete _ _ _ => true
  | .supplyLoss => true
  | .framingError _ _ => true

end Sys2Proof
end

