-- ==== Sys2Proof/Certificates/Slice0/Obligations.lean ====
section
/-! DEFINITION. The statements about the part, one for each fact that the model is meant to keep. -/

section

open Sys2Proof Sys2Proof.Machine

/-! ## The queue of commands and the phases of the part -/

/-- A step takes the command at the front of the queue and runs its meaning on the state with the queue's rest. -/
def Obligations.StepRunsTheFrontCommand : Prop :=
  ∀ (c : Instr) (rest : List Instr) (s : State), s.pending = c :: rest → step s = exec c (s.withPending rest)

/-- A step of a running part with no command waiting is one millisecond (DESIGN CHOICE, log 2): the millisecond count
and the timers run; the rows of the timers that run out, with the start of an output sequence that is due, stand in the
queue in the order of log 2, and nothing else does; and nothing else changes. A part that does not run stands still. With
a warm restart due, the step is that of the part after the restart (DESIGN CHOICE, log 9). -/
def Obligations.EmptyQueueIsOneMillisecond : Prop :=
  ∀ s : State, s.pending = [] →
    let out (timer : Option Nat) : Bool := timer.any fun n => n ≤ 1
    let row (due : Bool) (c : Instr) : List Instr := if due then [c] else []
    (s.phase = .running → step s = .next
      { s with
        clock := s.clock + 1
        position := { s.position with windowTimer := s.position.windowTimer - 1 }
        loop := { s.loop with scanTimer := s.loop.scanTimer - 1 }
        output := { s.output with blinkTimer := s.output.blinkTimer - 1
                                  refreshTimer := s.output.refreshTimer - 1 }
        sequencers :=
          { a := { s.sequencers.a with actuatorTimer := s.sequencers.a.actuatorTimer.map fun x => x - 1 }
            b := { s.sequencers.b with actuatorTimer := s.sequencers.b.actuatorTimer.map fun x => x - 1 } }
        permit := { s.permit with silenceTimer := s.permit.silenceTimer.map fun x => x - 1
                                  sinceReport := min 65535 (s.permit.sinceReport + 1) }
        pending :=
          row (out s.permit.silenceTimer) .driveSilenceExpiry ++
          row (out s.sequencers.a.actuatorTimer) (.actuatorTimerExpiry .a) ++
          row (out s.sequencers.b.actuatorTimer) (.actuatorTimerExpiry .b) ++
          row (s.position.windowTimer ≤ 1) .windowEnd ++
          row (s.loop.scanTimer ≤ 1) .scanStart ++
          row (s.output.blinkTimer ≤ 1) .blinkToggle ++
          row (s.output.content ≠ s.output.sent && !s.output.inProgress) .sequenceStart ++
          row (s.output.refreshTimer ≤ 1) .refreshExpiry }) ∧
    (s.phase = .restartDue → step s = step (s.warmRestart .request)) ∧
    (s.phase = .off ∨ s.phase = .heldInReset → step s = .next s)

/-- Every command answers a next state in every state, and leaves the queue as it is. -/
def Obligations.EveryCommandAnswersNext : Prop :=
  ∀ (i : Instr) (s : State), ∃ t : State, exec i s = .next t ∧ t.pending = s.pending

/-- Without supply, and held in reset, nothing but the rows of the supply and of the power-on changes anything (R179,
R187). The warm restart that the reply to a RESTART request has made due is held by a phase of its own and taken before
anything else: the row WARM_RESTART of a request is that restart, and any other command that finds it due acts on the state
after it (DESIGN CHOICE, log 9; R188 itself says only that the restart is taken at the end of that reply, whole, before
anything else). The rows that start and stop the part complete: supply applied and the RESTART line held bring the part into
reset with the brake demanded, a loss of supply stops it with the brake demanded, and a power-on that completes leaves it
running (R148, R187); that these rows act in every order is log 13's (DESIGN CHOICE). RESTART is accepted whatever the state
of the part (R188). -/
def Obligations.OnlyARunningPartTakesCommands : Prop :=
  (∀ (i : Instr) (s : State), s.phase = .off ∨ s.phase = .heldInReset →
     i = .supplyOn ∨ i = .supplyLoss ∨ i = .restartLineHeld ∨ (∃ a b strap, i = .powerOnComplete a b strap) ∨
     exec i s = .next s) ∧
  (∀ (i : Instr) (s : State), s.phase = .restartDue →
     exec (.warmRestart .request) s = .next (s.warmRestart .request) ∧
     (i = .supplyOn ∨ i = .supplyLoss ∨ i = .restartLineHeld ∨ (∃ a b strap, i = .powerOnComplete a b strap) ∨
       i = .warmRestart .request ∨ exec i s = exec i (s.warmRestart .request))) ∧
  (∀ s : State,
     (∃ t : State, exec .supplyOn s = .next t ∧ t.phase = .heldInReset ∧ t.brakeDemand = true) ∧
     (∃ t : State, exec .supplyLoss s = .next t ∧ t.phase = .off ∧ t.brakeDemand = true) ∧
     (s.phase ≠ .off →
       (∃ t : State, exec .restartLineHeld s = .next t ∧ t.phase = .heldInReset ∧ t.brakeDemand = true) ∧
       (∀ openA openB strap : Bool, ∃ t : State,
         exec (.powerOnComplete openA openB strap) s = .next t ∧ t.phase = .running))) ∧
  (∀ s : State, Ready s .controlRoom →
     ∃ t : State, exec (.restart .controlRoom) s = .next t ∧ RepliedOnly s t .controlRoom 0x4F .accepted [])

/-! ## The link -/

/-- A request that arrives whole on a port in REPLY is lost (R174). A request on a port its kind is not open on is
answered REFUSED_PORT and changes nothing else (R175); the kinds open on each port are those of Table 10-4. A frame with a
right CRC that no request row spells is answered REFUSED_PORT where its kind is not open on the port, which is so on every
port for a code that is no kind, and BAD_FIELD where it is. That HOLD RELEASE's reply is empty as well when it is so refused
is the model's choice (DESIGN CHOICE, log 19), and that a port left in HEAD or BODY takes the request, log 1's (DESIGN
CHOICE). A platform's port is the port of that platform's console. -/
def Obligations.PortsAreTestedFirst : Prop :=
  ([Port.drive, .platformA, .platformB, .controlRoom].map portPlatform = [none, some .a, some .b, none] ∧
   (∀ (i : Instr) (f : RequestFrame) (s : State), requestFrame i = some f → s.phase = .running →
      inReply (s.ports.states.get f.port) = true → exec i s = .next s) ∧
   ((∀ (i : Instr) (f : RequestFrame) (s : State), requestFrame i = some f → Ready s f.port →
      kindOpen f.kind.toNat f.port = false →
      ∃ t : State, exec i s = .next t ∧ RepliedOnly s t f.port f.kind.toNat .refusedPort []) ∧
    (∀ kind : Nat,
      (kindOpen kind .drive = true ↔ kind ∈ [0x01, 0x02, 0x10]) ∧
      (∀ p : Port, p = .platformA ∨ p = .platformB →
        (kindOpen kind p = true ↔
          kind ∈ [0x01, 0x02, 0x20, 0x21, 0x22, 0x23, 0x24, 0x25, 0x26, 0x27, 0x28])) ∧
      (kindOpen kind .controlRoom = true ↔
        kind ∈ [0x01, 0x02, 0x23, 0x27, 0x30, 0x31, 0x32, 0x33, 0x34, 0x35, 0x36, 0x38, 0x39, 0x3A, 0x40, 0x41, 0x42,
          0x43, 0x48, 0x4F])))) ∧
  (∀ (p : Port) (kind : Byte) (payload : List Byte) (s : State), Ready s p → payload.length ≤ 64 →
     (∀ (i : Instr) (f : RequestFrame), i.wf = true → requestFrame i = some f → f.kind = kind → f.payload ≠ payload) →
     ∃ t : State, exec (.unknownKindRequest p kind payload) s = .next t ∧
       RepliedOnly s t p kind.toNat (if kindOpen kind.toNat p then .badField else .refusedPort) [])

/-- The CRC of a frame is the remainder of R172: it starts at 0xFFFF, takes each byte into its high eight bits and shifts
eight times by the polynomial 0x1021, is sent high byte first, and is 0x29B1 over the characters 1 to 9. A request frame
is the sync byte, the kind, the length, the payload and the CRC, and a reply frame is that of Table 10-1, with the codes
of Table 10-3 and the header's flags from bit 0 up. The header (R177) carries the held grade, the wind class and the six
flags as they stand, with events-waiting and rollover 0 off the CONTROL ROOM port; EVENT TAKE's reply names the rollover
flag as it stood. The named values have the codes of Tables 10-5, 8-2 and 11-2 (the gate's and the role's log 26's, DESIGN
CHOICE), numbers are sent most significant byte first, and the payload of each request is that of Table 10-4. The bytes of
a request frame, fed to a port in HUNT, act as the request row they spell; and so do its kind and payload, handed to the
routing by bytes. That a request row stands for one whole good frame is log 1's form of the rows, and that the discard
rows carry the bytes received log 15's (DESIGN CHOICE, both). -/
def Obligations.FrameBytesActAsTheirRow : Prop :=
  (∀ (bytes : List Byte) (b : Byte),
    let shift (x : BitVec 16) : BitVec 16 := if x.msb then (x <<< 1) ^^^ 0x1021#16 else x <<< 1
    crc16 [] = 0xFFFF#16 ∧
    crc16 (bytes ++ [b]) = Nat.repeat shift 8 (crc16 bytes ^^^ (b.zeroExtend 16 <<< 8)) ∧
    crc16 [0x31#8, 0x32#8, 0x33#8, 0x34#8, 0x35#8, 0x36#8, 0x37#8, 0x38#8, 0x39#8] = 0x29B1#16 ∧
    crcBytes bytes = [(crc16 bytes).extractLsb' 8 8, (crc16 bytes).extractLsb' 0 8]) ∧
  (∀ (f : RequestFrame) (r : Reply),
    let asked : List Byte := f.kind :: BitVec.ofNat 8 f.payload.length :: f.payload
    let h := r.header
    let bit (place : Nat) (x : Bool) : Nat := if x then 2 ^ place else 0
    let flags : Nat :=
      bit 0 h.verified + bit 1 h.parked + bit 2 h.unloadComplete + bit 3 h.loopFault + bit 4 h.eventsWaiting +
      bit 5 h.rollover
    let windClass : Nat := match h.windClass with
      | .pending => 9
      | .level c => c
    let sent : List Byte :=
      [r.kind + 128, r.result.code, h.held.value, windClass, flags, r.payload.length].map (BitVec.ofNat 8) ++ r.payload
    f.bytes = 0xA5#8 :: (asked ++ crcBytes asked) ∧ r.frame = 0x5A#8 :: (sent ++ crcBytes sent) ∧
    [Result.accepted, .refusedPort, .badField, .wrongState, .stale, .full, .duplicate, .notFound, .overCapacity,
      .pending, .locked, .stillActive, .busy].map Result.code = List.range 13 ∧
    [Grade.none, .limit, .unload, .park, .stop, .brake].map Grade.value = List.range 6) ∧
  (∀ (s : State) (p : Port) (stood : Option Bool),
    s.header p stood =
      { held := s.holds.held, windClass := s.wind.windClass, verified := s.position.verified
        parked := s.permit.park.any fun r => r.state = .parked
        unloadComplete := s.unload.complete, loopFault := s.loop.loopFault
        eventsWaiting := p = .controlRoom && !s.events.records.isEmpty
        rollover := p = .controlRoom && stood.getD s.events.rollover }) ∧
  (([.powerOn, .restart, .operator, .wind, .windSensor, .platformStopA, .platformStopB, .doorLate, .doorAway, .loopFault,
      .position, .reverse, .disagree, .driveSilent, .driveFault, .planEnd, .berthMiss, .parkOvershoot] = Source.all ∧
     Source.all.map Source.number = List.range 18 ∧
     [EventKind.index, .indexMismatch, .visitStart, .visitEnd, .missedBerth, .partyAssigned, .contactConflict, .loopFault,
       .loopOk, .sensorFault, .sensorRecovered, .classChange, .holdRaised, .holdReleased, .planSwapped, .planEnd, .parked,
       .unloadComplete, .saveDone, .configDefaulted, .restarted].map EventKind.code = (List.range 21).map (· + 1)) ∧
    ([Platform.a, .b].map Platform.code = [0, 1] ∧
     [CabinKind.standard, .accessible, .letOut].map CabinKind.code = [0, 1, 2] ∧
     [GateSetting.hold, .opened, .openOnce].map GateSetting.code = [0, 1, 2] ∧
     [Gate.hold, .opened].map Gate.code = [0, 1] ∧
     [Role.boardAlight, .boardOnly, .alightOnly, .off].map Role.code = [0, 1, 2, 3] ∧
     [ServiceAction.withdraw, .restore].map ServiceAction.code = [0, 1] ∧
     [Service.inService, .withdrawPending, .withdrawn].map Service.code = [0, 1, 2] ∧
     [DoorState.unknown, .latched, .closed, .opened].map DoorState.code = [0, 1, 2, 3] ∧
     [VisitState.passing, .opening, .opened, .closing, .secured].map VisitState.code = [1, 2, 3, 4, 5] ∧
     [Directive.skip, .alight, .board, .alightBoard].map Directive.code = [0, 1, 2, 3] ∧
     [ActuatorCode.close, .opening, .release].map ActuatorCode.code = [0, 1, 2] ∧
     [ActuatorPosition.unknown, .opened, .closed, .moving, .conflict].map ActuatorPosition.code = [0, 1, 2, 3, 4] ∧
     [some DriveState.running, some .stopped, some .fault, none].map DriveState.code = [0, 1, 2, 255] ∧
     [PlanMode.repeating, .single].map PlanMode.code = [0, 1]) ∧
    (∀ (tag : Nat) (r : ParkRecord),
      [PlanDirective.pass, .alightOnly, .reserved tag].map PlanDirective.code = [0, 1, 2] ∧
      [PlanDirective.pass, .alightOnly, .reserved tag].map PlanDirective.tag = [0, 0, tag] ∧
      parkStateCode none = 0 ∧
      parkStateCode (some r) = (match r.state with
        | .parking => 1
        | .parked => 2
        | .stepping => 3) ∧
      WindClass.code .pending = 9 ∧ (WindClass.level tag).code = tag) ∧
    (∀ (x : Nat) (y : Int) (z : Bool),
      let byte (place : Nat) : Byte := BitVec.ofNat 8 (x / 256 ^ place)
      bytes1 x = [byte 0] ∧ bytes2 x = [byte 1, byte 0] ∧ bytes4 x = [byte 3, byte 2, byte 1, byte 0] ∧
      signed4 y = bytes4 (BitVec.ofInt 32 y).toNat ∧ yesNo z = [if z then 1#8 else 0#8] ∧
      option1 (some x) = bytes1 x ∧ option1 none = [0xFF#8] ∧
      signed2 y = bytes2 (BitVec.ofInt 16 y).toNat ∧
      option4 (some x) = bytes4 x ∧ option4 none = [0xFF#8, 0xFF#8, 0xFF#8, 0xFF#8] ∧
      optionSigned4 (some y) = signed4 y ∧ optionSigned4 none = [0x80#8, 0#8, 0#8, 0#8] ∧
      tagBytes (some x) = bytes2 x ∧ tagBytes none = [0#8, 0#8])) ∧
  (∀ (p : Port) (a b c d : Nat) (xs : List (Nat × Nat)),
    let spells (i : Instr) (kind : Byte) (payload : List Byte) : Prop := requestFrame i = some ⟨p, kind, payload⟩
    (spells (.statusQuery p) 0x01 [] ∧ spells (.cabinRead p a) 0x02 (bytes1 a) ∧
     spells (.driveReport p a b c d) 0x10 (bytes2 a ++ bytes2 b ++ bytes1 c ++ bytes1 d) ∧
     spells (.berthQuery p a) 0x20 (bytes1 a) ∧ spells (.queueQuery p a) 0x21 (bytes1 a) ∧
     spells (.partyAdd p a b c d) 0x22 (bytes2 a ++ bytes1 b ++ bytes1 c ++ bytes1 d) ∧
     spells (.partyCancel p a) 0x23 (bytes2 a) ∧ spells (.alightCount p a b) 0x24 (bytes1 a ++ bytes1 b) ∧
     spells (.boardCount p a b c) 0x25 (bytes1 a ++ bytes2 b ++ bytes1 c) ∧ spells (.dispatch p a) 0x26 (bytes1 a) ∧
     spells (.cabinHold p a b) 0x27 (bytes1 a ++ bytes1 b) ∧ spells (.platformStop p a) 0x28 (bytes1 a)) ∧
    (spells (.configWrite p a b) 0x30 (bytes2 a ++ bytes4 b) ∧ spells (.configRead p a) 0x31 (bytes2 a) ∧
     spells (.configSave p) 0x32 [] ∧ spells (.configLock p) 0x33 [] ∧
     spells (.cabinWrite p a b c d) 0x34 (bytes1 a ++ bytes1 b ++ bytes1 c ++ bytes1 d) ∧
     spells (.cabinService p a b) 0x35 (bytes1 a ++ bytes1 b) ∧
     spells (.occupancyDeclare p a b xs) 0x36
       (bytes1 a ++ bytes1 b ++ bytes1 xs.length ++ xs.flatMap fun x => bytes2 x.1 ++ bytes1 x.2)) ∧
    (spells (.entrySet p a b c d) 0x38 (bytes1 0 ++ bytes1 a ++ bytes1 b ++ bytes1 c ++ bytes2 d) ∧
     spells (.entryRemove p a b) 0x38 (bytes1 1 ++ bytes1 a ++ bytes1 b) ∧ spells (.listClear p) 0x38 (bytes1 2) ∧
     spells (.settings p a b c d) 0x38 (bytes1 3 ++ bytes1 a ++ bytes1 b ++ bytes2 c ++ bytes1 d) ∧
     spells (.planSwap p) 0x39 [] ∧ spells (.planRead p a b) 0x3A (bytes1 a ++ bytes1 b)) ∧
    (spells (.operatorHold p a) 0x40 (bytes1 a) ∧ spells (.holdRelease p a) 0x41 (bytes1 a) ∧
     spells (.holdRead p a) 0x42 (bytes1 a) ∧ spells (.parkAdvance p a) 0x43 (bytes1 a) ∧
     spells (.eventTake p a) 0x48 (bytes1 a) ∧ spells (.restart p) 0x4F [])) ∧
  (∀ (i : Instr) (f : RequestFrame) (s : State), i.wf = true → requestFrame i = some f →
    exec (.unknownKindRequest f.port f.kind f.payload) s = exec i s ∧
    (s.phase = .running → s.ports.states.get f.port = .hunt →
      exec (.crcWrongDiscard f.port f.bytes) s = exec i s))

/-- A frame whose CRC is wrong, one whose length byte is above 64, and one cut short by a gap or a framing error change
nothing: the port is in HUNT again (R173). A gap or a framing error takes a port in HEAD or BODY to HUNT, and all bytes
that arrive in REPLY are discarded (R174). At the end of a reply its port is in HUNT. The model's choices in this: the
discard rows carry the bytes received on the way (DESIGN CHOICE, log 15); after the reply to an accepted RESTART the warm
restart is held due by a phase of its own (DESIGN CHOICE, log 9); the end of a reply on a port that is not in REPLY changes
nothing (DESIGN CHOICE, log 14). -/
def Obligations.PortsReturnToHunt : Prop :=
  (∀ (p : Port) (s : State), s.phase = .running →
     (s.ports.states.get p = .hunt →
       (∀ (kind length : Byte) (got : List Byte), length.toNat ≤ 64 → got.length = length.toNat + 2 →
         got.drop length.toNat ≠ crcBytes (kind :: length :: got.take length.toNat) →
         exec (.crcWrongDiscard p (0xA5#8 :: kind :: length :: got)) s = .next s) ∧
       (∀ kind length : Byte, 64 < length.toNat → exec (.crcWrongDiscard p [0xA5#8, kind, length]) s = .next s) ∧
       (∀ (kind length : Byte) (got bytes : List Byte), length.toNat ≤ 64 → got.length < length.toNat + 2 →
         bytes = [] ∨ bytes = [0xA5#8] ∨ bytes = [0xA5#8, kind] ∨ bytes = 0xA5#8 :: kind :: length :: got →
         exec (.frameGapTimeout p bytes) s = .next s ∧ exec (.framingError p bytes) s = .next s)) ∧
     (inReply (s.ports.states.get p) = false →
       exec (.frameGapTimeout p []) s = .next (s.setPort p .hunt) ∧
       exec (.framingError p []) s = .next (s.setPort p .hunt)) ∧
     (inReply (s.ports.states.get p) = true → ∀ bytes : List Byte,
       exec (.crcWrongDiscard p bytes) s = .next s ∧ exec (.frameGapTimeout p bytes) s = .next s ∧
       exec (.framingError p bytes) s = .next s)) ∧
  (∀ (p : Port) (s : State), s.phase = .running →
     (∀ r : Reply, s.ports.states.get p = .reply r →
       exec (.replyEnd p) s = .next
         { s with phase := if r.kind = 0x4F ∧ r.result = .accepted then .restartDue else .running
                  ports := { s.ports with states := s.ports.states.set p .hunt } }) ∧
     (inReply (s.ports.states.get p) = false → exec (.replyEnd p) s = .next s))

/-! ## What every step keeps -/

/-- R53, R148, R160: every step keeps the lamps, the ceiling and the brake demand formed from the rest of the state; formed,
the brake is demanded exactly while the held grade is BRAKE (R148). -/
def Obligations.FiguresStayFormed : Prop :=
  ∀ s t : State, Formed s → step s = .next t →
    Formed t ∧ (t.phase = .running ∨ t.phase = .restartDue → t.brakeDemand = decide (t.holds.held = .brake))

/-- R137: every step keeps the latched grades and the held grade derived: a latched grade is the greater of the event floor
and the peak, or, with auto-release, of the floor and the condition, and the held grade is the largest latched grade. -/
def Obligations.HoldsStayDerived : Prop :=
  ∀ s t : State, HoldsDerived s → step s = .next t → HoldsDerived t ∧
    (∀ src : Source,
      let r := t.holds.table.get src
      let base := if t.settings.auto.get src then r.cond else r.peak
      r.cond.value ≤ r.peak.value ∧ r.latched.value = max base.value r.floor.value ∧
      r.latched.value ≤ t.holds.held.value) ∧
    ∃ src : Source, (t.holds.table.get src).latched = t.holds.held

/-- R149, R150: every step keeps the occupied count and the unload-complete flag. -/
def Obligations.UnloadStaysCounted : Prop :=
  ∀ s t : State, UnloadCounted s → step s = .next t → UnloadCounted t

/-- R136: every step keeps each condition grade equal to the one its owner gives. R50, R51: every step keeps the away set
judged: ascending, and with exactly the cabins whose door is CLOSED or OPEN, with the position verified, outside every window
of a role that is not OFF, and not in visit. -/
def Obligations.ConditionsStayOwned : Prop :=
  ∀ s t : State,
    (ConditionsOwned s → step s = .next t → ConditionsOwned t ∧
      let cond (src : Source) : Grade := (t.holds.table.get src).cond
      let grade (holds : Bool) (g : Grade) : Grade := if holds then g else .none
      cond .powerOn = .none ∧ cond .restart = .none ∧ cond .reverse = .none ∧ cond .berthMiss = .none ∧
      cond .parkOvershoot = .none ∧
      cond .windSensor = grade t.wind.sensorCondition t.settings.programmed.windSensor ∧
      cond .platformStopA = grade (t.stops.a.lineOpen || t.stops.a.request) t.settings.programmed.platformStopA ∧
      cond .platformStopB = grade (t.stops.b.lineOpen || t.stops.b.request) t.settings.programmed.platformStopB ∧
      cond .loopFault = grade t.loop.loopFault t.settings.programmed.loopFault ∧
      cond .disagree = grade t.position.disagree t.settings.programmed.disagree ∧
      cond .planEnd = grade t.plans.planEnd t.settings.programmed.planEnd) ∧
    (AwayJudged s → step s = .next t → AwayJudged t)

/-- R89: every step keeps the places of both queues. -/
def Obligations.QueuePlacesStayKept : Prop :=
  ∀ s t : State, PlacesKept s .a ∧ PlacesKept s .b → step s = .next t → PlacesKept t .a ∧ PlacesKept t .b

/-- R14, R1, R19: every step keeps the geometry legal, θ on the wheel, and one record for each cabin, and no point stays
crossed while the position is unverified (R11; DESIGN CHOICE, log 23). R183: with it, every
step keeps a save in progress sound: its copy goes, under the next save number, into the slot that does not hold the saved
copy. -/
def Obligations.WheelStaysSound : Prop :=
  ∀ s t : State, WheelSound s → step s = .next t → WheelSound t ∧ (SaveKept s → SaveKept t)

/-- R162: every step keeps a park record exactly while the held grade is PARK. -/
def Obligations.ParkRecordStandsWithPark : Prop :=
  ∀ s t : State, ParkKept s → step s = .next t → ParkKept t

/-- All of these hold right after reset. -/
def Obligations.ResetStateIsSound : Prop :=
  Formed State.reset ∧ HoldsDerived State.reset ∧ UnloadCounted State.reset ∧ ConditionsOwned State.reset ∧
  PlacesKept State.reset .a ∧ PlacesKept State.reset .b ∧ WheelSound State.reset ∧ ParkKept State.reset ∧
  EventsBounded State.reset ∧ AwayJudged State.reset ∧ SaveKept State.reset

/-! ## What the formed figures say -/

/-- R159: the ceiling is the smallest of the terms of Table 9-3: at most each of those that apply, and one of them. -/
def Obligations.CeilingIsTheLeastTerm : Prop :=
  ∀ s : State, Formed s → ParkKept s →
    let parkTerm : Option Nat :=
      s.permit.park.map fun r =>
        let root := isqrt (2 * s.settings.deceleration * (max 0 (r.target - s.position.tau).toInt).toNat)
        if r.state = .stepping then min root s.settings.speeds.step else root
    let working (pf : Platform) : Prop :=
      ∃ v, (s.sequencers.get pf).current = some v ∧ v.state ∈ [.opening, .opened, .closing]
    let terms : Nat → Prop := fun x =>
      x = s.permit.drive.speed ∨
      x = s.plans.active.speed ∨
      x = s.settings.speeds.absolute ∨
      (s.holds.held = .limit ∧ x = s.settings.speeds.limit) ∨
      (s.holds.held = .unload ∧ x = s.settings.speeds.unload) ∨
      (s.holds.held = .park ∧ some x = parkTerm) ∨
      (s.holds.held ∈ [.stop, .brake] ∧ x = 0) ∨
      ((working .a ∨ working .b) ∧ x = s.settings.speeds.boarding) ∨
      (s.position.verified = false ∧ x = s.settings.speeds.homing)
    terms s.permit.ceiling ∧ ∀ x, terms x → s.permit.ceiling ≤ x

/-- R53: the lamps of each platform are those of the row of Table 3-8 nearest the top that applies. -/
def Obligations.LampsFollowTheirTable : Prop :=
  ∀ (s : State) (pf : Platform), Formed s →
    let lamps := (s.output.image.get pf).lamps
    let visit := (s.sequencers.get pf).current
    let is (g a r : LampCode) : Prop := lamps = { green := g, amber := a, red := r }
    let late : Prop := ∃ v, visit = some v ∧ v.late = true
    let stopped : Prop := s.holds.held ∈ [.stop, .brake]
    let inState (x : VisitState) (offered : Bool) : Prop := ∃ v, visit = some v ∧ v.state = x ∧ v.boardingOffered = offered
    (late → is .off .blinkB .blinkA) ∧
    (¬late → stopped → is .off .off .on) ∧
    (¬late → ¬stopped →
      (inState .opening true ∨ inState .opened true → is .on .off .off) ∧
      (inState .opening false ∨ inState .opened false → is .off .blinkA .off) ∧
      ((∃ v, visit = some v ∧ v.state = .closing) → is .blinkA .off .off) ∧
      ((∃ v, visit = some v ∧ v.state = .passing) → is .off .on .off) ∧
      (visit = none ∨ (∃ v, visit = some v ∧ v.state = .secured) → is .off .off .off))

/-- R13: the next-ENTER distance is the number of forward ticks, 1 to the pitch, before some cabin's phase next reaches
−E, and the next-ENTER cabin is the cabin that reaches it. The figures read E and β as in force: a write of one waits for the
next tick (R15; that these figures wait with the crossings is DEDUCED, log 8). -/
def Obligations.NextEnterFigures : Prop :=
  ∀ (s : State) (pf : Platform), WheelSound s →
    let g := s.geometry
    let x := s.position.points
    let o : Nat := if pf = .a then 0 else x.beta
    let pitch := g.p / g.n
    let reaches (ticks k : Nat) : Prop :=
      ((s.position.theta + ticks : Int) - k * pitch - o + x.enter) % (g.p : Int) = 0
    1 ≤ s.nextEnterDistance pf ∧ s.nextEnterDistance pf ≤ pitch ∧ s.nextEnterCabin pf < g.n ∧
    reaches (s.nextEnterDistance pf) (s.nextEnterCabin pf) ∧
    (∀ ticks k : Nat, 1 ≤ ticks → ticks < s.nextEnterDistance pf → k < g.n → ¬reaches ticks k) ∧
    ((s.nextEnterDistance pf : Int) % pitch = ((o : Int) - x.enter - s.position.theta) % pitch) ∧
    s.nextEnterCabin pf =
      (((s.position.theta : Int) + s.nextEnterDistance pf - o + x.enter) % (g.p : Int)).toNat / pitch

/-! ## Requests that read -/

/-- STATUS QUERY (R178, R133), CABIN READ (R37), BERTH QUERY (R82), QUEUE QUERY (R93), PLAN READ (R116), CONFIG READ
(R182) and HOLD READ (R152) answer from the state as it stands, with the fields of their rules in order, and change
nothing; what none of them can name is answered BAD_FIELD. Where the rules leave a field's form open, the payloads are the
model's (DESIGN CHOICE): which number is a request's field and has its width (log 10), the single byte 0 of a VACANT
platform or an empty last record (log 11), CONFIG READ's lock figures and the grade HOLD READ gives for a source without a
programmed one (log 12), the codes of the gate, a role, a line level, the brake demand and an absent named value (log 26),
a quiet time still to run of 0 where Q was lowered and absent steps (log 27). The roles and the next-ENTER figures are
those in force (R15; DEDUCED, log 8). -/
def Obligations.ReadRequestsChangeNothing : Prop :=
  let flag (x : Bool) : List Byte := bytes1 (if x then 1 else 0)
  let optional (x : Option Nat) : List Byte := bytes4 (x.getD 4294967295)
  (∀ (p : Port) (s : State), Ready s p →
     let sensor (x : Anemometer) : List Byte :=
       flag x.faulted ++ bytes4 x.lastCount ++ bytes4 x.gust ++ bytes4 x.mean ++ bytes4 x.windowRing.length ++
       bytes4 x.secondRing.length ++ bytes4 x.stallTimer ++ bytes4 x.recoveryRun
     let berth (pf : Platform) : List Byte :=
       let q := s.sequencers.get pf
       bytes1 (s.position.points.roles.get pf).code ++ bytes1 ((q.current.map fun v => v.state.code).getD 0) ++
       bytes1 q.visitNumber ++ flag q.doorLate ++ bytes1 (s.output.image.get pf).actuator.code ++
       bytes1 (s.loop.berths.get pf).position.code ++ flag (s.stops.get pf).lineOpen
     let quietLeft : Option Nat := match s.wind.windClass with
       | .pending => none
       | .level 0 => none
       | .level c => some (1000 * (s.settings.classes.get c).q - s.wind.quietTimer)
     let endsLeft : Option Nat := if s.wind.windClass = .pending then some (240 - s.wind.windowEnds) else none
     let drive := s.permit.drive
     let park := s.permit.park
     let remainder : List Byte := match park with
       | some r => if r.state = .parked then signed4 (-2147483648) else signed4 (r.target - s.position.tau).toInt
       | none => signed4 (-2147483648)
     let payload : List Byte :=
       bytes4 s.clock.toNat ++ bytes4 s.position.theta ++ bytes4 s.position.tau.toNat ++ flag s.position.verified ++
       signed4 s.position.v ++ bytes4 s.position.revolutions ++ bytes1 s.holds.held.value ++ flag s.brakeDemand ++
       bytes4 s.unload.occupied ++ berth .a ++ berth .b ++ flag s.loop.loopFault ++ bytes4 s.loop.failedCount ++
       sensor s.wind.sensors.crown ++ sensor s.wind.sensors.deck ++ bytes4 s.wind.gust ++ bytes4 s.wind.mean ++
       flag s.wind.sensorCondition ++ bytes1 s.wind.windClass.code ++ bytes4 s.wind.quietTimer ++ optional quietLeft ++
       optional endsLeft ++ bytes2 drive.speed ++ bytes2 (drive.position.getD 65535) ++
       bytes1 (DriveState.code drive.state) ++ flag drive.brakeReleased ++ bytes4 s.permit.sinceReport ++
       flag s.permit.driveSilent ++ flag s.permit.driveFault ++ bytes4 s.permit.ceiling ++ bytes1 (parkStateCode park) ++
       remainder ++ optional (park.map ParkRecord.steps) ++ bytes1 (if s.plans.oneActive then 1 else 0) ++
       flag s.plans.swapPending ++ flag s.plans.planEnd ++ flag s.store.saving.isSome ++ flag s.store.lock
     ∃ t : State, exec (.statusQuery p) s = .next t ∧
       RepliedOnly s t p 0x01 .accepted payload ∧ payload.length = 156) ∧
  ((∀ (p : Port) (cabin : Nat) (s : State), Ready s p → ∃ t : State, exec (.cabinRead p cabin) s = .next t ∧
     (∀ c, s.cabins[cabin]? = some c → RepliedOnly s t p 0x02 .accepted
       (bytes1 c.kind.code ++ bytes1 c.capacity ++ flag c.autoHold ++ bytes1 c.service.code ++ bytes1 c.gate.code ++
        flag c.openOnce ++ bytes1 ((c.pendingGate.map GateSetting.code).getD 255) ++
        bytes1 ((c.pendingService.map ServiceAction.code).getD 255) ++ bytes1 c.occupancy ++ flag c.occupancyUnknown ++
        optional (c.boardedAt.map fun x => x.toNat) ++ bytes4 c.parties.length ++
        (c.parties.flatMap fun x => bytes2 x.tag ++ bytes1 x.count) ++ bytes1 c.door.code ++
        bytes1 ((c.inVisit.map Platform.code).getD 255) ++
        optional (c.boardedAt.map fun x => (s.position.tau - x).toNat))) ∧
     (s.cabins[cabin]? = none → RepliedOnly s t p 0x02 .badField [])) ∧
   (∀ (p : Port) (platform : Nat) (s : State), Ready s p → p = .platformA ∨ p = .platformB →
     ∃ t u : State, exec (.berthQuery p platform) s = .next t ∧ exec (.queueQuery p platform) s = .next u ∧
       (∀ pf : Platform, Platform.code pf = platform →
         let q := s.sequencers.get pf
         let visit (x : Option Visit) : List Byte := match x with
           | none => bytes1 0
           | some v =>
             bytes1 v.number ++ bytes1 v.cabin ++ bytes1 v.directive.code ++ bytes2 (v.reservedTag.getD 0) ++
             optional v.occupancyAtEnter ++ bytes1 (v.alighted.getD 255) ++ bytes4 v.assigned.length ++
             (v.assigned.flatMap fun e => bytes2 e.party.tag ++ bytes1 e.party.size ++ bytes1 e.boarded) ++
             bytes1 v.state.code ++ bytes4 v.retries ++ flag v.boardingOffered ++ flag v.assignmentAsked ++
             flag v.boardingCounted ++ flag v.openFailed ++ flag v.closeFailed ++ flag v.late ++ flag v.retreated ++
             flag v.positionLost
         let waiting := (s.queues.get pf).entries
         let gone := (s.queues.get pf).outCount
         RepliedOnly s t p 0x20 .accepted
           (bytes1 (s.position.points.roles.get pf).code ++ visit q.current ++ visit q.last ++ flag q.doorLate ++
            bytes1 (s.output.image.get pf).actuator.code ++ bytes1 (s.loop.berths.get pf).position.code ++
            bytes1 (s.nextEnterCabin pf) ++ bytes4 (s.nextEnterDistance pf)) ∧
         RepliedOnly s u p 0x21 .accepted
           (bytes4 waiting.length ++ bytes4 gone ++ bytes4 (16 - (waiting.length + gone)) ++
            bytes4 s.settings.passLimit ++ bytes4 s.settings.partyLimit ++ bytes4 waiting.length ++
            waiting.flatMap fun e =>
              bytes2 e.tag ++ bytes1 e.size ++ flag e.accessible ++ flag e.alone ++ bytes4 e.passCount ++
              bytes4 e.timeTag.toNat)) ∧
       (1 < platform → RepliedOnly s t p 0x20 .badField [] ∧ RepliedOnly s u p 0x21 .badField [])) ∧
   (∀ (bank first : Nat) (s : State), Ready s .controlRoom →
     ∃ t : State, exec (.planRead .controlRoom bank first) s = .next t ∧
       (bank ≤ 1 →
         let x := if bank = 0 then s.plans.bank0 else s.plans.bank1
         let page := (x.entries.drop first).take 8
         RepliedOnly s t .controlRoom 0x3A .accepted
           (flag ((if s.plans.oneActive then 1 else 0 : Nat) = bank) ++ bytes1 x.mode.code ++ bytes1 x.count ++
            bytes2 x.speed ++ flag x.stopOnMiss ++ flag x.ready ++ bytes4 x.run ++ bytes4 x.edits ++
            bytes4 x.entries.length ++ flag s.plans.swapPending ++ flag s.plans.planEnd ++ bytes4 page.length ++
            page.flatMap fun e =>
              bytes1 e.cabin ++ bytes1 (Platform.code e.platform) ++ bytes1 e.directive.code ++
              bytes2 e.directive.tag)) ∧
       (1 < bank → RepliedOnly s t .controlRoom 0x3A .badField [])) ∧
   (∀ (code : Nat) (s : State), Ready s .controlRoom →
     ∃ t : State, exec (.configRead .controlRoom code) s = .next t ∧
       (∀ i, Item.ofCode code = some i → RepliedOnly s t .controlRoom 0x31 .accepted
         (bytes2 code ++ bytes4 (s.settings.read i) ++
          optional (s.store.slots.saved.map fun x => x.2.settings.read i) ++ flag i.lockable ++ flag s.store.lock ++
          flag s.store.saving.isSome)) ∧
       (Item.ofCode code = none → RepliedOnly s t .controlRoom 0x31 .badField [])) ∧
   (∀ (source : Nat) (s : State), Ready s .controlRoom →
     let head : List Byte :=
       bytes1 s.holds.held.value ++ flag s.brakeDemand ++ bytes4 s.unload.occupied ++ flag s.unload.complete ++
       flag s.store.lock
     let grade : Source → Grade := fun src => match src with
       | .powerOn | .restart | .doorLate | .reverse | .driveFault | .parkOvershoot => .stop
       | .doorAway | .driveSilent => .brake
       | .position => .unload
       | .operator | .wind => (s.holds.table.get src).cond
       | _ => s.settings.programmed.get src
     let details : Source → List Byte := fun src => match src with
       | .operator => bytes1 (s.holds.table.get .operator).cond.value
       | .wind => bytes1 s.wind.windClass.code
       | .windSensor => flag s.wind.sensors.crown.faulted ++ flag s.wind.sensors.deck.faulted
       | .platformStopA => flag s.stops.a.lineOpen ++ flag s.stops.a.request
       | .platformStopB => flag s.stops.b.lineOpen ++ flag s.stops.b.request
       | .doorLate => flag s.sequencers.a.doorLate ++ flag s.sequencers.b.doorLate
       | .doorAway => bytes4 s.loop.away.length ++ s.loop.away.flatMap bytes1
       | .loopFault => bytes4 s.loop.failedCount
       | .position => flag s.position.verified
       | .disagree => bytes4 s.position.disagreementRun ++ bytes4 s.position.agreementRun
       | .planEnd => bytes1 (if s.plans.oneActive then 1 else 0) ++ bytes4 s.plans.active.run
       | _ => []
     ∃ t : State, exec (.holdRead .controlRoom source) s = .next t ∧
       (source = 255 → RepliedOnly s t .controlRoom 0x42 .accepted
         (head ++ Source.all.flatMap fun src => bytes1 (s.holds.table.get src).latched.value)) ∧
       (∀ src : Source, src.number = source →
         let r := s.holds.table.get src
         RepliedOnly s t .controlRoom 0x42 .accepted
           (head ++ (bytes1 r.cond.value ++ bytes1 r.peak.value ++ bytes1 r.floor.value ++ bytes1 r.latched.value ++
             bytes1 (grade src).value ++ flag (src ∈ [.wind, .windSensor, .position, .planEnd]) ++
             flag (s.settings.auto.get src) ++ details src))) ∧
       (17 < source → source ≠ 255 → RepliedOnly s t .controlRoom 0x42 .badField [])))

/-! ## Requests to the Cabin Table -/

/-- CABIN HOLD (R25) and CABIN SERVICE (R22): the gate settings HOLD, OPEN and OPEN_ONCE, and the actions WITHDRAW (0) and
RESTORE (1), take effect at once on a cabin that is not in visit and wait as its pending gate or service on one that is
(R28); no other field of the part changes. In the replies the gate's code is that of the setting and an absent pending field
is 255 (DESIGN CHOICE, log 26). -/
def Obligations.GateAndServiceAreSetOrDeferred : Prop :=
  (∀ (p : Port) (cabin setting : Nat) (s : State), Ready s p → p ≠ .drive →
     ∃ t : State, exec (.cabinHold p cabin setting) s = .next t ∧
       (s.cabins[cabin]? = none ∨ 2 < setting → RepliedOnly s t p 0x27 .badField []) ∧
       ∀ c : Cabin, s.cabins[cabin]? = some c → setting ≤ 2 →
         let gate : Gate := if setting = 0 then .hold else if setting = 1 then .opened else c.gate
         let wanted : GateSetting := if setting = 0 then .hold else if setting = 1 then .opened else .openOnce
         let d : Cabin :=
           if c.inVisit = none then { c with gate := gate, openOnce := setting = 2 }
           else { c with pendingGate := some wanted }
         t = { s with cabins := s.cabins.set cabin d, ports := t.ports } ∧
         Replied s t p 0x27 .accepted
           (bytes1 (if c.inVisit = none then 0 else 1) ++ bytes1 d.gate.code ++ yesNo d.openOnce ++
             option1 (d.pendingGate.map GateSetting.code))) ∧
  (∀ (cabin action : Nat) (s : State), Ready s .controlRoom →
     ∃ t : State, exec (.cabinService .controlRoom cabin action) s = .next t ∧
       (s.cabins[cabin]? = none ∨ 1 < action → RepliedOnly s t .controlRoom 0x35 .badField []) ∧
       ∀ c : Cabin, s.cabins[cabin]? = some c → action ≤ 1 →
         let service : Service :=
           if action = 1 then .inService
           else if c.service = .inService then
             if c.occupancy = 0 ∧ c.occupancyUnknown = false then .withdrawn else .withdrawPending
           else c.service
         let d : Cabin :=
           if c.inVisit = none then { c with service := service }
           else { c with pendingService := some (if action = 1 then .restore else .withdraw) }
         t = { s with cabins := s.cabins.set cabin d, ports := t.ports } ∧
         Replied s t .controlRoom 0x35 .accepted
           (bytes1 (if c.inVisit = none then 0 else 1) ++ bytes1 d.service.code ++
             option1 (d.pendingService.map ServiceAction.code)))

/-- CABIN WRITE (R20, R21): its tests in order; accepted, it stores the kind, the capacity clamped into the kind's range
and the auto-hold setting, and touches nothing else. An auto-hold code that is neither 0 nor 1 reads as a free value
(log 4): the statement holds for either reading. -/
def Obligations.CabinWriteStoresThreeFields : Prop :=
  ∀ (cabin kind capacity autoHold : Nat) (s : State), Ready s .controlRoom →
    ∃ (t : State) (hold : Bool), exec (.cabinWrite .controlRoom cabin kind capacity autoHold) s = .next t ∧
      (autoHold = 0 → hold = false) ∧ (autoHold = 1 → hold = true) ∧
      (s.cabins[cabin]? = none ∨ 2 < kind → RepliedOnly s t .controlRoom 0x34 .badField []) ∧
      ∀ (c : Cabin) (k : CabinKind), s.cabins[cabin]? = some c → k.code = kind →
        let most : Nat := if kind = 0 then 28 else if kind = 1 then 10 else 40
        let stored := max 1 (min most capacity)
        if s.store.saving.isSome then RepliedOnly s t .controlRoom 0x34 .busy []
        else if c.inVisit.isSome then RepliedOnly s t .controlRoom 0x34 .wrongState []
        else if c.occupancyUnknown = false ∧ stored < c.occupancy then
          RepliedOnly s t .controlRoom 0x34 .wrongState []
        else
          t = { s with
            cabins := s.cabins.set cabin { c with kind := k, capacity := stored, autoHold := hold }
            ports := t.ports } ∧
          Replied s t .controlRoom 0x34 .accepted (bytes1 kind ++ bytes1 stored ++ yesNo hold)

/-- OCCUPANCY DECLARE (R34, R31, R24): its tests in order; accepted, it writes the occupancy, the parties aboard, the
boarded-at value that makes their ride completed, and the service where the count moves a withdrawal, and the occupied
count and the unload-complete flag follow (R149, R150). -/
def Obligations.OccupancyDeclareWritesTheCabin : Prop :=
  ∀ (cabin count : Nat) (records : List (Nat × Nat)) (s : State), Ready s .controlRoom →
    ∃ t : State, exec (.occupancyDeclare .controlRoom cabin count records) s = .next t ∧
      (s.cabins[cabin]? = none → RepliedOnly s t .controlRoom 0x36 .badField []) ∧
      ∀ c : Cabin, s.cabins[cabin]? = some c →
        let fits : Prop :=
          count ≤ c.capacity ∧ (∀ x ∈ records, x.1 ≠ 0 ∧ x.2 ≠ 0) ∧ (records.map Prod.fst).Nodup ∧
          records.length ≤ 4 ∧ (records.map Prod.snd).sum ≤ count ∧ (count = 0 → records = [])
        let used (tag : Nat) : Prop :=
          (∃ pf, TagQueued s pf tag) ∨ (∃ pf, TagAssigned s pf tag) ∨ (∃ k, k ≠ cabin ∧ TagAboard s k tag)
        let d : Cabin :=
          if count = 0 then
            { c with occupancy := 0, occupancyUnknown := false, boardedAt := none, parties := []
                     service := if c.service = .withdrawPending then .withdrawn else c.service }
          else
            { c with occupancy := count, occupancyUnknown := false
                     boardedAt := some (s.position.tau - BitVec.ofNat 32 s.settings.rideLength)
                     parties := records.map fun x => { tag := x.1, count := x.2 }
                     service := if c.service = .withdrawn then .withdrawPending else c.service }
        (¬fits → RepliedOnly s t .controlRoom 0x36 .badField []) ∧
        (fits → (∃ x ∈ records, used x.1) → RepliedOnly s t .controlRoom 0x36 .duplicate []) ∧
        (fits → (¬∃ x ∈ records, used x.1) → c.inVisit ≠ none →
          RepliedOnly s t .controlRoom 0x36 .wrongState []) ∧
        (fits → (¬∃ x ∈ records, used x.1) → c.inVisit = none →
          t = { s with cabins := s.cabins.set cabin d, unload := t.unload, events := t.events, ports := t.ports } ∧
          Recounted s t ∧ Replied s t .controlRoom 0x36 .accepted [])

/-! ## Requests to a Party Queue -/

/-- PARTY ADD (R88, R87, R89, R90): its tests in order; accepted, it appends the party at the end of the list of the
port's platform and changes nothing else. A flag code that is neither 0 nor 1 reads as a free value (log 4): the statement
holds for either reading. The role tested is the one in force: a role write waits for the next tick (R15; that PARTY ADD
waits with the crossings is DEDUCED, log 8). -/
def Obligations.PartyAddAppendsTheParty : Prop :=
  ∀ (p : Port) (pf : Platform) (tag size accessible priv : Nat) (s : State), Ready s p → portPlatform p = some pf →
    ∃ (t : State) (access alone : Bool), exec (.partyAdd p tag size accessible priv) s = .next t ∧
      (accessible = 0 → access = false) ∧ (accessible = 1 → access = true) ∧
      (priv = 0 → alone = false) ∧ (priv = 1 → alone = true) ∧
      let q := s.queues.get pf
      let used : Prop := (∃ x, TagQueued s x tag) ∨ (∃ x, TagAssigned s x tag) ∨ (∃ k, TagAboard s k tag)
      let malformed : Prop := tag = 0 ∨ size = 0 ∨ 40 < size
      let role := s.position.points.roles.get pf
      let closed : Prop := role = .off ∨ role = .alightOnly
      let full : Prop := 16 ≤ q.entries.length + q.outCount
      let carried : Prop :=
        ∃ c ∈ s.cabins, c.service = .inService ∧ (access = true → c.kind = .accessible) ∧ size ≤ c.capacity
      let party : Party :=
        { tag := tag, size := size, accessible := access, alone := alone, passCount := 0, timeTag := s.clock }
      (malformed → RepliedOnly s t p 0x22 .badField []) ∧
      (¬malformed → used → RepliedOnly s t p 0x22 .duplicate []) ∧
      (¬malformed → ¬used → closed → RepliedOnly s t p 0x22 .wrongState []) ∧
      (¬malformed → ¬used → ¬closed → full → RepliedOnly s t p 0x22 .full []) ∧
      (¬malformed → ¬used → ¬closed → ¬full → ¬carried → RepliedOnly s t p 0x22 .badField []) ∧
      (¬malformed → ¬used → ¬closed → ¬full → carried →
        t = { s with queues := s.queues.set pf { q with entries := q.entries ++ [party] }, ports := t.ports } ∧
        Replied s t p 0x22 .accepted
          (bytes4 (q.entries.length + 1) ++ bytes4 (16 - (q.entries.length + q.outCount) - 1)))

/-- PARTY CANCEL (R91, Table 5-3): a tag of 0 is BAD_FIELD; a queued party leaves its list; an assigned party with
nothing aboard leaves its visit and lowers the out-on-assignment count; a party with riders aboard is WRONG_STATE; a
platform port reaches its own platform's parties alone; an unknown tag is NOT_FOUND. -/
def Obligations.PartyCancelRemovesTheParty : Prop :=
  ∀ (p : Port) (tag : Nat) (s : State), Ready s p → p ≠ .drive →
    ∃ t : State, exec (.partyCancel p tag) s = .next t ∧
      let may (pf : Platform) : Prop := p = .controlRoom ∨ portPlatform p = some pf
      let queuedAt (pf : Platform) : Prop := TagQueued s pf tag ∧ (pf = .b → ¬TagQueued s .a tag)
      let unqueued : Prop := ∀ pf, ¬TagQueued s pf tag
      let assignedAt (pf : Platform) (v : Visit) (e : Assigned) : Prop :=
        (s.sequencers.get pf).current = some v ∧ v.assigned.find? (fun x => x.party.tag = tag) = some e ∧
        (pf = .b → ¬TagAssigned s .a tag)
      (tag = 0 → RepliedOnly s t p 0x23 .badField []) ∧
      (∀ pf, tag ≠ 0 → queuedAt pf → may pf →
        t = { s with
          queues := s.queues.set pf
            { s.queues.get pf with entries := (s.queues.get pf).entries.eraseP fun x => x.tag = tag }
          ports := t.ports } ∧
        Replied s t p 0x23 .accepted (bytes1 (Platform.code pf) ++ bytes1 0)) ∧
      (∀ pf, tag ≠ 0 → queuedAt pf → ¬may pf → RepliedOnly s t p 0x23 .notFound []) ∧
      (∀ pf v e, tag ≠ 0 → unqueued → assignedAt pf v e → 0 < e.boarded →
        RepliedOnly s t p 0x23 .wrongState []) ∧
      (∀ pf v e, tag ≠ 0 → unqueued → assignedAt pf v e → e.boarded = 0 → ¬may pf →
        RepliedOnly s t p 0x23 .notFound []) ∧
      (∀ pf v e, tag ≠ 0 → unqueued → assignedAt pf v e → e.boarded = 0 → may pf →
        let w : Visit := { v with assigned := v.assigned.eraseP fun x => x.party.tag = tag }
        t = { s with
          sequencers := s.sequencers.set pf { s.sequencers.get pf with current := some w }
          queues := s.queues.set pf { s.queues.get pf with outCount := (s.queues.get pf).outCount - 1 }
          ports := t.ports } ∧
        Replied s t p 0x23 .accepted (bytes1 (Platform.code pf) ++ bytes1 1)) ∧
      (tag ≠ 0 → unqueued → (∀ pf, ¬TagAssigned s pf tag) →
        ((∃ k, TagAboard s k tag) → RepliedOnly s t p 0x23 .wrongState []) ∧
        ((¬∃ k, TagAboard s k tag) → RepliedOnly s t p 0x23 .notFound []))

/-- R95 to R98: what an assignment chooses. The parties chosen and those that stay are the entries of the list, the
latter in their order with no field but the pass count changed; the sizes chosen fit the capacity; the limit on parties
per visit is kept; an accessible party goes to an ACCESSIBLE cabin alone; a PRIVATE cabin and a private party go alone;
a reserved tag lets no other party in. The scan goes entry by entry, with the room left, the parties chosen and those passed
so far: one that fits is chosen and raises by 1, to at most 7, the pass count of each passed before it, and the scan stops
after it where the room is 0, the limit is reached, or the party or the cabin is private; one that does not fit stops the
scan where its pass count has reached the pass limit, and is passed otherwise. -/
def Obligations.AssignmentKeepsToTheCabin : Prop :=
  (∀ (o : Offer) (capacity : Nat) (entries : List Party), 1 ≤ o.partyLimit →
    let r := o.scan capacity [] [] entries
    let same (e d : Party) : Prop := d = { e with passCount := d.passCount } ∧ e.passCount ≤ d.passCount
    (r.chosen.map Party.size).sum ≤ capacity ∧ r.chosen.length ≤ o.partyLimit ∧
    r.chosen.length + r.stay.length = entries.length ∧ r.chosen.Sublist entries ∧
    (∃ kept : List Party, kept.Sublist entries ∧ (r.chosen ++ kept).Perm entries ∧
      ((∀ e ∈ entries, e.passCount ≤ 7) → List.Forall₂ same kept r.stay)) ∧
    (∀ e ∈ r.chosen, e.accessible = true → o.kind = .accessible) ∧
    (o.kind = .letOut → r.chosen.length ≤ 1) ∧
    ((∃ e ∈ r.chosen, e.alone = true) → r.chosen.length = 1) ∧
    (∀ tag, o.reserved = some tag → ∀ e ∈ r.chosen, e.tag = tag) ∧
    (∀ e rest, entries = e :: rest → o.fits capacity [] e = true → r.chosen.head? = some e) ∧
    (∀ e rest, entries = e :: rest → o.fits capacity [] e = false → o.passLimit ≤ e.passCount →
      r = { chosen := [], stay := entries })) ∧
  (∀ (o : Offer) (room : Nat) (chosen passed : List Party) (e : Party) (rest : List Party),
    let fits : Prop :=
      e.size ≤ room ∧ (e.accessible = true → o.kind = .accessible) ∧
      (o.kind = .letOut ∨ e.alone = true → chosen = []) ∧ (∀ tag, o.reserved = some tag → e.tag = tag)
    let next := chosen ++ [e]
    let raised := passed.map fun d => { d with passCount := min 7 (d.passCount + 1) }
    let stops : Prop := room - e.size = 0 ∨ o.partyLimit ≤ next.length ∨ e.alone = true ∨ o.kind = .letOut
    o.scan room chosen passed [] = { chosen := chosen, stay := passed } ∧
    (fits → stops → o.scan room chosen passed (e :: rest) = { chosen := next, stay := raised ++ rest }) ∧
    (fits → ¬stops → o.scan room chosen passed (e :: rest) = o.scan (room - e.size) next raised rest) ∧
    (¬fits → o.passLimit ≤ e.passCount →
      o.scan room chosen passed (e :: rest) = { chosen := chosen, stay := passed ++ e :: rest }) ∧
    (¬fits → e.passCount < o.passLimit →
      o.scan room chosen passed (e :: rest) = o.scan room chosen (passed ++ [e]) rest))

/-! ## Requests to a Berth Sequencer -/

/-- ALIGHT COUNT (R67, R31): its tests in order; accepted, it replaces the visit's alighted count, writes the cabin's
occupancy from the occupancy at ENTER, and asks for the assignment that R66 then allows; the occupied count and the
unload-complete flag follow. -/
def Obligations.AlightCountWritesTheOccupancy : Prop :=
  ∀ (p : Port) (pf : Platform) (number count : Nat) (s : State), Ready s p → portPlatform p = some pf → Formed s →
    WheelSound s →
    ∃ t : State, exec (.alightCount p number count) s = .next t ∧
      ((s.sequencers.get pf).current = none → RepliedOnly s t p 0x24 .stale []) ∧
      ∀ (v : Visit) (c : Cabin), (s.sequencers.get pf).current = some v → s.cabins[v.cabin]? = some c →
        let stale : Prop := v.number ≠ number ∨ v.state ∈ [.closing, .secured]
        let early : Prop := v.state ∈ [.passing, .opening] ∨ v.directive = .board ∨ v.boardingCounted = true
        let tooMany : Prop := v.occupancyAtEnter.getD c.capacity < count
        let left : Nat := v.occupancyAtEnter.getD 0 - count
        let d : Cabin :=
          if left = 0 then { c with occupancy := 0, occupancyUnknown := false, boardedAt := none, parties := [] }
          else
            { c with occupancy := left, occupancyUnknown := false
                     boardedAt := if c.occupancy = 0 then
                         some (s.position.tau - BitVec.ofNat 32 s.settings.rideLength) else c.boardedAt }
        let asks : Prop :=
          v.boardingOffered = true ∧ left = 0 ∧ s.holds.held.atLeast .unload = false ∧ v.assignmentAsked = false
        (stale → RepliedOnly s t p 0x24 .stale []) ∧
        (¬stale → early → RepliedOnly s t p 0x24 .wrongState []) ∧
        (¬stale → ¬early → tooMany → RepliedOnly s t p 0x24 .badField []) ∧
        (¬stale → ¬early → ¬tooMany →
          ∃ (taken : List Assigned) (asked : Bool),
          let w : Visit :=
            { v with alighted := some count, assigned := v.assigned ++ taken, assignmentAsked := asked }
          t = { s with
            cabins := s.cabins.set v.cabin d, unload := t.unload, events := t.events
            sequencers := s.sequencers.set pf { s.sequencers.get pf with current := some w }
            queues := s.queues.set pf (t.queues.get pf), ports := t.ports } ∧
          t.unload.occupied = (t.cabins.filter fun c => 0 < c.occupancy || c.occupancyUnknown).length ∧
          t.unload.complete = (s.holds.held.atLeast .unload && t.unload.occupied = 0) ∧
          (¬asks → taken = [] ∧ asked = v.assignmentAsked ∧ t.queues = s.queues ∧ Recounted s t) ∧
          (asks → asked = true ∧
            let offer : Offer := { kind := c.kind, reserved := v.reservedTag, passLimit := s.settings.passLimit
                                   partyLimit := s.settings.partyLimit }
            let r := offer.scan c.capacity [] [] (s.queues.get pf).entries
            taken = r.chosen.map (fun e => { party := e, boarded := 0 }) ∧
            t.queues.get pf = { entries := r.stay, outCount := (s.queues.get pf).outCount + r.chosen.length } ∧
            Recorded s t (r.chosen.map fun e =>
              { time := s.clock, kind := .partyAssigned, cabin := some v.cabin, platform := some pf, source := none
                grade := none, value := signed16 e.tag })) ∧
          Replied s t p 0x24 .accepted [])

/-- BOARD COUNT (R68, R31, R32): its tests in order; accepted, it replaces the party's boarded count, writes the cabin's
occupancy, boarded-at and parties aboard, and the occupied count and the unload-complete flag follow. -/
def Obligations.BoardCountWritesTheOccupancy : Prop :=
  ∀ (p : Port) (pf : Platform) (number tag count : Nat) (s : State), Ready s p → portPlatform p = some pf → Formed s →
    WheelSound s →
    ∃ t : State, exec (.boardCount p number tag count) s = .next t ∧
      ((s.sequencers.get pf).current = none → RepliedOnly s t p 0x25 .stale []) ∧
      ∀ (v : Visit) (c : Cabin), (s.sequencers.get pf).current = some v → s.cabins[v.cabin]? = some c →
        let stale : Prop := v.number ≠ number ∨ v.state ∈ [.closing, .secured]
        let early : Prop := v.state ∈ [.passing, .opening]
        (stale → RepliedOnly s t p 0x25 .stale []) ∧
        (¬stale → early → RepliedOnly s t p 0x25 .wrongState []) ∧
        (¬stale → ¬early → (∀ e ∈ v.assigned, e.party.tag ≠ tag) → RepliedOnly s t p 0x25 .notFound []) ∧
        ∀ e : Assigned, v.assigned.find? (fun x => x.party.tag = tag) = some e →
          let occupancy := c.occupancy - e.boarded + count
          let parties : List Aboard :=
            if count = 0 then c.parties.filter fun x => x.tag ≠ tag
            else if c.parties.any fun x => x.tag = tag then
              c.parties.map fun x => if x.tag = tag then { x with count := count } else x
            else c.parties ++ [{ tag := tag, count := count }]
          let d : Cabin :=
            if occupancy = 0 then
              { c with occupancy := 0, occupancyUnknown := false, boardedAt := none, parties := [] }
            else
              { c with occupancy := occupancy, occupancyUnknown := false
                       boardedAt := if c.occupancy = 0 then some s.position.tau else c.boardedAt
                       parties := parties }
          let w : Visit :=
            { v with boardingCounted := true
                     assigned := v.assigned.map fun x => if x.party.tag = tag then { x with boarded := count } else x }
          (¬stale → ¬early → e.party.size < count → RepliedOnly s t p 0x25 .badField []) ∧
          (¬stale → ¬early → count ≤ e.party.size → c.capacity < occupancy →
            RepliedOnly s t p 0x25 .overCapacity []) ∧
          (¬stale → ¬early → count ≤ e.party.size → occupancy ≤ c.capacity →
            t = { s with
              cabins := s.cabins.set v.cabin d, unload := t.unload, events := t.events
              sequencers := s.sequencers.set pf { s.sequencers.get pf with current := some w }
              ports := t.ports } ∧
            Recounted s t ∧ Replied s t p 0x25 .accepted [])

/-- DISPATCH (R69, R70): its tests in order; accepted, the door is commanded to CLOSE with the timer started and the
visit is in CLOSING, or, its door being LATCHED already, in SECURED or at its end. -/
def Obligations.DispatchClosesTheVisit : Prop :=
  ∀ (p : Port) (pf : Platform) (number : Nat) (s : State), Ready s p → portPlatform p = some pf →
    ∃ t : State, exec (.dispatch p number) s = .next t ∧
      ((s.sequencers.get pf).current = none → RepliedOnly s t p 0x26 .wrongState []) ∧
      ∀ v : Visit, (s.sequencers.get pf).current = some v →
        let q := s.sequencers.get pf
        let w : Visit := { v with state := .closing, retries := 0 }
        let after (w : Visit) (timer : Option Nat) : State :=
          actuated s pf .close { q with current := some w, actuatorTimer := timer }
        let restarted := some s.settings.actuatorTime
        (v.number ≠ number → RepliedOnly s t p 0x26 .stale []) ∧
        (v.number = number → v.state ≠ .opened → RepliedOnly s t p 0x26 .wrongState []) ∧
        (v.number = number → v.state = .opened → Replied s t p 0x26 .accepted [] ∧
          (s.doorOf v.cabin ≠ .latched → t = { (after w restarted).refresh with ports := t.ports }) ∧
          (s.doorOf v.cabin = .latched → v.late = false → v.positionLost = false →
            t = { (after { w with state := .secured } none).refresh with ports := t.ports }) ∧
          (s.doorOf v.cabin = .latched → v.late = true ∨ v.positionLost = true →
            t = { ((after w restarted).endVisit pf w).refresh with ports := t.ports }))

/-! ## Requests to the Hold Table -/

/-- PLATFORM STOP (R147) and a stop line taken (R146): the request, or the line, of the platform is as told; the
condition of the platform's source stands at its programmed grade while either holds and is NONE otherwise; the source
keeps its latch. In the reply an open line is sent as 1 (DESIGN CHOICE, log 26). -/
def Obligations.StopsFormTheirCondition : Prop :=
  ∀ (pf : Platform) (s : State), HoldsDerived s →
    let src : Source := if pf = .a then .platformStopA else .platformStopB
    let old := s.stops.get pf
    let formed (t : State) (x : StopLine) : Prop :=
      HoldFrame { s with stops := s.stops.set pf x, ports := t.ports } t [src] ∧ Formed t ∧
      t.holds.table.get src =
        latchedAt (s.holds.table.get src) (if x.lineOpen || x.request then s.settings.programmed.get src else .none) ∧
      t.holds.held = t.holds.table.heldGrade
    (s.phase = .running → ∀ lineOpen : Bool, ∃ t : State, exec (.stopLineTaken pf lineOpen) s = .next t ∧
      formed t { old with lineOpen := lineOpen } ∧ t.ports = s.ports) ∧
    (∀ (p : Port) (action : Nat), Ready s p → portPlatform p = some pf →
      ∃ t : State, exec (.platformStop p action) s = .next t ∧
        (1 < action → RepliedOnly s t p 0x28 .badField []) ∧
        (action ≤ 1 → formed t { old with request := action = 1 } ∧
          Replied s t p 0x28 .accepted
            (yesNo old.lineOpen ++ yesNo (action = 1) ++ bytes1 (t.holds.table.get src).cond.value ++
              bytes1 (t.holds.table.get src).latched.value ++ bytes1 t.holds.held.value)))

/-- OPERATOR HOLD (R145): the condition of OPERATOR becomes the grade carried, a raise latches and a lower grade leaves
the latch; a latch that rises is recorded first (R138); no other source changes. -/
def Obligations.OperatorHoldSetsTheCondition : Prop :=
  ∀ (grade : Nat) (s : State), Ready s .controlRoom → HoldsDerived s →
    ∃ t : State, exec (.operatorHold .controlRoom grade) s = .next t ∧
      (5 < grade → RepliedOnly s t .controlRoom 0x40 .badField []) ∧
      ∀ g : Grade, g.value = grade →
        let old := s.holds.table.get .operator
        let new := latchedAt old g
        HoldFrame { s with ports := t.ports } t [.operator] ∧ Formed t ∧ t.holds.table.get .operator = new ∧
        t.holds.held = t.holds.table.heldGrade ∧
        (old.latched.value < new.latched.value → ∃ more : List EventRecord, Recorded s t
          ({ time := s.clock, kind := .holdRaised, cabin := none, platform := none, source := some .operator
             grade := some new.latched, value := old.latched.value } :: more)) ∧
        Replied s t .controlRoom 0x40 .accepted
          (bytes1 grade ++ bytes1 new.latched.value ++ bytes1 t.holds.held.value)

/-- HOLD RELEASE (R141, R142): STILL_ACTIVE while the latch is the condition; WRONG_STATE for a latch of BRAKE while the
wheel turns; otherwise the source comes down to its condition, which is recorded first (R138), and no other source
changes. Every reply for one of the eighteen sources carries its record after the request; the BAD_FIELD reply for a
number above 17, which has no record, is empty (DEDUCED, log 19). Where the release takes the held grade below UNLOAD, the
assignments withheld are made (R66); that A's is made and recorded ahead of B's is the model's order (DESIGN CHOICE, log
7). -/
def Obligations.HoldReleaseLowersToTheCondition : Prop :=
  ∀ (source : Nat) (s : State), Ready s .controlRoom → HoldsDerived s →
    ∃ t : State, exec (.holdRelease .controlRoom source) s = .next t ∧
      (17 < source → RepliedOnly s t .controlRoom 0x41 .badField []) ∧
      ∀ src : Source, src.number = source →
        let old := s.holds.table.get src
        let bytes (r : HoldRecord) (held : Grade) : List Byte :=
          bytes1 r.cond.value ++ bytes1 r.floor.value ++ bytes1 r.latched.value ++ bytes1 held.value
        let moving : Prop := old.latched = .brake ∧ old.cond ≠ .brake ∧ s.position.v ≠ 0
        let new : HoldRecord := { cond := old.cond, peak := old.cond, floor := .none, latched := old.cond }
        (old.latched = old.cond → RepliedOnly s t .controlRoom 0x41 .stillActive (bytes old s.holds.held)) ∧
        (old.latched ≠ old.cond → moving →
          RepliedOnly s t .controlRoom 0x41 .wrongState (bytes old s.holds.held)) ∧
        (old.latched ≠ old.cond → ¬moving →
          HoldFrame { s with ports := t.ports } t [src] ∧ Formed t ∧ t.holds.table.get src = new ∧
          t.holds.held = t.holds.table.heldGrade ∧
          (∃ more : List EventRecord, Recorded s t
            ({ time := s.clock, kind := .holdReleased, cabin := none, platform := none, source := some src
               grade := some old.cond, value := old.latched.value } :: more)) ∧
          Replied s t .controlRoom 0x41 .accepted (bytes new t.holds.held))

/-! ## Requests to the Configuration Store and the Event Stack -/

/-- CONFIG WRITE (R181): its tests in order; accepted, the item reads as stored, every other item reads as before (a
write of the absolute maximum brings each of the other five speeds to the smaller of itself and the new maximum where it
lowers that, R158), and the reply carries the value. An item whose owning rule names no further effect changes nothing else
but the figures formed from it. -/
def Obligations.ConfigWriteStoresTheItem : Prop :=
  ∀ (code value : Nat) (s : State), Ready s .controlRoom → Formed s →
    ∃ t : State, exec (.configWrite .controlRoom code value) s = .next t ∧
      (Item.ofCode code = none → RepliedOnly s t .controlRoom 0x30 .badField []) ∧
      ∀ i : Item, Item.ofCode code = some i →
        let writable : Prop :=
          s.position.v = 0 ∧ s.holds.held ∈ [.stop, .brake] ∧ s.sequencers.a.current = none ∧
          s.sequencers.b.current = none
        if s.store.saving.isSome then RepliedOnly s t .controlRoom 0x30 .busy []
        else if s.store.lock ∧ i.lockable then RepliedOnly s t .controlRoom 0x30 .locked []
        else
          (i.isGeometry = true → ¬writable → RepliedOnly s t .controlRoom 0x30 .wrongState []) ∧
          ((i.isGeometry = true → writable) →
            (s.settings.judge i value = none → RepliedOnly s t .controlRoom 0x30 .badField []) ∧
            ∀ x : Nat, s.settings.judge i value = some x →
              t.settings.read i = x ∧
              (∀ (k : Nat) (j : Item), Item.ofCode k = some j → j ≠ i →
                (i = .permit .absolute → ∀ y, j ≠ .permit y) → t.settings.read j = s.settings.read j) ∧
              (let y := t.settings.speeds
               Replied s t .controlRoom 0x30 .accepted (bytes2 code ++ bytes4 x ++
                 if i = .permit .absolute then
                   bytes4 y.limit ++ bytes4 y.unload ++ bytes4 y.boarding ++ bytes4 y.step ++ bytes4 y.homing
                 else [])) ∧
              (i = .permit .absolute →
                let old := s.settings.speeds
                let clip (y : Nat) : Nat := if x < old.absolute then min x y else y
                t.settings.speeds =
                  { absolute := x, limit := clip old.limit, unload := clip old.unload, boarding := clip old.boarding
                    step := clip old.step, homing := clip old.homing } ∧
                t.settings.silenceTime = s.settings.silenceTime ∧
                t.settings.deceleration = s.settings.deceleration) ∧
              (s.settings.read i = x → t = { s with ports := t.ports }) ∧
              (i ≠ .n → i ≠ .p → (∀ src, i ≠ .programmed src) → (∀ src, i ≠ .auto src) →
                t = { (s.setSettings (s.settings.write i x)).refresh with ports := t.ports }))

/-- What the owning rules add to an accepted CONFIG WRITE that changes its item: a programmed grade is taken by a
condition that holds (R139); a change of auto-release leaves every latch where it was, its floor and peak as R140 says; N
and P set θ to 0, leave the position unverified and clear the cross-check (R15), and N makes one record for each cabin
(R19), discards both good scans, leaves the readings of a scan in progress to be discarded, keeps the accepted contacts of
the cabins that stay and of the berths and makes those of new cabins unknown (R49). Beside these a write of N or P changes
nothing but the away set, the records of the sources POSITION, DISAGREE and DOOR_AWAY, with the Event Stack and the
figures that follow, and at N the occupied count with the unload-complete flag and its record; the held grade stays. That
no point stays crossed after it is log 23's (DESIGN CHOICE). Where a programmed grade lowered at an auto-release source takes
the held grade below UNLOAD, the assignments withheld are made (R66); that A's is made and recorded ahead of B's is the
model's order (DESIGN CHOICE, log 7). -/
def Obligations.ConfigWriteHasItsEffects : Prop :=
  ∀ (code value : Nat) (i : Item) (x : Nat) (s : State), Ready s .controlRoom → HoldsDerived s → ConditionsOwned s →
    Item.ofCode code = some i → s.judgeWrite i value = .ok x → s.settings.read i ≠ x →
    ∃ t : State, exec (.configWrite .controlRoom code value) s = .next t ∧
      let stored : State := s.setSettings (s.settings.write i x)
      (∀ src, i = .programmed src →
        HoldFrame { stored with ports := t.ports } t [src] ∧
        (s.holding src = true → (t.holds.table.get src).cond.value = x) ∧
        (s.holding src = false → t.holds = s.holds)) ∧
      (∀ src, i = .auto src →
        let old := s.holds.table.get src
        HoldFrame { stored with ports := t.ports } t [src] ∧ t.holds.held = s.holds.held ∧
        t.holds.table.get src = { old with
          peak := old.cond
          floor := if x = 1 then old.floor.max old.latched else old.floor }) ∧
      (i = .n ∨ i = .p →
        t.position = { s.position with theta := 0, verified := false, disagreementRun := 0, agreementRun := 0
                                       disagree := false, stillCrossed := [] } ∧
        (t.holds.table.get .position).cond = .unload ∧ (t.holds.table.get .disagree).cond = .none ∧
        t.holds.held = s.holds.held ∧
        HoldFrame
          { stored with position := t.position, loop := t.loop, cabins := t.cabins, unload := t.unload
                        ports := t.ports } t [.position, .disagree, .doorAway]) ∧
      (i = .p →
        t.loop = { s.loop with away := [] } ∧ t.cabins = s.cabins ∧ t.unload = s.unload ∧
        RecordedOf s t [.unloadComplete] []) ∧
      (i = .n →
        t.loop = { s.loop with
          newest := none, previous := none, scan := s.loop.scan.map fun y => { y with stale := true }
          cabins := t.loop.cabins, away := [] } ∧
        t.loop.cabins.length = x ∧
        (∀ k, k < x → k < s.loop.cabins.length → t.loop.cabins[k]? = s.loop.cabins[k]?) ∧
        (∀ k, k < x → s.loop.cabins.length ≤ k →
          t.loop.cabins[k]? = some { doorClosed := .unknown, latch := .unknown, conflict := false }) ∧
        t.unload.occupied = (t.cabins.filter fun c => 0 < c.occupancy || c.occupancyUnknown).length ∧
        t.unload.complete = (s.holds.held.atLeast .unload && t.unload.occupied = 0) ∧
        RecordedOf s t [.unloadComplete]
          (if t.unload.complete && !s.unload.complete then
            [{ time := s.clock, kind := .unloadComplete, cabin := none, platform := none, source := none
               grade := some s.holds.held, value := 0 }] else []) ∧
        t.cabins.length = x ∧
        (∀ k, k < x → k < s.cabins.length → t.cabins[k]? = s.cabins[k]?) ∧
        (∀ k, k < x → s.cabins.length ≤ k → ∃ c, t.cabins[k]? = some c ∧
          c = { kind := .standard, capacity := 25, autoHold := false, service := .inService, gate := .opened
                openOnce := false, pendingGate := none, pendingService := none, occupancy := 0
                occupancyUnknown := true, boardedAt := none, parties := [], door := .unknown, inVisit := none }))

/-- Table 11-1: the items that are clamped, and the ranges they are clamped into; the speeds other than the absolute
maximum are clamped to it (R158), a programmed grade into its source's range of Table 8-2, above 5 BAD_FIELD (R139). A
threshold is stored as written exactly when it is 1 to 600 and the table with it keeps both rules of R131; an auto-release
setting when it is 0 or 1 (R140); a geometry item exactly when the geometry that the write would leave keeps the seven
constraints of R14. Any other value of these is refused. The codes of those three groups that name a source or a class
outside the table's rows are no items, and no more is any other code outside the table. The geometry items are 0x0001 to
0x0009; the items that CONFIG LOCK does not lock (R151) are the scan period, the Sequencer and queue settings, the silence
time and the park deceleration. Each code of the table reads the setting of its row; the code 0x0100 + 16j + c that of the
column Ug, Um, Dg or Dm, j from 0, of class c, and its write replaces that one threshold. -/
def Obligations.ConfigItemsKeepTheirRanges : Prop :=
  (∀ x : Settings,
     let reads (code value : Nat) : Prop := ∃ i, Item.ofCode code = some i ∧ x.read i = value
     let g := x.geometry
     let role (y : Role) : Nat := match y with
       | .boardAlight => 0
       | .boardOnly => 1
       | .alightOnly => 2
       | .off => 3
     let yes (y : Bool) : Nat := if y then 1 else 0
     let of (c : Nat) (y : ClassRow) : Prop :=
       reads (0x100 + c) y.ug ∧ reads (0x110 + c) y.um ∧ reads (0x120 + c) y.dg ∧ reads (0x130 + c) y.dm ∧
       reads (0x140 + c) y.q
     (reads 1 g.n ∧ reads 2 g.p ∧ reads 3 g.enter ∧ reads 4 g.close ∧ reads 5 g.exit ∧ reads 6 g.beta ∧
       reads 7 (if g.park = .a then 0 else 1) ∧ reads 8 (role g.roles.a) ∧ reads 9 (role g.roles.b)) ∧
     (reads 0x10 x.indexTolerance ∧ reads 0x11 x.reverseAllowance ∧ reads 0x12 x.disagreementTolerance ∧
       reads 0x13 x.alignTolerance ∧ reads 0x14 x.rideLength ∧ reads 0x20 x.scanPeriod ∧ reads 0x21 x.actuatorTime ∧
       reads 0x22 x.closeRetries ∧ reads 0x23 x.passLimit ∧ reads 0x24 x.partyLimit ∧ reads 0x30 x.factors.crown ∧
       reads 0x31 x.factors.deck ∧ reads 0x32 x.stallTime ∧ reads 0x33 x.stallReference) ∧
     (of 1 x.classes.c1 ∧ of 2 x.classes.c2 ∧ of 3 x.classes.c3 ∧ of 4 x.classes.c4) ∧
     (reads 0x204 x.programmed.windSensor.value ∧ reads 0x205 x.programmed.platformStopA.value ∧
       reads 0x206 x.programmed.platformStopB.value ∧ reads 0x209 x.programmed.loopFault.value ∧
       reads 0x20C x.programmed.disagree.value ∧ reads 0x20F x.programmed.planEnd.value ∧
       reads 0x210 x.programmed.berthMiss.value) ∧
     (reads 0x303 (yes x.auto.wind) ∧ reads 0x304 (yes x.auto.windSensor) ∧ reads 0x30A (yes x.auto.position) ∧
       reads 0x30F (yes x.auto.planEnd)) ∧
     (reads 0x400 x.speeds.absolute ∧ reads 0x401 x.speeds.limit ∧ reads 0x402 x.speeds.unload ∧
       reads 0x403 x.speeds.boarding ∧ reads 0x404 x.speeds.step ∧ reads 0x405 x.speeds.homing ∧
       reads 0x406 x.silenceTime ∧ reads 0x407 x.deceleration)) ∧
  (∀ (x : Settings) (value : Nat),
     let clamps (code lo hi : Nat) : Prop :=
       ∃ i, Item.ofCode code = some i ∧ x.judge i value = some (max lo (min hi value))
     clamps 0x10 1 1000 ∧ clamps 0x11 1 5000 ∧ clamps 0x12 1 5000 ∧ clamps 0x13 1 200 ∧
     clamps 0x14 1000 4000000 ∧ clamps 0x20 20 200 ∧ clamps 0x21 500 30000 ∧ clamps 0x22 0 2 ∧ clamps 0x23 0 7 ∧
     clamps 0x24 1 4 ∧ clamps 0x30 1 4095 ∧ clamps 0x31 1 4095 ∧ clamps 0x32 10 600 ∧ clamps 0x33 1 600 ∧
     (∀ c, 1 ≤ c → c ≤ 4 → clamps (0x140 + c) 60 3600) ∧
     clamps 0x400 1 2000 ∧ clamps 0x406 100 2000 ∧ clamps 0x407 1 50 ∧
     (1 ≤ x.speeds.absolute → ∀ k, 1 ≤ k → k ≤ 5 → clamps (0x400 + k) 1 x.speeds.absolute)) ∧
  (∀ (x : Settings) (code value : Nat) (i : Item), Item.ofCode code = some i → i.isGeometry = true →
     let lawful (g : Geometry) : Prop :=
       (8 ≤ g.n ∧ g.n ≤ 64) ∧ (7200 ≤ g.p ∧ g.p ≤ 64800 ∧ g.n ∣ g.p) ∧ (1 ≤ g.enter ∧ g.close < g.exit) ∧
       g.enter + g.exit < g.p / g.n ∧ g.beta < g.p ∧
       (g.roles.a ≠ .off → g.roles.b ≠ .off →
         g.enter + g.exit ≤ g.beta % (g.p / g.n) ∧ g.enter + g.exit ≤ g.p / g.n - g.beta % (g.p / g.n)) ∧
       g.roles.get g.park ≠ .off
     (∀ y, x.judge i value = some y →
       y = value ∧ lawful (x.write i value).geometry ∧ (x.write i value).read i = value) ∧
     (x.judge i value = none →
       ¬lawful (x.write i value).geometry ∨ (x.write i value).read i ≠ value)) ∧
  (∀ (x : Settings) (value : Nat),
     let grades (source lo hi : Nat) : Prop :=
       ∃ i, Item.ofCode (0x200 + source) = some i ∧
         x.judge i value = if value ≤ 5 then some (max lo (min hi value)) else none
     grades 4 2 4 ∧ grades 5 4 5 ∧ grades 6 4 5 ∧ grades 9 4 5 ∧ grades 12 3 4 ∧ grades 15 0 3 ∧ grades 16 0 3 ∧
     (∀ source ∈ [3, 4, 10, 15], ∃ i, Item.ofCode (0x300 + source) = some i ∧
       x.judge i value = if value ≤ 1 then some value else none) ∧
     (∀ j c : Nat, j ≤ 3 → 1 ≤ c → c ≤ 4 → ∃ i, Item.ofCode (0x100 + 16 * j + c) = some i ∧
       let table := (x.write i value).classes
       let lawful : Prop :=
         (1 ≤ value ∧ value ≤ 600) ∧
         (∀ d, 1 ≤ d → d ≤ 4 → (table.get d).dg < (table.get d).ug ∧ (table.get d).dm < (table.get d).um) ∧
         (∀ d, 1 ≤ d → d ≤ 3 →
           (table.get d).ug ≤ (table.get (d + 1)).ug ∧ (table.get d).um ≤ (table.get (d + 1)).um ∧
           (table.get d).dg ≤ (table.get (d + 1)).dg ∧ (table.get d).dm ≤ (table.get (d + 1)).dm)
       let row := x.classes.get c
       (x.write i value).read i = value ∧
       table.get c = (if j = 0 then { row with ug := value } else if j = 1 then { row with um := value }
         else if j = 2 then { row with dg := value } else { row with dm := value }) ∧
       (∀ d, 1 ≤ d → d ≤ 4 → d ≠ c → table.get d = x.classes.get d) ∧ (lawful → x.judge i value = some value) ∧
       (¬lawful → x.judge i value = none))) ∧
  (∀ (code : Nat) (i : Item), Item.ofCode code = some i →
     (i.isGeometry = true ↔ 1 ≤ code ∧ code ≤ 9) ∧
     (i.lockable = true ↔ ¬(0x20 ≤ code ∧ code ≤ 0x24) ∧ code ≠ 0x406 ∧ code ≠ 0x407) ∧
     ((1 ≤ code ∧ code ≤ 9) ∨ (0x10 ≤ code ∧ code ≤ 0x14) ∨ (0x20 ≤ code ∧ code ≤ 0x24) ∨
      (0x30 ≤ code ∧ code ≤ 0x33) ∨ (0x100 ≤ code ∧ code ≤ 0x3FF) ∨ (0x400 ≤ code ∧ code ≤ 0x407))) ∧
  (∀ k : Nat, k < 256 →
     (k ∉ [4, 5, 6, 9, 12, 15, 16] → Item.ofCode (0x200 + k) = none) ∧
     (k ∉ [3, 4, 10, 15] → Item.ofCode (0x300 + k) = none) ∧
     ((∀ j c : Nat, j ≤ 4 → 1 ≤ c → c ≤ 4 → k ≠ 16 * j + c) → Item.ofCode (0x100 + k) = none))

/-- CONFIG SAVE (R183): BUSY while a save is in progress; otherwise the working configuration goes, under the next save
number, into the slot that does not hold the saved copy, which is not good until the save has passed. The end of a save
with the check passed makes that copy the saved copy and records the number of its slot; with a failed check the saved copy
stays as it was and −1 is recorded. That a save in progress is sound (`SaveKept`) every step keeps. CONFIG LOCK (R151) sets
the lock flag. None of them changes anything else. That SAVE_DONE with no save in progress changes nothing is log 14's
(DESIGN CHOICE), and that the slot being written stands absent from the start of the save is log 18's (DESIGN CHOICE). -/
def Obligations.SaveAndLock : Prop :=
  ∀ s : State,
    (Ready s .controlRoom →
      ∃ t u : State, exec (.configSave .controlRoom) s = .next t ∧ exec (.configLock .controlRoom) s = .next u ∧
        (s.store.saving.isSome → RepliedOnly s t .controlRoom 0x32 .busy []) ∧
        (s.store.saving = none →
          ∃ (one : Bool) (number : Nat),
          let copy : Copy := { number := number, settings := s.store.working
                               cabins := s.cabins.map fun c =>
                                 { kind := c.kind, capacity := c.capacity, autoHold := c.autoHold } }
          (s.store.slots.saved = none → one = false ∧ number = 0) ∧
          (∀ b c, s.store.slots.saved = some (b, c) → one = !b ∧ number = (c.number + 1) % 65536) ∧
          t = { s with
            store := { s.store with
              slots := if one then { s.store.slots with slot1 := none } else { s.store.slots with slot0 := none }
              saving := some { intoOne := one, copy := copy } }
            ports := t.ports } ∧
          t.store.slots.saved = s.store.slots.saved ∧ Replied s t .controlRoom 0x32 .accepted []) ∧
        u = { s with store := { s.store with lock := true }, ports := u.ports } ∧
        Replied s u .controlRoom 0x33 .accepted []) ∧
    (s.phase = .running → ∀ passed : Bool, ∃ t : State, exec (.saveDone passed) s = .next t ∧
      (s.store.saving = none → t = s) ∧
      ∀ j, s.store.saving = some j →
        t = { s with
          store := { s.store with
            saving := none
            slots := if passed then
                (if j.intoOne then { s.store.slots with slot1 := some j.copy }
                 else { s.store.slots with slot0 := some j.copy })
              else s.store.slots }
          events := t.events } ∧
        (SaveKept s → t.store.slots.saved = if passed then some (j.intoOne, j.copy) else s.store.slots.saved) ∧
        Recorded s t [{ time := s.clock, kind := .saveDone, cabin := none, platform := none, source := none
                        grade := none
                        value := if passed then (if j.intoOne then 1 else 0) else -1 }])

/-- R186: a count of 0 or above 8 in EVENT TAKE is BAD_FIELD; otherwise the oldest records, as many as asked and held, are
sent and leave the stack, the rollover flag is cleared, and the reply carries the flag as it stood before. R185: every
step keeps the Event Stack at 256 records or fewer; a record appended is the newest; with 256 records held the oldest is
discarded first and the rollover flag is set; otherwise every record stays, and the flag. The reply's count of records is
sent in 4 bytes, as a number that is no field of a request (DESIGN CHOICE, log 10). -/
def Obligations.EventStackIsTakenOldestFirst : Prop :=
  (∀ (count : Nat) (s : State), Ready s .controlRoom →
     ∃ t : State, exec (.eventTake .controlRoom count) s = .next t ∧
       (count = 0 ∨ 8 < count → RepliedOnly s t .controlRoom 0x48 .badField []) ∧
       (1 ≤ count → count ≤ 8 →
         let taken := s.events.records.take count
         t = { s with events := { records := s.events.records.drop count, rollover := false }, ports := t.ports } ∧
         (∀ q : Port, q ≠ .controlRoom → t.ports.states.get q = s.ports.states.get q) ∧ t.ports.rate = s.ports.rate ∧
         ∃ r : Reply, t.ports.states.get .controlRoom = .reply r ∧ r.kind = 0x48 ∧ r.result = .accepted ∧
           r.header.rollover = s.events.rollover ∧ r.header.eventsWaiting = !t.events.records.isEmpty ∧
           r.header = { t.header .controlRoom none with rollover := s.events.rollover } ∧
           r.payload = bytes4 taken.length ++ taken.flatMap fun e =>
             bytes4 e.time.toNat ++ bytes1 e.kind.code ++ option1 e.cabin ++ option1 (e.platform.map Platform.code) ++
             option1 (e.source.map Source.number) ++ option1 (e.grade.map Grade.value) ++
             bytes2 (BitVec.ofInt 16 e.value).toNat)) ∧
  ((∀ s t : State, EventsBounded s → step s = .next t → EventsBounded t) ∧
   (∀ (s : State) (r : EventRecord),
      s.append r = { s with events := (s.append r).events } ∧
      (s.events.records.length < 256 →
        (s.append r).events = { records := s.events.records ++ [r], rollover := s.events.rollover }) ∧
      (s.events.records.length = 256 → ∃ oldest rest, s.events.records = oldest :: rest ∧
        (s.append r).events = { records := rest ++ [r], rollover := true })))

/-! ## Requests to the Plan Banks and the Permit Unit -/

/-- PLAN EDIT's ENTRY SET, ENTRY REMOVE and LIST CLEAR (R108 to R110): the tests in order; accepted, the standby bank's
list holds what it says, stays sorted, and the bank's edit count rises by 1. Nothing else changes. -/
def Obligations.PlanEditsChangeTheStandbyList : Prop :=
  ∀ s : State, Ready s .controlRoom →
    let x := s.plans.standby
    let ahead (d e : PlanEntry) : Prop :=
      d.cabin < e.cabin ∨ (d.cabin = e.cabin ∧ d.platform = .a ∧ e.platform = .b)
    let edited (t : State) (entries : List PlanEntry) : Prop :=
      t = { s with
        plans := s.plans.setStandby { x with entries := entries, edits := (x.edits + 1) % 256 }
        ports := t.ports } ∧
      (x.entries.Pairwise ahead → entries.Pairwise ahead) ∧
      Replied s t .controlRoom 0x38 .accepted
        (bytes1 (if s.plans.oneActive then 0 else 1) ++ bytes4 entries.length ++ bytes4 ((x.edits + 1) % 256))
    let refused (t : State) (r : Result) : Prop := RepliedOnly s t .controlRoom 0x38 r []
    (∀ cabin platform directive tag : Nat, ∃ t : State,
      exec (.entrySet .controlRoom cabin platform directive tag) s = .next t ∧
      let bad : Prop :=
        s.geometry.n ≤ cabin ∨ 1 < platform ∨ 2 < directive ∨ (directive = 2 ∧ tag = 0) ∨ (directive < 2 ∧ tag ≠ 0)
      (bad → refused t .badField) ∧
      (¬bad → s.plans.swapPending = true → refused t .pending) ∧
      ∀ e : PlanEntry, e.cabin = cabin → Platform.code e.platform = platform → e.directive.code = directive →
        e.directive.tag = tag →
        let same (d : PlanEntry) : Prop := d.cabin = e.cabin ∧ d.platform = e.platform
        let present : Prop := ∃ d ∈ x.entries, same d
        (¬bad → s.plans.swapPending = false → ¬present → 32 ≤ x.entries.length → refused t .full) ∧
        (¬bad → s.plans.swapPending = false → present ∨ x.entries.length < 32 →
          ∃ entries, edited t entries ∧ (∀ d, d ∈ entries ↔ d = e ∨ (d ∈ x.entries ∧ ¬same d)) ∧
            (present → entries.length = x.entries.length) ∧ (¬present → entries.length = x.entries.length + 1))) ∧
    (∀ cabin platform : Nat, ∃ t : State, exec (.entryRemove .controlRoom cabin platform) s = .next t ∧
      (63 < cabin ∨ 1 < platform → refused t .badField) ∧
      ∀ pf : Platform, cabin ≤ 63 → Platform.code pf = platform →
        let same (d : PlanEntry) : Prop := d.cabin = cabin ∧ d.platform = pf
        (s.plans.swapPending = true → refused t .pending) ∧
        (s.plans.swapPending = false → (∀ d ∈ x.entries, ¬same d) → refused t .notFound) ∧
        (s.plans.swapPending = false → (∃ d ∈ x.entries, same d) →
          ∃ entries, edited t entries ∧ entries.Sublist x.entries ∧
            ∀ d, d ∈ entries ↔ d ∈ x.entries ∧ ¬same d)) ∧
    (∃ t : State, exec (.listClear .controlRoom) s = .next t ∧
      (s.plans.swapPending = true → refused t .pending) ∧
      (s.plans.swapPending = false → edited t []))

/-- PLAN EDIT's SETTINGS (R110, R106) and PLAN SWAP (R111): the tests in order; SETTINGS replaces the four settings of
the standby bank, clamped; PLAN SWAP marks the standby bank ready and the swap pending. Nothing else changes. A
stop-on-miss code that is neither 0 nor 1 reads as a free value (log 4). -/
def Obligations.PlanSettingsAndSwap : Prop :=
  ∀ s : State, Ready s .controlRoom →
    let x := s.plans.standby
    let standby : Nat := if s.plans.oneActive then 0 else 1
    (∀ mode revolutions speed stopOnMiss : Nat, ∃ (t : State) (miss : Bool),
      exec (.settings .controlRoom mode revolutions speed stopOnMiss) s = .next t ∧
      (stopOnMiss = 0 → miss = false) ∧ (stopOnMiss = 1 → miss = true) ∧
      let count := if mode = 1 then max 1 (min 255 revolutions) else 1
      let stored := min (min 2000 speed) s.settings.speeds.absolute
      (1 < mode → RepliedOnly s t .controlRoom 0x38 .badField []) ∧
      (mode ≤ 1 → s.plans.swapPending = true → RepliedOnly s t .controlRoom 0x38 .pending []) ∧
      (mode ≤ 1 → s.plans.swapPending = false →
        t = { s with
          plans := s.plans.setStandby
            { x with mode := if mode = 1 then .single else .repeating, count := count, speed := stored
                     stopOnMiss := miss, edits := (x.edits + 1) % 256 }
          ports := t.ports } ∧
        Replied s t .controlRoom 0x38 .accepted
          (bytes1 standby ++ bytes4 x.entries.length ++ bytes4 ((x.edits + 1) % 256) ++ bytes1 mode ++ bytes1 count ++
            bytes2 stored))) ∧
    (∃ t : State, exec (.planSwap .controlRoom) s = .next t ∧
      (s.plans.swapPending = true → RepliedOnly s t .controlRoom 0x39 .pending []) ∧
      (s.plans.swapPending = false →
        t = { s with
          plans := { s.plans.setStandby { x with ready := true } with swapPending := true }
          ports := t.ports } ∧
        Replied s t .controlRoom 0x39 .accepted (bytes1 standby)))

/-- PARK ADVANCE (R168): its tests in order; accepted, the target moves on by the cabins asked, the steps rise by 1, the
state is STEPPING, the ceiling is formed again, and nothing else changes. -/
def Obligations.ParkAdvanceMovesTheTarget : Prop :=
  ∀ (count : Nat) (s : State), Ready s .controlRoom →
    ∃ t : State, exec (.parkAdvance .controlRoom count) s = .next t ∧
      let refused (r : Result) : Prop := RepliedOnly s t .controlRoom 0x43 r []
      let bad : Prop := count = 0 ∨ s.geometry.n ≤ count
      let working : Prop := ∃ pf v, (s.sequencers.get pf).current = some v ∧ v.state ∈ [.opening, .opened, .closing]
      (bad → refused .badField) ∧
      (¬bad → s.holds.held ≠ .park → refused .wrongState) ∧
      (¬bad → s.holds.held = .park → s.permit.park.map ParkRecord.state ≠ some .parked → refused .wrongState) ∧
      ∀ r : ParkRecord, s.permit.park = some r → r.state = .parked → s.holds.held = .park → ¬bad →
        (working → refused .pending) ∧
        (¬working →
          let target := r.target + BitVec.ofNat 32 (count * (s.geometry.p / s.geometry.n))
          let record := { r with state := .stepping, target := target, steps := min 65535 (r.steps + 1) }
          let moved : State := { s with permit := { s.permit with park := some record } }
          t = { moved.refresh with ports := t.ports } ∧
          Replied s t .controlRoom 0x43 .accepted (signed4 (target - s.position.tau).toInt))

/-- R163, R164: the target of a park record at its creation is the stopping distance at the park deceleration, rounded up,
and the way on to the next point at which a cabin is centred at the platform; the integer root is the largest integer
whose square does not exceed its argument. -/
def Obligations.ParkFiguresAreExact : Prop :=
  (∀ (s : State) (o : Nat), WheelSound s → 1 ≤ s.settings.deceleration →
     let a := s.settings.deceleration
     let v := (max s.position.v 0).toNat
     let pitch := s.geometry.p / s.geometry.n
     ∃ stopping ahead : Nat,
       s.parkTarget o = s.position.tau + BitVec.ofNat 32 (stopping + ahead) ∧
       v * v ≤ 2 * a * stopping ∧ 2 * a * stopping < v * v + 2 * a ∧ ahead < pitch ∧
       ((s.position.theta + stopping + ahead : Nat) : Int) % pitch = (o : Int) % pitch) ∧
  (∀ n : Nat, n < 2 ^ 64 → isqrt n * isqrt n ≤ n ∧ n < (isqrt n + 1) * (isqrt n + 1))

/-! ## The drive exchange -/

/-- DRIVE REPORT (R155 to R157, R9): a code outside its set is BAD_FIELD; otherwise the drive record is replaced as
clamped, the silence timer restarts and DRIVE_SILENT clears, DRIVE_FAULT follows the drive state, the position is
cross-checked with θ, and the PERMIT carries the state after it. When the silence timer expires, DRIVE_SILENT is set and
its source stands at BRAKE: the brake is demanded and the ceiling is 0 (R156). An expiry of a timer that has expired
already changes nothing (DESIGN CHOICE, log 14). The PERMIT's next-ENTER distance is that of the park platform in force
(R15; that the PERMIT waits for the next tick with the crossings is DEDUCED, log 8), and an asserted brake demand is sent
as 1 (DESIGN CHOICE, log 26). -/
def Obligations.DriveExchangeIsSupervised : Prop :=
  (∀ (speed position driveState brake : Nat) (s : State), Ready s .drive → HoldsDerived s → ConditionsOwned s →
     ∃ t : State, exec (.driveReport .drive speed position driveState brake) s = .next t ∧
       (2 < driveState ∨ 1 < brake → RepliedOnly s t .drive 0x10 .badField []) ∧
       (driveState ≤ 2 → brake ≤ 1 →
         let p := s.geometry.p
         let record : DriveRecord :=
           { speed := min 2000 speed, position := if position < p then some position else none
             state := some (if driveState = 0 then .running else if driveState = 1 then .stopped else .fault)
             brakeReleased := brake = 1 }
         let fault : Bool := driveState = 2
         let checked : Prop := s.position.verified = true ∧ position < p
         let disagrees : Prop :=
           s.settings.disagreementTolerance < (signedMod ((position : Int) - s.position.theta) p).natAbs
         let up (run : Nat) : Nat := min 3 (run + 1)
         let remainder (t : State) : Option Int :=
           (t.permit.park.filter fun r => r.state ≠ .parked).map fun r => (r.target - t.position.tau).toInt
         (¬checked → t.position = s.position) ∧
         (checked → disagrees →
           t.position = { s.position with
             disagreementRun := up s.position.disagreementRun, agreementRun := 0
             disagree := s.position.disagree || up s.position.disagreementRun = 3 }) ∧
         (checked → ¬disagrees →
           t.position = { s.position with
             agreementRun := up s.position.agreementRun, disagreementRun := 0
             disagree := s.position.disagree && up s.position.agreementRun ≠ 3 }) ∧
         HoldFrame
           { s with
             position := t.position
             permit := { s.permit with drive := record, silenceTimer := some s.settings.silenceTime, sinceReport := 0
                                       driveSilent := false, driveFault := fault }
             ports := t.ports } t [.driveSilent, .driveFault, .disagree] ∧ Formed t ∧
         t.holds.table.get .driveSilent = latchedAt (s.holds.table.get .driveSilent) .none ∧
         t.holds.table.get .driveFault =
           latchedAt (s.holds.table.get .driveFault) (if fault then .stop else .none) ∧
         t.holds.table.get .disagree =
           latchedAt (s.holds.table.get .disagree)
             (if t.position.disagree then s.settings.programmed.disagree else .none) ∧
         Replied s t .drive 0x10 .accepted
           (bytes4 t.permit.ceiling ++ bytes1 t.holds.held.value ++ yesNo t.brakeDemand ++
             bytes1 (parkStateCode t.permit.park) ++ optionSigned4 (remainder t) ++ bytes4 t.position.theta ++
             yesNo t.position.verified ++ bytes4 (t.nextEnterDistance t.position.points.park)))) ∧
  (∀ s : State, s.phase = .running → HoldsDerived s →
     ∃ t : State, exec .driveSilenceExpiry s = .next t ∧
       (s.permit.silenceTimer = none → t = s) ∧
       (s.permit.silenceTimer ≠ none →
         HoldFrame { s with permit := { s.permit with silenceTimer := none, driveSilent := true } } t [.driveSilent] ∧
         t.holds.table.get .driveSilent = latchedAt (s.holds.table.get .driveSilent) .brake ∧
         t.holds.held = .brake ∧ t.brakeDemand = true ∧ t.permit.ceiling = 0))

/-! ## Ticks and index edges -/

/-- A tick (R1 to R3, R11, R12, R15) moves θ and τ by one, counts in the open window and brings the points as configured
into force. A forward tick lowers the reverse run; a reverse tick raises it, and a run above the allowance starts again at
0, delivers REVERSE an event at STOP, and the ceiling is 0. A forward tick hands exactly the crossings of its movement to
the Sequencers, each as an ENTER, a CLOSE or an EXIT, and a reverse tick exactly the retreats; then the tests of the park
record are made and the away set is judged, and neither changes a visit, a cabin or a queue. Where no cabin crosses a
point or retreats, none of these changes. A point that stays crossed after a backward correction is so until a tick,
forward or reverse, goes over it (R11, R12; log 23). The order in one tick is the model's (DESIGN CHOICE, log 7): the
REVERSE event, A's Sequencer, B's, the park tests, the away set. -/
def Obligations.TicksMoveTheWheel : Prop :=
  (∀ s : State, s.phase = .running → HoldsDerived s → ∃ t : State, exec .forwardTick s = .next t ∧ Formed t ∧
     let g := s.geometry
     let moved : Position :=
       { s.position with
         theta := (s.position.theta + 1) % g.p, tau := s.position.tau + 1, lastDirection := .forward
         reverseRun := s.position.reverseRun - 1, openWindow := min 32767 (s.position.openWindow + 1)
         points :=
           { enter := g.enter, close := g.close, exit := g.exit, beta := g.beta, roles := g.roles, park := g.park } }
     let passed : Position :=
       { moved with stillCrossed := s.position.stillCrossed.filter fun x => x.theta ≠ moved.theta }
     let start : State := { s with position := moved }
     let u : State := handed (handed start s.position.theta moved.theta .a) s.position.theta moved.theta .b
     t.position = passed ∧ TickFrame s t ∧ SameVisits u t ∧
     t = (({ u with position := passed }.parkTests).judgeAway).refresh ∧
     ((∀ pf : Platform, start.forwardCrossings s.position.theta moved.theta pf = []) →
       t.cabins = s.cabins ∧ t.sequencers = s.sequencers ∧ t.queues = s.queues ∧
       ∀ pf : Platform, (t.output.image.get pf).actuator = (s.output.image.get pf).actuator)) ∧
  (∀ s : State, s.phase = .running → HoldsDerived s → ∃ t : State, exec .reverseTick s = .next t ∧ Formed t ∧
     let g := s.geometry
     let run := s.position.reverseRun + 1
     let past : Bool := s.settings.reverseAllowance < run
     let moved : Position :=
       { s.position with
         theta := (s.position.theta + g.p - 1) % g.p, tau := s.position.tau - 1, lastDirection := .reverse
         reverseRun := if past then 0 else run, openWindow := max (-32767) (s.position.openWindow - 1)
         stillCrossed := s.position.stillCrossed.filter fun x => x.theta ≠ s.position.theta
         points :=
           { enter := g.enter, close := g.close, exit := g.exit, beta := g.beta, roles := g.roles, park := g.park } }
     let start : State := { s with position := moved }
     let struck : State := if past then start.deliverEvent .reverse .stop else start
     let u : State := handedBack (handedBack struck s.position.theta moved.theta .a) s.position.theta moved.theta .b
     t.position = moved ∧ TickFrame s t ∧ SameVisits u t ∧ t = ((u.parkTests).judgeAway).refresh ∧
     (past = false → t.holds.table.get .reverse = s.holds.table.get .reverse) ∧
     (past = true →
       (t.holds.table.get .reverse).floor = (s.holds.table.get .reverse).floor.max .stop ∧
       t.permit.ceiling = 0) ∧
     ((∀ pf : Platform, start.retreats s.position.theta moved.theta pf = []) →
       t.cabins = s.cabins ∧ t.sequencers = s.sequencers ∧ t.queues = s.queues ∧
       ∀ pf : Platform, (t.output.image.get pf).actuator = (s.output.image.get pf).actuator))

/-- R10, R11, R12: the phase of a cabin is the signed value congruent to θ − k·pitch − o in (−P/2, P/2]; a movement
hands over a crossing of a point exactly where the phase goes over it forward and the point does not stay crossed after a
backward correction (log 23), and a retreat exactly where it falls below −E, each with the role not OFF and the position
verified. Crossings are handed over cabin by cabin, each once, those of one cabin in the order ENTER, CLOSE, EXIT; the cabin
farthest past the berth comes first, and so for retreats (DESIGN CHOICE, log 7). Signed values modulo P, the offset of an
index edge among them (R4), lie in the same range. -/
def Obligations.CrossingsAreThoseOfThePhase : Prop :=
  ∀ (s : State) (pf : Platform) (before after k : Nat), s.geometry.ok = true →
    let x := s.position.points
    let taken : Prop := k < s.geometry.n ∧ x.roles.get pf ≠ .off ∧ s.position.verified = true
    let old := s.phaseAt before pf k
    let new := s.phaseAt after pf k
    let o : Int := if pf = .a then 0 else x.beta
    let pitch := s.geometry.p / s.geometry.n
    let stays (point : Crossing) (phase : Int) : Prop :=
      { platform := pf, cabin := k, point := point
        theta := ((k * pitch + o + phase) % (s.geometry.p : Int)).toNat } ∈ s.position.stillCrossed
    let crossings := s.forwardCrossings before after pf
    let farthestFirst : List Nat → Prop :=
      List.Pairwise fun first next => s.phaseAt after pf next < s.phaseAt after pf first
    (∀ y : Int, (signedMod y s.geometry.p - y) % (s.geometry.p : Int) = 0 ∧
      -(s.geometry.p : Int) < 2 * signedMod y s.geometry.p ∧ 2 * signedMod y s.geometry.p ≤ s.geometry.p) ∧
    (-(s.geometry.p : Int) < 2 * old ∧ 2 * old ≤ s.geometry.p ∧
      ((before : Int) - k * pitch - o - old) % (s.geometry.p : Int) = 0) ∧
    ((k, .enter) ∈ crossings ↔
      taken ∧ old < -(x.enter : Int) ∧ -(x.enter : Int) ≤ new ∧ ¬stays .enter (-(x.enter : Int))) ∧
    ((k, .close) ∈ crossings ↔ taken ∧ old < (x.close : Int) ∧ (x.close : Int) ≤ new ∧ ¬stays .close x.close) ∧
    ((k, .exit) ∈ crossings ↔ taken ∧ old ≤ (x.exit : Int) ∧ (x.exit : Int) < new ∧ ¬stays .exit (x.exit + 1)) ∧
    (∃ cabins : List Nat, farthestFirst cabins ∧ cabins.Nodup ∧ crossings = cabins.flatMap fun k =>
      ([Crossing.enter, .close, .exit].filter fun c => (k, c) ∈ crossings).map fun c => (k, c)) ∧
    (k ∈ s.retreats before after pf ↔ taken ∧ -(x.enter : Int) ≤ old ∧ new < -(x.enter : Int)) ∧
    farthestFirst (s.retreats before after pf) ∧ (s.retreats before after pf).Nodup

/-- R4, R6, R8: an index edge while the last direction is not FORWARD changes nothing. Taken with the position unverified,
it sets θ to 0 and verifies the position: INDEX is recorded with value 0, POSITION's condition falls to NONE, no crossing
reaches a visit, and neither the revolution count nor the Plan Banks move. That INDEX is the first record of the edge, and
A's withheld assignment (R66) ahead of B's, is the model's order (DESIGN CHOICE, log 7), and that no point stays crossed
after it log 23's (DESIGN CHOICE). -/
def Obligations.IndexEdgeVerifiesThePosition : Prop :=
  ∀ s : State, s.phase = .running →
    (s.position.lastDirection ≠ .forward → exec .indexEdge s = .next s) ∧
    (s.position.lastDirection = .forward → s.position.verified = false →
      ∃ t : State, exec .indexEdge s = .next t ∧ Formed t ∧
        t.position = { s.position with theta := 0, verified := true, stillCrossed := [] } ∧
        Reacted { s with position := t.position, loop := { s.loop with away := t.loop.away } } t ∧
        (t.holds.table.get .position).cond = .none ∧
        ∃ more : List EventRecord, Recorded s t (plainRecord s .index 0 :: more))

/-- R4, R7, R11, R112 to R114, R167: a taken edge within the tolerance sets θ to 0, records INDEX with the offset, leaves
the position verified, and is a revolution boundary for the revolution count and the Plan Banks, which records
PLAN_SWAPPED or PLAN_END, or neither. A negative offset hands exactly the crossings of the correction to the Sequencers,
ahead of the boundary (R115); where the offset is not negative no point is crossed, no cabin record and no visit changes
but by an assignment, and the points that a positive one takes phases back over stay crossed (log 23). The target of a
park record that is not PARKED moves with θ, and after a move its tests are made. Where the rules leave an order open the
model chooses it (DESIGN CHOICE, log 7): INDEX first, then the target, A's crossings, B's, the boundary, the park tests,
the away set, and A's withheld assignment (R66) ahead of B's. That the bank a swap makes active keeps its ready flag is
the model's too (DESIGN CHOICE, log 25). -/
def Obligations.IndexEdgeWithinTolerance : Prop :=
  ∀ s : State, s.phase = .running → s.position.lastDirection = .forward → s.position.verified = true →
    let d := signedMod s.position.theta s.geometry.p
    d.natAbs ≤ s.settings.indexTolerance →
    ∃ t : State, exec .indexEdge s = .next t ∧ Formed t ∧
      let back : List CrossedPoint := if 0 < d then crossedUpTo s s.position.theta else []
      let corrected : Position :=
        { s.position with theta := 0, stillCrossed := back ++ s.position.stillCrossed }
      t.position = { corrected with revolutions := (s.position.revolutions + 1) % 65536 } ∧
      t.plans = afterBoundary s.plans ∧ TickFrame { s with plans := t.plans } t ∧
      (0 ≤ d → Reacted
        { s with position := t.position, plans := t.plans, loop := { s.loop with away := t.loop.away } } t) ∧
      (∃ more : List EventRecord, Recorded s t (plainRecord s .index d :: more)) ∧
      RecordedOf s t [.planSwapped, .planEnd] (boundaryRecords s) ∧
      let target (r : ParkRecord) : ParkRecord :=
        if r.state = .parked then r else { r with target := r.target + BitVec.ofInt 32 d }
      let moving : Bool := d ≠ 0 && s.permit.park.any fun r => r.state ≠ .parked
      let start : State := State.append
        { s with position := corrected
                 permit := { s.permit with park := s.permit.park.map target } }
        (plainRecord s .index d)
      let u : State :=
        if d < 0 then handed (handed start s.position.theta 0 .a) s.position.theta 0 .b else start
      t = (((u.boundary).movedTests moving).judgeAway).refresh ∧
      Reacted { u with position := t.position, plans := t.plans, loop := { u.loop with away := t.loop.away } } t

/-- R5, R7, R8, R80: a taken edge beyond the tolerance sets θ to 0 and leaves the position unverified: INDEX_MISMATCH is
recorded with the offset ahead of all that follows, POSITION stands at UNLOAD with its floor at STOP or above, the ceiling
is 0, a visit in PASSING or SECURED ends with all that a visit's end does (R78) and any other carries its position-lost
flag; the edge is a revolution boundary, with its record. R5 orders INDEX_MISMATCH ahead of POSITION's HOLD_RAISED alone;
that POSITION's one change (DEDUCED, log 21), A's visit, B's, the boundary and the away set follow in this order is the
model's (DESIGN CHOICE, log 7). That the bank a swap makes active keeps its ready flag is the model's too (DESIGN CHOICE,
log 25), and that no point stays crossed (DESIGN CHOICE, log 23). -/
def Obligations.IndexEdgeBeyondTolerance : Prop :=
  ∀ s : State, s.phase = .running → s.position.lastDirection = .forward → s.position.verified = true →
    let d := signedMod s.position.theta s.geometry.p
    s.settings.indexTolerance < d.natAbs →
    ∃ t : State, exec .indexEdge s = .next t ∧ Formed t ∧
      t.position =
        { s.position with theta := 0, verified := false, stillCrossed := []
                          revolutions := (s.position.revolutions + 1) % 65536 } ∧
      t.plans = afterBoundary s.plans ∧ TickFrame { s with plans := t.plans } t ∧
      (∃ more : List EventRecord, Recorded s t (plainRecord s .indexMismatch d :: more)) ∧
      RecordedOf s t [.planSwapped, .planEnd] (boundaryRecords s) ∧
      (t.holds.table.get .position).cond = .unload ∧
      (t.holds.table.get .position).floor = (s.holds.table.get .position).floor.max .stop ∧
      t.permit.ceiling = 0 ∧
      (∀ pf : Platform,
        let q := s.sequencers.get pf
        (q.current = none → t.sequencers.get pf = q) ∧
        ∀ v : Visit, q.current = some v →
          let lost : Visit := { v with positionLost := true }
          (v.state ∈ [.passing, .secured] →
            (t.sequencers.get pf).current = none ∧ (t.sequencers.get pf).last = some lost ∧
            (t.sequencers.get pf).actuatorTimer = none) ∧
          (v.state ∈ [.opening, .opened, .closing] → t.sequencers.get pf = { q with current := some lost })) ∧
      let start : State :=
        State.append { s with position := { s.position with theta := 0, verified := false, stillCrossed := [] } }
          (plainRecord s .indexMismatch d)
      let struck : State := start.changeSource .position fun r =>
        { r with cond := .unload, peak := r.peak.max .unload, floor := r.floor.max .stop }
      let lose (u : State) (pf : Platform) : State :=
        match (u.sequencers.get pf).current with
        | none => u
        | some v =>
          let lost : Visit := { v with positionLost := true }
          if v.state ∈ [.passing, .secured] then u.endVisit pf lost
          else { u with sequencers := u.sequencers.set pf { u.sequencers.get pf with current := some lost } }
      t = (((lose (lose struck .a) .b).boundary).judgeAway).refresh

/-! ## Visits -/

/-- R60, R61: the record a visit begins with. -/
def Obligations.DirectiveIsDecidedAtEnter : Prop :=
  ∀ (s : State) (pf : Platform) (k : Nat) (c : Cabin),
    let v := s.newVisit pf k c
    let role := s.position.points.roles.get pf
    let plan := (s.plans.active.entries.find? fun e => e.cabin = k && e.platform = pf).map PlanEntry.directive
    let run : Nat := match c.boardedAt with
      | some t => (s.position.tau - t).toNat
      | none => 0
    let alight : Prop :=
      c.service ≠ .withdrawn ∧ plan ≠ some .pass ∧ (role = .boardAlight ∨ role = .alightOnly) ∧
      (c.occupancyUnknown = true ∨ (0 < c.occupancy ∧ s.settings.rideLength ≤ run))
    let board : Prop :=
      c.service = .inService ∧ (role = .boardAlight ∨ role = .boardOnly) ∧
      (plan = none ∨ ∃ tag, plan = some (.reserved tag)) ∧ (c.gate = .opened ∨ c.openOnce = true) ∧
      s.holds.held ∈ [.none, .limit] ∧ ((c.occupancy = 0 ∧ c.occupancyUnknown = false) ∨ alight)
    v.number = ((s.sequencers.get pf).visitNumber + 1) % 256 ∧ v.cabin = k ∧
    (v.directive = .alightBoard ↔ alight ∧ board) ∧ (v.directive = .alight ↔ alight ∧ ¬board) ∧
    (v.directive = .board ↔ ¬alight ∧ board) ∧ (v.directive = .skip ↔ ¬alight ∧ ¬board) ∧
    (v.boardingOffered = true ↔ board) ∧
    (∀ tag, v.reservedTag = some tag ↔ c.service ≠ .withdrawn ∧ plan = some (.reserved tag)) ∧
    v.occupancyAtEnter = (if c.occupancyUnknown then none else some c.occupancy) ∧
    v = { number := v.number, cabin := k, directive := v.directive, reservedTag := v.reservedTag
          occupancyAtEnter := v.occupancyAtEnter, alighted := none, assigned := []
          state := if v.directive = .skip then .passing else .opening
          retries := 0, boardingOffered := v.boardingOffered, assignmentAsked := false, boardingCounted := false
          openFailed := false, closeFailed := false, late := false, retreated := false, positionLost := false }

/-- R62, R64, R65, R107: an ENTER at a VACANT platform starts its visit: PASSING with nothing else, or OPENING with the
door commanded, the cabin in visit, the timer started and VISIT_START recorded. Where the actuator position and the door
are OPEN already it is OPEN at once, with the timer stopped, and the assignment of R66 is asked. An ENTER of the cabin in
visit changes nothing; one of another cabin is recorded as missed, and stop-on-miss delivers BERTH_MISS its event. -/
def Obligations.EnterStartsAVisit : Prop :=
  ∀ (s : State) (pf : Platform) (k : Nat) (c : Cabin), s.cabins[k]? = some c →
    let q := s.sequencers.get pf
    let t := s.takeEnter pf k
    let v := s.newVisit pf k c
    (q.current = none → v.directive = .skip →
      t = { s with sequencers := s.sequencers.set pf { q with current := some v, visitNumber := v.number } }) ∧
    (q.current = none → v.directive ≠ .skip →
      (s.loop.berths.get pf).position ≠ .opened ∨ c.door ≠ .opened →
      t = { actuated s pf .opening
              { q with current := some v, visitNumber := v.number, actuatorTimer := some s.settings.actuatorTime }
            with cabins := s.cabins.set k { c with inVisit := some pf }, events := t.events } ∧
      Recorded s t [{ time := s.clock, kind := .visitStart, cabin := some k, platform := some pf, source := none
                      grade := none, value := v.directive.code }]) ∧
    (q.current = none → v.directive ≠ .skip →
      (s.loop.berths.get pf).position = .opened → c.door = .opened →
      t = askedIfAllowed
        (State.append
          { actuated s pf .opening
              { q with current := some { v with state := .opened }, visitNumber := v.number, actuatorTimer := none }
            with cabins := s.cabins.set k { c with inVisit := some pf } }
          (berthRecord s .visitStart k pf v.directive.code)) pf) ∧
    ∀ w, q.current = some w →
      let missed : State := s.append
        { time := s.clock, kind := .missedBerth, cabin := some k, platform := some pf, source := none
          grade := none, value := w.cabin }
      (w.cabin = k → t = s) ∧
      (w.cabin ≠ k → s.plans.active.stopOnMiss = false → t = missed) ∧
      (w.cabin ≠ k → s.plans.active.stopOnMiss = true →
        t = missed.deliverEvent .berthMiss s.settings.programmed.berthMiss)

/-- R70, R71, R74, R75: the CLOSE crossing of the cabin in visit closes a visit in OPEN or OPENING; its EXIT crossing ends
a visit in PASSING or SECURED, and makes any other late: the DOOR_LATE condition is set, and a visit in OPEN or OPENING
closes. A visit that these bring to CLOSING with its door LATCHED is SECURED at once, or, late or without its position, at
its end (R70, R77, R80). R63: its ENTER retreat cancels a visit in PASSING, and one in OPENING whose door is still
LATCHED, with CLOSE commanded and the retreated flag. Crossings and retreats of other cabins, and at a VACANT platform,
change nothing. -/
def Obligations.CrossingsMoveTheVisit : Prop :=
  (∀ (s : State) (pf : Platform) (k : Nat),
     let q := s.sequencers.get pf
     ((∀ v, q.current = some v → v.cabin ≠ k) → s.takeClose pf k = s ∧ s.takeExit pf k = s) ∧
     ∀ v : Visit, q.current = some v → v.cabin = k →
       let late : Visit := { v with late := true }
       let marked (w : Visit) : State :=
         State.formDoorLate { s with sequencers := s.sequencers.set pf { q with current := some w, doorLate := true } }
       (v.state ∈ [.passing, .closing, .secured] → s.takeClose pf k = s) ∧
       (v.state ∈ [.opened, .opening] → s.doorOf k ≠ .latched →
         s.takeClose pf k = actuated s pf .close
           { q with current := some { v with state := .closing, retries := 0 }
                    actuatorTimer := some s.settings.actuatorTime }) ∧
       (v.state ∈ [.opened, .opening] → s.doorOf k = .latched → v.late = false → v.positionLost = false →
         s.takeClose pf k = actuated s pf .close
           { q with current := some { v with state := .secured, retries := 0 }, actuatorTimer := none }) ∧
       (v.state ∈ [.opened, .opening] → s.doorOf k = .latched → v.late = true ∨ v.positionLost = true →
         let w : Visit := { v with state := .closing, retries := 0 }
         s.takeClose pf k =
           (actuated s pf .close { q with current := some w, actuatorTimer := some s.settings.actuatorTime }).endVisit
             pf w) ∧
       (v.state ∈ [.passing, .secured] → s.takeExit pf k = s.endVisit pf v) ∧
       (v.state = .closing → s.takeExit pf k = marked late) ∧
       (v.state ∈ [.opened, .opening] → s.doorOf k ≠ .latched →
         let t := marked late
         s.takeExit pf k = actuated t pf .close
           { t.sequencers.get pf with current := some { late with state := .closing, retries := 0 }
                                      actuatorTimer := some s.settings.actuatorTime }) ∧
       (v.state ∈ [.opened, .opening] → s.doorOf k = .latched →
         let t := marked late
         let w : Visit := { late with state := .closing, retries := 0 }
         s.takeExit pf k =
           (actuated t pf .close
             { t.sequencers.get pf with current := some w, actuatorTimer := some s.settings.actuatorTime }).endVisit
             pf w)) ∧
  (∀ (s : State) (pf : Platform) (k : Nat),
     let q := s.sequencers.get pf
     ((∀ v, q.current = some v → v.cabin ≠ k) → s.takeRetreat pf k = s) ∧
     ∀ v : Visit, q.current = some v → v.cabin = k →
       (v.state = .passing → s.takeRetreat pf k = s.endVisit pf v) ∧
       (v.state = .opening → s.doorOf k = .latched →
         s.takeRetreat pf k =
           (withUnit s pf (commanded (s.output.image.get pf) .close)).endVisit pf { v with retreated := true }) ∧
       (v.state = .opening → s.doorOf k ≠ .latched → s.takeRetreat pf k = s) ∧
       (v.state ∈ [.opened, .closing, .secured] → s.takeRetreat pf k = s))

/-- R78, R79, R99, R29: the end of a visit hands the unboarded parties back to the front of the queue, applies R29 to the
cabin, records VISIT_END with the value of R79, keeps the record as the platform's last, clears DOOR_LATE of a late
visit, and leaves the platform VACANT with its timer stopped. A PASSING visit hands the Cabin Table nothing and is not
recorded. The platform's actuator code is CLOSE, and a re-close still pending is replaced (R78, R56; DEDUCED, log 24). -/
def Obligations.VisitEndInItsSteps : Prop :=
  ∀ (s : State) (pf : Platform) (v : Visit) (c : Cabin), s.cabins[v.cabin]? = some c →
    let q := s.sequencers.get pf
    let t := s.endVisit pf v
    let back := (v.assigned.filter fun e => e.boarded = 0).map Assigned.party
    let queue := s.queues.get pf
    let boarded : Nat := (v.assigned.map Assigned.boarded).sum
    let outcome : Nat :=
      (if v.openFailed then 1 else 0) + (if v.closeFailed then 2 else 0) + (if v.late then 4 else 0) +
      (if v.retreated then 8 else 0)
    let offered : Bool := v.boardingOffered && !v.retreated
    let gated : Cabin :=
      { c with openOnce := if offered then false else c.openOnce
               gate := if v.assigned.any (fun e => 0 < e.boarded) && c.autoHold then .hold else c.gate }
    let opened : Cabin :=
      match gated.pendingGate with
      | none => gated
      | some .hold => { gated with gate := .hold, openOnce := false, pendingGate := none }
      | some .opened => { gated with gate := .opened, openOnce := false, pendingGate := none }
      | some .openOnce => { gated with openOnce := true, pendingGate := none }
    let empty : Bool := c.occupancy = 0 && !c.occupancyUnknown
    let asked : Service :=
      match c.pendingService with
      | none => c.service
      | some .restore => .inService
      | some .withdraw =>
        if c.service = .inService then (if empty then .withdrawn else .withdrawPending) else c.service
    let d : Cabin :=
      { opened with service := if asked = .withdrawPending ∧ empty then .withdrawn else asked
                    pendingService := none, inVisit := none }
    let ended : State := { s with
      output := (withUnit s pf (commanded (s.output.image.get pf) .close)).output
      queues := s.queues.set pf { entries := back ++ queue.entries, outCount := queue.outCount - v.assigned.length }
      cabins := if v.state = .passing then s.cabins else s.cabins.set v.cabin d
      events := (if v.state = .passing then s else s.append
        { time := s.clock, kind := .visitEnd, cabin := some v.cabin, platform := some pf, source := none
          grade := none, value := (boarded + 50 * v.alighted.getD 0 + 2048 * outcome : Nat) }).events
      sequencers := s.sequencers.set pf
        { q with current := none, last := some v, actuatorTimer := none
                 doorLate := if v.late then false else q.doorLate } }
    t = if v.late then ended.formDoorLate else ended

/-- R65, R73, R56: the actuator timer of a platform expires. In OPENING the open has failed and the visit closes; in
CLOSING with retries left the door is re-closed and the timer starts again, and without any the close has failed and the
timer stops. The expiry of a timer that is stopped changes nothing (DESIGN CHOICE, log 14). -/
def Obligations.ActuatorTimerExpires : Prop :=
  ∀ (pf : Platform) (s : State), s.phase = .running → Formed s →
    let q := s.sequencers.get pf
    let unit := s.output.image.get pf
    let after (u : ImageUnit) (v : Visit) (timer : Option Nat) : State :=
      { withUnit s pf u with
        sequencers := s.sequencers.set pf { q with current := some v, actuatorTimer := timer } }
    let restarted := some s.settings.actuatorTime
    ∃ t : State, exec (.actuatorTimerExpiry pf) s = .next t ∧
      (q.actuatorTimer = none → t = s) ∧
      (q.actuatorTimer ≠ none → q.current = none →
        t = { s with sequencers := s.sequencers.set pf { q with actuatorTimer := none } }) ∧
      ∀ v : Visit, q.actuatorTimer ≠ none → q.current = some v →
        let shut := commanded unit .close
        let w : Visit := { v with state := .closing, retries := 0, openFailed := true }
        (v.state = .opening → s.doorOf v.cabin ≠ .latched → t = (after shut w restarted).refresh) ∧
        (v.state = .opening → s.doorOf v.cabin = .latched → v.late = false → v.positionLost = false →
          t = (after shut { w with state := .secured } none).refresh) ∧
        (v.state = .opening → s.doorOf v.cabin = .latched → v.late = true ∨ v.positionLost = true →
          t = ((after shut w restarted).endVisit pf w).refresh) ∧
        (v.state = .closing → v.retries < s.settings.closeRetries →
          t = (after { unit with actuator := .release, reclosePending := true }
            { v with retries := v.retries + 1 } restarted).refresh) ∧
        (v.state = .closing → s.settings.closeRetries ≤ v.retries →
          t = after unit { v with closeFailed := true } none) ∧
        (v.state ∈ [.passing, .opened, .secured] → t = after unit v none)

/-! ## Speed and wind windows -/

/-- A window end (R3, R120 to R123): the open speed window closes and v is the sum of the four closed windows; each
sensor's count becomes a window speed, its gust is the rounded average of its 12 newest, and at every fourth window end
its mean is that of its 60 newest one-second values. Where a source released by itself takes the held grade below UNLOAD,
the assignments withheld are made (R66); that A's is made and recorded ahead of B's is the model's order (DESIGN CHOICE,
log 7). -/
def Obligations.WindowEndFormsSpeedAndWind : Prop :=
  ∀ s : State, s.phase = .running → ∃ t : State, exec .windowEnd s = .next t ∧ Formed t ∧
    let w := s.position.closedWindows
    t.position = { s.position with
      closedWindows := { w1 := w.w2, w2 := w.w3, w3 := w.w4, w4 := s.position.openWindow }
      openWindow := 0, v := w.w2 + w.w3 + w.w4 + s.position.openWindow, windowTimer := 250 } ∧
    Reacted
      { s with position := t.position, wind := t.wind, permit := { s.permit with park := t.permit.park } } t ∧
    t.wind.windowEnds = min 240 (s.wind.windowEnds + 1) ∧
    t.wind.groupPosition = (s.wind.groupPosition + 1) % 4 ∧
    ∀ k : Sensor,
      let x := s.wind.sensors.get k
      let y := t.wind.sensors.get k
      let keep (n : Nat) (ring : List Nat) : List Nat := ring.drop (ring.length - n)
      let ring := keep 12 (x.windowRing ++ [min 600 ((x.openCount * s.settings.factors.get k + 128) / 256)])
      let seconds := keep 60 (x.secondRing ++ [((keep 4 ring).sum + 2) / 4])
      y.openCount = 0 ∧ y.lastCount = x.openCount ∧ y.windowRing = ring ∧
      y.gust = (ring.sum + ring.length / 2) / ring.length ∧
      (t.wind.groupPosition = 0 →
        y.secondRing = seconds ∧ y.mean = (seconds.sum + seconds.length / 2) / seconds.length) ∧
      (t.wind.groupPosition ≠ 0 → y.secondRing = x.secondRing ∧ y.mean = x.mean)

/-- The fault and recovery tests of a window end (R124 to R126): a VALID sensor that reads nothing while the other is
VALID and at the stall reference or above runs its stall timer, and is FAULTED when that reaches the stall time, or at
the fourth saturated window in a row; a FAULTED sensor is VALID again after 240 windows in a row with a count that is
neither 0 nor saturated. Each change is recorded with the value of Table 7-5; that CROWN's record comes before DECK's is the
model's order (DESIGN CHOICE, log 7). -/
def Obligations.SensorFaultsAndRecoveries : Prop :=
  ∀ s : State, s.phase = .running → ∃ t : State, exec .windowEnd s = .next t ∧
    (let changed (k other : Sensor) (stalled overran recovered : Int) : List EventRecord :=
       let x := s.wind.sensors.get k
       let y := t.wind.sensors.get k
       let byStall : Bool :=
         x.openCount = 0 && !(s.wind.sensors.get other).faulted &&
         s.settings.stallReference ≤ (t.wind.sensors.get other).gust &&
         1000 * s.settings.stallTime ≤ x.stallTimer + 250
       if !x.faulted && y.faulted then [plainRecord s .sensorFault (if byStall then stalled else overran)]
       else if x.faulted && !y.faulted then [plainRecord s .sensorRecovered recovered]
       else []
     RecordedOf s t [.sensorFault, .sensorRecovered] (changed .crown .deck 1 2 1 ++ changed .deck .crown 3 4 2)) ∧
    ∀ k other : Sensor, k ≠ other →
      let x := s.wind.sensors.get k
      let y := t.wind.sensors.get k
      let stalling : Prop :=
        x.openCount = 0 ∧ (s.wind.sensors.get other).faulted = false ∧
        s.settings.stallReference ≤ (t.wind.sensors.get other).gust
      let cleared : Prop := y.stallTimer = 0 ∧ y.overrangeRun = 0 ∧ y.recoveryRun = 0
      (x.faulted = false →
        let stall : Prop := stalling ∧ 1000 * s.settings.stallTime ≤ x.stallTimer + 250
        let range : Prop := x.openCount = 1023 ∧ 4 ≤ x.overrangeRun + 1
        (y.faulted = true ↔ stall ∨ range) ∧ (y.faulted = true → cleared) ∧
        (y.faulted = false →
          (stalling → y.stallTimer = x.stallTimer + 250) ∧ (¬stalling → y.stallTimer = 0) ∧
          y.overrangeRun = if x.openCount = 1023 then x.overrangeRun + 1 else 0)) ∧
      (x.faulted = true →
        let sound : Prop := 1 ≤ x.openCount ∧ x.openCount ≤ 1022
        (y.faulted = false ↔ sound ∧ 240 ≤ x.recoveryRun + 1) ∧ (y.faulted = false → cleared) ∧
        (y.faulted = true → (sound → y.recoveryRun = x.recoveryRun + 1) ∧ (¬sound → y.recoveryRun = 0)))

/-- The combined wind and the class after a window end (R127 to R130): G and M are the greatest gust and mean of the
VALID sensors; the class rises at once to the highest level reached, falls by one when its quiet time is complete, leaves
PENDING at the 240th window end, and does not move while both sensors are FAULTED; its grade of Table 7-8 is WIND's
condition. A change of the class is recorded as CLASS_CHANGE with that grade and ten times the old class plus the new,
PENDING being 9, ahead of any record of the WIND source, and no other CLASS_CHANGE is recorded. -/
def Obligations.WindClassFollowsItsThresholds : Prop :=
  ∀ s : State, s.phase = .running → ConditionsOwned s → ∃ t : State, exec .windowEnd s = .next t ∧
    let a := t.wind.sensors.crown
    let b := t.wind.sensors.deck
    let g := t.wind.gust
    let m := t.wind.mean
    let row (c : Nat) : ClassRow := s.settings.classes.get c
    let reached (c : Nat) : Prop := (row c).ug ≤ g ∨ (row c).um ≤ m
    t.wind.sensorCondition = (a.faulted && b.faulted) ∧
    (a.faulted = false → b.faulted = false → g = max a.gust b.gust ∧ m = max a.mean b.mean) ∧
    (a.faulted = false → b.faulted = true → g = a.gust ∧ m = a.mean) ∧
    (a.faulted = true → b.faulted = false → g = b.gust ∧ m = b.mean) ∧
    (a.faulted = true → b.faulted = true → g = s.wind.gust ∧ m = s.wind.mean ∧
      t.wind.windClass = s.wind.windClass ∧ t.wind.quietTimer = 0) ∧
    (let grade : Grade := match t.wind.windClass with
       | .pending => .unload
       | .level 0 => .none
       | .level 1 => .limit
       | .level 2 => .unload
       | .level 3 => .park
       | .level _ => .stop
     let number (c : WindClass) : Nat := match c with
       | .pending => 9
       | .level n => n
     let change : EventRecord :=
       { time := s.clock, kind := .classChange, cabin := none, platform := none, source := none, grade := some grade
         value := (10 * number s.wind.windClass + number t.wind.windClass : Nat) }
     (t.holds.table.get .wind).cond = grade ∧
     (t.wind.windClass = s.wind.windClass → RecordedOf s t [.classChange] []) ∧
     (t.wind.windClass ≠ s.wind.windClass → ∃ before more : List EventRecord,
       Recorded s t (before ++ change :: more) ∧
       (∀ e ∈ before, e.kind ≠ .classChange ∧ e.source ≠ some .wind) ∧ (∀ e ∈ more, e.kind ≠ .classChange))) ∧
    (t.wind.sensorCondition = false → ∃ r : Nat, r ≤ 4 ∧ (r = 0 ∨ reached r) ∧
      (∀ c, r < c → c ≤ 4 → ¬reached c) ∧
      (s.wind.windClass = .pending →
        t.wind.quietTimer = 0 ∧
        t.wind.windClass = if t.wind.windowEnds < 240 then .pending else .level r) ∧
      ∀ c : Nat, s.wind.windClass = .level c →
        let calm : Prop := 0 < c ∧ g < (row c).dg ∧ m < (row c).dm
        (c < r → t.wind.windClass = .level r ∧ t.wind.quietTimer = 0) ∧
        (r ≤ c → ¬calm → t.wind.windClass = .level c ∧ t.wind.quietTimer = 0) ∧
        (r ≤ c → calm → s.wind.quietTimer + 250 < 1000 * (row c).q →
          t.wind.windClass = .level c ∧ t.wind.quietTimer = s.wind.quietTimer + 250) ∧
        (r ≤ c → calm → 1000 * (row c).q ≤ s.wind.quietTimer + 250 →
          t.wind.windClass = .level (c - 1) ∧ t.wind.quietTimer = 0))

/-! ## The status loop and the output chain -/

/-- A scan that has failed (R41, R43, R44): the count rises; the second in a row takes every contact to unknown, discards
both good scans, sets LOOP_FAULT and records it first, and every door state is UNKNOWN, which opens a SECURED visit to
CLOSING again (R72); with LOOP_FAULT's grade in its range (R139) nothing is assigned and no queue changes. Any other failed
scan changes nothing else. With no scan in progress the row changes nothing (DESIGN
CHOICE, log 14). -/
def Obligations.FailedScansTakeTheLoop : Prop :=
  ∀ (s : State) (pattern : Byte) (contacts : List Bool), s.phase = .running →
    (s.loop.scan = none → exec (.scanEnd pattern contacts) s = .next s) ∧
    ∀ x : ScanInProgress, s.loop.scan = some x →
      pattern ≠ Config.checkPattern ∨ contacts.length ≠ 2 * x.cabins + 4 →
      ∃ t : State, exec (.scanEnd pattern contacts) s = .next t ∧ Formed t ∧
        let count := min 32767 (s.loop.failedCount + 1)
        (count ≠ 2 → HoldFrame
          { s with loop := { s.loop with scan := none, failedCount := count, away := t.loop.away } } t [.doorAway]) ∧
        (count = 2 →
          t.loop = { s.loop with
            scan := none, newest := none, previous := none, failedCount := 2, loopFault := true, away := []
            cabins := s.loop.cabins.map fun _ => { doorClosed := .unknown, latch := .unknown, conflict := false }
            berths :=
              let berth : LoopBerth :=
                { openStop := .unknown, closedStop := .unknown, conflict := false, position := .unknown }
              { a := berth, b := berth } } ∧
          t.cabins = s.cabins.map (fun c => { c with door := .unknown }) ∧
          t.position = s.position ∧ t.plans = s.plans ∧ t.wind = s.wind ∧ t.store = s.store ∧ t.ports = s.ports ∧
          (t.holds.table.get .loopFault).cond = s.settings.programmed.loopFault ∧
          (∃ more : List EventRecord, Recorded s t (plainRecord s .loopFault 2 :: more)) ∧
          let after (pf : Platform) : Sequencer :=
            let q := s.sequencers.get pf
            match q.current with
            | none => q
            | some v =>
              if v.state = .secured ∧ s.doorOf v.cabin = .latched then
                { q with current := some { v with state := .closing }, actuatorTimer := some s.settings.actuatorTime }
              else q
          (∀ pf : Platform, apartFromAssignment (t.sequencers.get pf) = apartFromAssignment (after pf)) ∧
          (HoldsDerived s → s.settings.programmed.loopFault.atLeast .unload = true →
            t.queues = s.queues ∧ ∀ pf : Platform, t.sequencers.get pf = after pf))

/-- A good scan (R41 to R43, R45 to R49): its readings become the newest good scan and the newest the previous one; a
contact that both read alike is accepted and every other keeps its value; the door states and the actuator positions are
those of Tables 3-3 and 3-5; a conflict that begins sets its flag and is recorded; the failed-scan count is 0, and
LOOP_FAULT, where it was set, is clear with LOOP_OK recorded first. The visits follow: OPENING moves to OPEN where the
berth's position and the door are OPEN, and the assignment of R66 is asked (R65); CLOSING with the door LATCHED moves to
SECURED (R70), with the code at CLOSE also where a re-close is pending (DESIGN CHOICE, log 24), or ends when late or
without its position (R77, R80), with all that a visit's end does; SECURED whose door was LATCHED and is no more returns
to CLOSING (R72); no other visit moves. A scan that was in progress at a change of N sets the count to 0 and clears
LOOP_FAULT, and its readings are discarded (R49). The order after LOOP_OK is the model's (DESIGN CHOICE, log 7): the
conflicts of the cabins, of A and of B, A's visit, B's, the away set. -/
def Obligations.GoodScansAcceptContacts : Prop :=
  (∀ (s : State) (contacts : List Bool) (x : ScanInProgress), s.phase = .running → WheelSound s →
    s.loop.scan = some x → x.stale = false → x.cabins = s.geometry.n → contacts.length = 2 * x.cabins + 4 →
    ∃ t : State, exec (.scanEnd Config.checkPattern contacts) s = .next t ∧ Formed t ∧
      let accepted (old new : Contact) (previous : Option Bool) (now : Bool) : Prop :=
        new = if previous = some now then (if now then .made else .notMade) else old
      let at' (i : Nat) : Bool := contacts.getD i false
      let before (k : Nat) : Option (Bool × Bool) := s.loop.newest.bind fun r => r.cabins[k]?
      t.loop.scan = none ∧ t.loop.failedCount = 0 ∧ t.loop.loopFault = false ∧ t.loop.previous = s.loop.newest ∧
      (∃ r : Readings, t.loop.newest = some r ∧ r.cabins.length = x.cabins ∧
        (∀ k, k < x.cabins → r.cabins[k]? = some (at' (2 * k), at' (2 * k + 1))) ∧
        r.berths.a = (at' (2 * x.cabins), at' (2 * x.cabins + 1)) ∧
        r.berths.b = (at' (2 * x.cabins + 2), at' (2 * x.cabins + 3))) ∧
      (∀ k old, s.loop.cabins[k]? = some old → ∃ new c, t.loop.cabins[k]? = some new ∧ t.cabins[k]? = some c ∧
        accepted old.doorClosed new.doorClosed ((before k).map Prod.fst) (at' (2 * k)) ∧
        accepted old.latch new.latch ((before k).map Prod.snd) (at' (2 * k + 1)) ∧
        (new.conflict = true ↔ new.doorClosed = .notMade ∧ new.latch = .made) ∧
        c.door = match new.doorClosed, new.latch with
          | .unknown, _ => .unknown
          | _, .unknown => .unknown
          | .made, .made => .latched
          | .made, .notMade => .closed
          | .notMade, _ => .opened) ∧
      (∀ pf : Platform,
        let old := s.loop.berths.get pf
        let new := t.loop.berths.get pf
        let first := 2 * x.cabins + (if pf = .a then 0 else 2)
        let last := s.loop.newest.map fun r => r.berths.get pf
        accepted old.openStop new.openStop (last.map Prod.fst) (at' first) ∧
        accepted old.closedStop new.closedStop (last.map Prod.snd) (at' (first + 1)) ∧
        (new.conflict = true ↔ new.openStop = .made ∧ new.closedStop = .made) ∧
        new.position = match new.openStop, new.closedStop with
          | .unknown, _ => .unknown
          | _, .unknown => .unknown
          | .made, .notMade => .opened
          | .notMade, .made => .closed
          | .notMade, .notMade => .moving
          | .made, .made => .conflict) ∧
      (let begins (old new : Option Bool) : Bool := new.getD false && !old.getD false
       let conflict (k : Option Nat) (pf : Option Platform) (value : Int) : EventRecord :=
         { time := s.clock, kind := .contactConflict, cabin := k, platform := pf, source := none, grade := none
           value := value }
       let ofCabin (k : Nat) : List EventRecord :=
         if begins (s.loop.cabins[k]?.map LoopCabin.conflict) (t.loop.cabins[k]?.map LoopCabin.conflict)
         then [conflict (some k) none 0] else []
       let ofBerth (pf : Platform) : List EventRecord :=
         if (t.loop.berths.get pf).conflict && !(s.loop.berths.get pf).conflict
         then [conflict none (some pf) 1] else []
       let begun : List EventRecord := (List.range s.geometry.n).flatMap ofCabin ++ ofBerth .a ++ ofBerth .b
       let ended : State := { s with loop := { s.loop with scan := none } }
       let cleared : State :=
         if s.loop.loopFault then
           (State.append { ended with loop := { ended.loop with loopFault := false } }
             (plainRecord s .loopOk s.loop.failedCount)).setCondition .loopFault .none
         else ended
       let noted : State := begun.foldl State.append
         { cleared with
           loop := { t.loop with away := s.loop.away }
           cabins := s.cabins.mapIdx fun k c => { c with door := (t.loop.cabins[k]?.map LoopCabin.door).getD .unknown } }
       let follow (u : State) (pf : Platform) : State :=
         let q := u.sequencers.get pf
         let become (v : Visit) (st : VisitState) (timer : Option Nat) : State :=
           { u with sequencers :=
               u.sequencers.set pf { q with current := some { v with state := st }, actuatorTimer := timer } }
         match q.current with
         | none => u
         | some v =>
           if v.state = .opening ∧ (t.loop.berths.get pf).position = .opened ∧ u.doorOf v.cabin = .opened then
             askedIfAllowed (become v .opened none) pf
           else if v.state = .closing ∧ u.doorOf v.cabin = .latched then
             if v.late || v.positionLost then u.endVisit pf v
             else actuated u pf .close { q with current := some { v with state := .secured }, actuatorTimer := none }
           else if v.state = .secured ∧ s.doorOf v.cabin = .latched ∧ u.doorOf v.cabin ≠ .latched then
             become v .closing (some s.settings.actuatorTime)
           else u
       RecordedOf s t [.contactConflict] begun ∧
       t = (((follow (follow noted .a) .b).judgeAway).refresh)) ∧
      (∀ pf : Platform,
        let q := s.sequencers.get pf
        let r := t.sequencers.get pf
        (q.current = none → r = q) ∧
        ∀ v : Visit, q.current = some v →
          let door := t.doorOf v.cabin
          let moved (st : VisitState) (timer : Option Nat) : Sequencer :=
            { q with current := some { v with state := st }, actuatorTimer := timer }
          let reached : Prop := (t.loop.berths.get pf).position = .opened ∧ door = .opened
          let lost : Prop := v.late = true ∨ v.positionLost = true
          (v.state = .opening → reached → apartFromAssignment r = apartFromAssignment (moved .opened none)) ∧
          (v.state = .opening → ¬reached → r = q) ∧
          (v.state = .closing → door = .latched → ¬lost → r = moved .secured none) ∧
          (v.state = .closing → door = .latched → lost →
            r = { q with current := none, last := some v, actuatorTimer := none
                         doorLate := if v.late then false else q.doorLate }) ∧
          (v.state = .closing → door ≠ .latched → r = q) ∧
          (v.state = .secured → s.doorOf v.cabin = .latched → door ≠ .latched →
            r = moved .closing (some s.settings.actuatorTime)) ∧
          (v.state = .secured → s.doorOf v.cabin ≠ .latched ∨ door = .latched → r = q) ∧
          (v.state = .passing → r = q) ∧ (v.state = .opened → apartFromAssignment r = apartFromAssignment q)) ∧
      t.position = s.position ∧ t.plans = s.plans ∧ t.wind = s.wind ∧ t.store = s.store ∧ t.ports = s.ports ∧
      (s.loop.loopFault = true → (t.holds.table.get .loopFault).cond = .none ∧
        ∃ more : List EventRecord, Recorded s t (plainRecord s .loopOk s.loop.failedCount :: more))) ∧
  (∀ (s : State) (contacts : List Bool) (x : ScanInProgress), s.phase = .running →
    s.loop.scan = some x → x.stale = true → contacts.length = 2 * x.cabins + 4 →
    ∃ t : State, exec (.scanEnd Config.checkPattern contacts) s = .next t ∧ Formed t ∧
      Reacted
        { s with loop := { s.loop with scan := none, failedCount := 0, loopFault := false, away := t.loop.away } } t ∧
      (s.loop.loopFault = true → (t.holds.table.get .loopFault).cond = .none ∧
        ∃ more : List EventRecord, Recorded s t (plainRecord s .loopOk s.loop.failedCount :: more)))

/-- The output chain (R52, R54 to R56): a sequence starts with the field content as it stands, when that differs from the
sent content with none in progress, or at the refresh; its start restarts the refresh timer and ends a re-close pending,
which it carries; its end applies it, and the next starts at once where the content differs. A pulse (R119), the start of
a scan (R40) and a blink toggle (R52) change one thing each. The model's choices in this (DESIGN CHOICE, log 14): a start
that is not due, a refresh with a sequence in progress and an end with none in progress change nothing, and a scan still
in progress goes on as it began. -/
def Obligations.OutputChainAndCounters : Prop :=
  (∀ s : State, s.phase = .running →
     let x := s.output
     let lit (l : LampCode) : Bool :=
       l = .on || (l = .blinkA && x.blink = .a) || (l = .blinkB && x.blink = .b)
     let content (u : ImageUnit) : FieldUnit :=
       { actuator := u.actuator, green := lit u.lamps.green, amber := lit u.lamps.amber, red := lit u.lamps.red }
     let now : PerPlatform FieldUnit := { a := content x.image.a, b := content x.image.b }
     let reclosed (u : ImageUnit) : ImageUnit := if u.reclosePending then commanded u .close else u
     let started (y : Output) : Output :=
       { y with sent := now, inProgress := true, refreshTimer := 100
                image := { a := reclosed x.image.a, b := reclosed x.image.b } }
     let ended : Output := { x with applied := x.sent, inProgress := false }
     let becomes (i : Instr) (y : Output) : Prop := exec i s = .next { s with output := y }
     becomes .sequenceStart (if now ≠ x.sent ∧ x.inProgress = false then started x else x) ∧
     becomes .refreshExpiry (if x.inProgress = false then started x else x) ∧
     becomes .sequenceEnd
       (if x.inProgress = false then x else if now ≠ x.sent then started ended else ended)) ∧
  (∀ s : State, s.phase = .running →
     (∀ k : Sensor,
       let x := s.wind.sensors.get k
       let counted := s.wind.sensors.set k { x with openCount := min 1023 (x.openCount + 1) }
       exec (.anemometerPulse k) s = .next { s with wind := { s.wind with sensors := counted } }) ∧
     (∃ t : State, exec .scanStart s = .next t ∧
       t = { s with loop := { s.loop with scanTimer := s.settings.scanPeriod, scan := t.loop.scan } } ∧
       (s.loop.scan = none → t.loop.scan = some { cabins := s.geometry.n, stale := false }) ∧
       (s.loop.scan ≠ none → t.loop.scan = s.loop.scan)) ∧
     let other : BlinkPhase := if s.output.blink = .a then .b else .a
     exec .blinkToggle s = .next { s with output := { s.output with blink := other, blinkTimer := 500 } })

/-! ## Starts -/

/-- R187 and the power-on rules R17, R38, R57, R84, R101, R117, R134, R153, R169, R179, R184, R185: what a completed
power-on leaves, with the saved copy's configuration, its programmed grades brought into their ranges, its speeds within
its absolute maximum and each cabin's kind, capacity (brought into its kind's range) and auto-hold, or the defaults and
the CONFIG_DEFAULTED record where no copy is good. The time since a good report and the count of a sensor's last closed
window start at 0 (DESIGN CHOICE, log 5). That supply applied to a part that runs, and a power-on completed without a hold
in reset before it, act all the same is log 13's (DESIGN CHOICE). From the application of supply, from the RESTART line
held for 100 ms, and without supply, no port holds anything, no sequence and no save is in progress, and the brake is
demanded (R148, R179, R183). Without supply the RESTART line has no effect and no power-on completes (DESIGN CHOICE, log
13). -/
def Obligations.PowerOnAndResetHold : Prop :=
  (∀ (s : State) (openA openB strap : Bool),
     (s.phase = .off → exec (.powerOnComplete openA openB strap) s = .next s) ∧
     (s.phase ≠ .off → ∃ (t : State) (x : Settings), exec (.powerOnComplete openA openB strap) s = .next t ∧ Formed t ∧
       (s.store.slots.saved = none → x =
           { geometry := { n := 32, p := 36000, enter := 300, close := 200, exit := 400, beta := 18000, park := .a
                           roles := { a := .boardAlight, b := .off } }
             indexTolerance := 30, reverseAllowance := 200, disagreementTolerance := 50, alignTolerance := 20
             rideLength := 36000, scanPeriod := 50, actuatorTime := 2000, closeRetries := 1, passLimit := 3
             partyLimit := 4, factors := { crown := 1024, deck := 1024 }, stallTime := 120, stallReference := 30
             classes := { c1 := { ug := 100, um := 70, dg := 90, dm := 60, q := 300 }
                          c2 := { ug := 140, um := 100, dg := 125, dm := 90, q := 600 }
                          c3 := { ug := 170, um := 120, dg := 150, dm := 110, q := 900 }
                          c4 := { ug := 220, um := 160, dg := 200, dm := 145, q := 1200 } }
             programmed := { windSensor := .park, platformStopA := .stop, platformStopB := .stop, loopFault := .stop
                             disagree := .stop, planEnd := .unload, berthMiss := .park }
             auto := { wind := true, windSensor := false, position := true, planEnd := false }
             speeds := { absolute := 60, limit := 40, unload := 40, boarding := 25, step := 20, homing := 15 }
             silenceTime := 500, deceleration := 2 } ∧
         t.cabins.length = 32 ∧
         (∀ c ∈ t.cabins, c.kind = .standard ∧ c.capacity = 25 ∧ c.autoHold = false) ∧
         t.events.records = [{ time := 0, kind := .configDefaulted, cabin := none, platform := none, source := none
                               grade := none, value := 0 }]) ∧
       (∀ slot copy, s.store.slots.saved = some (slot, copy) →
         let c := copy.settings
         let within (lo hi g : Grade) : Grade := if g.value < lo.value then lo else if hi.value < g.value then hi else g
         let most := c.speeds.absolute
         x = { c with
           programmed :=
             { windSensor := within .unload .stop c.programmed.windSensor
               platformStopA := within .stop .brake c.programmed.platformStopA
               platformStopB := within .stop .brake c.programmed.platformStopB
               loopFault := within .stop .brake c.programmed.loopFault
               disagree := within .park .stop c.programmed.disagree
               planEnd := within .none .park c.programmed.planEnd
               berthMiss := within .none .park c.programmed.berthMiss }
           speeds :=
             { absolute := most, limit := min most c.speeds.limit, unload := min most c.speeds.unload
               boarding := min most c.speeds.boarding, step := min most c.speeds.step
               homing := min most c.speeds.homing } } ∧
         t.cabins.length = x.geometry.n ∧
         (∀ (k : Nat) (y : CabinConfig), k < x.geometry.n → copy.cabins[k]? = some y →
           ∃ d, t.cabins[k]? = some d ∧ d.kind = y.kind ∧ d.autoHold = y.autoHold ∧
             d.capacity = max 1 (min (match y.kind with
               | .standard => 28
               | .accessible => 10
               | .letOut => 40) y.capacity)) ∧
         t.events.records = []) ∧
       (∀ c ∈ t.cabins, c.service = .inService ∧ c.gate = .opened ∧ c.openOnce = false ∧ c.pendingGate = none ∧
         c.pendingService = none ∧ c.occupancy = 0 ∧ c.occupancyUnknown = true ∧ c.boardedAt = none ∧ c.parties = [] ∧
         c.door = .unknown ∧ c.inVisit = none) ∧
       t.position =
         { theta := 0, tau := 0, lastDirection := .none, verified := false, reverseRun := 0
           closedWindows := { w1 := 0, w2 := 0, w3 := 0, w4 := 0 }, openWindow := 0, v := 0, revolutions := 0
           disagreementRun := 0, agreementRun := 0, disagree := false, windowTimer := 250
           stillCrossed := []
           points := { enter := x.geometry.enter, close := x.geometry.close, exit := x.geometry.exit
                       beta := x.geometry.beta, roles := x.geometry.roles, park := x.geometry.park } } ∧
       (∀ pf : Platform, t.sequencers.get pf =
         { current := none, last := none, visitNumber := 0, actuatorTimer := none, doorLate := false }) ∧
       (∀ pf : Platform, t.queues.get pf = { entries := [], outCount := 0 }) ∧
       (let bank : Bank := { mode := .repeating, count := 1, speed := x.speeds.absolute, stopOnMiss := false
                             ready := false, run := 0, edits := 0, entries := [] }
        t.plans = { bank0 := bank, bank1 := bank, oneActive := false, swapPending := false, planEnd := false }) ∧
       (let berth : LoopBerth :=
          { openStop := .unknown, closedStop := .unknown, conflict := false, position := .unknown }
        t.loop =
          { scanTimer := x.scanPeriod, scan := none, newest := none, previous := none
            cabins := List.replicate x.geometry.n { doorClosed := .unknown, latch := .unknown, conflict := false }
            berths := { a := berth, b := berth }, failedCount := 0, loopFault := false, away := [] }) ∧
       (let sensor : Anemometer :=
          { openCount := 0, lastCount := 0, windowRing := [], secondRing := [], gust := 0, mean := 0, faulted := false
            stallTimer := 0, overrangeRun := 0, recoveryRun := 0 }
        t.wind =
          { sensors := { crown := sensor, deck := sensor }, windowEnds := 0, groupPosition := 0, gust := 0, mean := 0
            sensorCondition := false, windClass := .pending, quietTimer := 0 }) ∧
       (let dark : FieldUnit := { actuator := .close, green := false, amber := false, red := false }
        t.output.sent = { a := dark, b := dark } ∧ t.output.applied = { a := dark, b := dark }) ∧
       t.output.blink = .a ∧ t.output.inProgress = false ∧ t.output.blinkTimer = 500 ∧ t.output.refreshTimer = 100 ∧
       (∀ pf : Platform, (t.output.image.get pf).actuator = .close ∧
         (t.output.image.get pf).lamps = { green := .off, amber := .off, red := .on } ∧
         (t.output.image.get pf).reclosePending = false) ∧
       (∀ src : Source,
         let r := t.holds.table.get src
         r.floor = (if src = .powerOn then .stop else .none) ∧ r.peak = r.cond ∧
         r.cond = if src = .position ∨ src = .wind then .unload
           else if src = .platformStopA ∧ openA then x.programmed.platformStopA
           else if src = .platformStopB ∧ openB then x.programmed.platformStopB else .none) ∧
       HoldsDerived t ∧
       t.stops = { a := { lineOpen := openA, request := false }, b := { lineOpen := openB, request := false } } ∧
       t.unload = { occupied := t.cabins.length, complete := false } ∧
       t.permit = { drive := { speed := 0, position := none, state := none, brakeReleased := false }
                    silenceTimer := some x.silenceTime, sinceReport := 0, driveSilent := false, driveFault := false
                    ceiling := 0, park := none } ∧
       t.ports = { states := { drive := .hunt, platformA := .hunt, platformB := .hunt, controlRoom := .hunt }
                   rate := if strap then .baud115200 else .baud57600 } ∧
       t.store = { working := x, slots := s.store.slots, saving := none, lock := false } ∧
       t.events.rollover = false ∧ t.clock = 0 ∧ t.phase = .running)) ∧
  (∀ s : State,
     let held (phase : Phase) : State :=
       { s with
         phase := phase
         ports := { s.ports with states :=
                      { drive := .hunt, platformA := .hunt, platformB := .hunt, controlRoom := .hunt } }
         output := { s.output with inProgress := false }
         store := { s.store with saving := none }
         brakeDemand := true }
     exec .supplyOn s = .next (held .heldInReset) ∧ exec .supplyLoss s = .next (held .off) ∧
     (s.phase = .off → exec .restartLineHeld s = .next s) ∧
     (s.phase ≠ .off → exec .restartLineHeld s = .next (held .heldInReset)))

/-- RESTART is accepted and acts at the end of its reply; a warm restart (R188, R39, R58, R85, R102, R144, R154, R170,
R180) returns the ports to HUNT, the platforms to VACANT and the queues to empty, ends each cabin's visit with steps 3 to
6 of R29, judges the away set as it does so (R58), commands CLOSE, restarts the silence timer and clears DRIVE_SILENT,
records RESTARTED and delivers RESTART its event at STOP; everything else is kept. RESTARTED is the first record, but for
those of a door that becomes away as its visit ends: DOOR_AWAY's HOLD_RAISED, and UNLOAD_COMPLETE where that rise
completes an unload. A port in REPLY loses its reply, that to an accepted RESTART too when a line pulse comes first
(DESIGN CHOICE, log 28). It is so of a part that runs, and of one whose restart a RESTART request has made due (R188):
that this is a phase of its own is log 9's (DESIGN CHOICE), and so is a restart by the cause REQUEST on a part that runs.
-/
def Obligations.WarmRestartKeepsWhatItNames : Prop :=
  (∀ s : State, Ready s .controlRoom → ∃ t : State, exec (.restart .controlRoom) s = .next t ∧
    RepliedOnly s t .controlRoom 0x4F .accepted []) ∧
  (∀ (s : State) (cause : RestartCause),
    s.phase = .running ∨ (s.phase = .restartDue ∧ cause = .request) → HoldsDerived s →
    ∃ t : State, exec (.warmRestart cause) s = .next t ∧ Formed t ∧
      let fresh : Sequencer :=
        { current := none, last := none, visitNumber := 0, actuatorTimer := none, doorLate := false }
      let empty : Queue := { entries := [], outCount := 0 }
      t = { s with
        phase := .running
        ports := { s.ports with states :=
                     { drive := .hunt, platformA := .hunt, platformB := .hunt, controlRoom := .hunt } }
        sequencers := { a := fresh, b := fresh }
        queues := { a := empty, b := empty }
        cabins := t.cabins
        loop := { s.loop with away := t.loop.away }
        output := { s.output with image := t.output.image }
        permit := { s.permit with silenceTimer := some s.settings.silenceTime, driveSilent := false
                                  park := t.permit.park, ceiling := 0 }
        holds := t.holds, unload := { s.unload with complete := t.unload.complete }, events := t.events
        brakeDemand := t.brakeDemand } ∧
      (∀ pf : Platform, (t.output.image.get pf).actuator = .close ∧ (t.output.image.get pf).reclosePending = false) ∧
      (∀ (k : Nat) (c : Cabin), s.cabins[k]? = some c → ∃ d, t.cabins[k]? = some d ∧ d.inVisit = none ∧
        d.occupancy = c.occupancy ∧ d.occupancyUnknown = c.occupancyUnknown ∧ d.boardedAt = c.boardedAt ∧
        d.parties = c.parties ∧ d.door = c.door ∧ d.kind = c.kind ∧ d.capacity = c.capacity ∧
        d.autoHold = c.autoHold ∧ (c.inVisit = none → d = c) ∧
        let gated : Cabin := match c.pendingGate with
          | none => c
          | some .hold => { c with gate := .hold, openOnce := false }
          | some .opened => { c with gate := .opened, openOnce := false }
          | some .openOnce => { c with openOnce := true }
        let empty : Bool := c.occupancy = 0 && !c.occupancyUnknown
        let asked : Service := match c.pendingService with
          | none => c.service
          | some .restore => .inService
          | some .withdraw =>
            if c.service = .inService then (if empty then .withdrawn else .withdrawPending) else c.service
        c.inVisit ≠ none →
          d = { gated with service := if asked = .withdrawPending ∧ empty then .withdrawn else asked
                           pendingGate := none, pendingService := none, inVisit := none }) ∧
      (let old := s.holds.table.get .doorAway
       let raised : Bool := (t.holds.table.get .doorAway).latched ≠ old.latched
       let about (kind : EventKind) (src : Option Source) (value : Int) : EventRecord :=
         { time := s.clock, kind := kind, cabin := none, platform := none, source := src, grade := some .brake
           value := value }
       let away : List EventRecord :=
         (if raised then [about .holdRaised (some .doorAway) old.latched.value] else []) ++
         (if raised && s.holds.held ≠ .brake && s.unload.occupied = 0 && !s.unload.complete then
           [about .unloadComplete none 0] else [])
       ∃ more : List EventRecord, Recorded s t
         (away ++ plainRecord s .restarted (match cause with
           | .request => 0
           | .linePulse => 1) :: more)) ∧
      (t.loop.away = [] ↔ ∀ (k : Nat) (c : Cabin), t.cabins[k]? = some c → ¬AwayCabin t k c) ∧
      t.holds.table.get .restart = { s.holds.table.get .restart with
        floor := (s.holds.table.get .restart).floor.max .stop, latched := (t.holds.table.get .restart).latched } ∧
      (t.holds.table.get .doorLate).cond = .none ∧ (t.holds.table.get .driveSilent).cond = .none ∧
      (∀ src : Source, src ∉ [.restart, .doorLate, .driveSilent, .doorAway] →
        t.holds.table.get src = s.holds.table.get src))

/-! ## The park record -/

/-- A change of the held grade to PARK creates a park record in PARKING, with the target of R163 (`State.parkTarget`), 0
steps and the park platform's offset, and makes its parked test (R162, R165); a change from PARK removes it; nothing else
of a change of a source touches it. OPERATOR HOLD of PARK from below and a HOLD RELEASE from above are two such changes.
The tests of a tick: an overshoot delivers PARK_OVERSHOOT its event, which removes the record (R166); a PARKED record the
wheel has left backward returns to PARKING; one in PARKING or STEPPING within T_align with v at 0 is PARKED and recorded
(R165). A window end makes the parked test after v is formed, ahead of the wind (DESIGN CHOICE, log 7). The edge that
verifies the position computes the target of a record that is not PARKED afresh, makes the tests against it, and leaves a
PARKED record as it stands (R167); that INDEX, the target, POSITION's condition, the tests and the away set come in this
order is the model's (DESIGN CHOICE, log 7). The park platform and its offset are those in force at the creation (R15;
DEDUCED, log 8). -/
def Obligations.ParkRecordFollowsItsTests : Prop :=
  let aligned (s : State) (r : ParkRecord) : Bool :=
    (r.target - s.position.tau).toInt.natAbs ≤ s.settings.alignTolerance && s.position.v = 0
  let begun (s : State) : ParkRecord :=
    if aligned s (freshPark s) then { freshPark s with state := .parked } else freshPark s
  let created (s t : State) : Prop :=
    t.permit.park = some (begun s) ∧
    RecordedOf s t [.parked] (if aligned s (freshPark s) then [parkedRecord s (freshPark s)] else [])
  let become (s : State) (r : Option ParkRecord) : State := { s with permit := { s.permit with park := r } }
  let parked (s : State) (r : ParkRecord) : State :=
    (become s (some { r with state := .parked })).append (parkedRecord s r)
  (∀ (s : State) (src : Source) (f : HoldRecord → HoldRecord),
    let t := s.changeSource src f
    (s.holds.held ≠ .park → t.holds.held = .park → created s t) ∧
    (s.holds.held = .park → t.holds.held ≠ .park → t.permit.park = none ∧ RecordedOf s t [.parked] []) ∧
    ((s.holds.held = .park ↔ t.holds.held = .park) →
      t.permit.park = s.permit.park ∧ RecordedOf s t [.parked] [])) ∧
  (∀ s : State, Ready s .controlRoom → HoldsDerived s →
    (s.holds.held.value < 3 →
      ∃ t : State, exec (.operatorHold .controlRoom 3) s = .next t ∧ t.holds.held = .park ∧ created s t) ∧
    ∀ source : Nat, ∃ t : State, exec (.holdRelease .controlRoom source) s = .next t ∧
      (s.holds.held ≠ .park → t.holds.held = .park → created s t) ∧
      (s.holds.held = .park → t.holds.held ≠ .park → t.permit.park = none)) ∧
  (∀ s : State, HoldsDerived s → ParkKept s →
    let t := s.parkTests
    (s.permit.park = none → t = s) ∧
    ∀ r : ParkRecord, s.permit.park = some r →
      let remainder : Int := (r.target - s.position.tau).toInt
      let tolerance : Int := s.settings.alignTolerance
      (remainder < -tolerance →
        HoldFrame s t [.parkOvershoot] ∧ t.permit.park = none ∧ t.holds.held = .stop ∧
        t.holds.table.get .parkOvershoot =
          { s.holds.table.get .parkOvershoot with floor := .stop, latched := .stop }) ∧
      (r.state = .parked → tolerance < remainder → t = become s (some { r with state := .parking })) ∧
      (r.state = .parked → -tolerance ≤ remainder → remainder ≤ tolerance → t = s) ∧
      (r.state ≠ .parked → aligned s r = true → t = parked s r) ∧
      (r.state ≠ .parked → -tolerance ≤ remainder → aligned s r = false → t = s)) ∧
  (∀ s : State,
    (∀ r : ParkRecord, s.permit.park = some r → r.state ≠ .parked → aligned s r = true → s.parkedTest = parked s r) ∧
    ((∀ r : ParkRecord, s.permit.park = some r → r.state = .parked ∨ aligned s r = false) → s.parkedTest = s) ∧
    s.movedTests false = s ∧
    ((∀ r : ParkRecord, s.permit.park = some r → r.state ≠ .parked) → s.movedTests true = s.parkTests)) ∧
  (∀ s : State, s.phase = .running →
    (∃ t : State, exec .windowEnd s = .next t ∧
      t = ((State.parkedTest { s with position := t.position }).windWindow).refresh) ∧
    (s.position.lastDirection = .forward → s.position.verified = false →
      ∃ t : State, exec .indexEdge s = .next t ∧
        let edge : State := State.append { s with position := { s.position with theta := 0, verified := true } }
          (plainRecord s .index 0)
        ((∀ r : ParkRecord, s.permit.park = some r → r.state = .parked) →
          t = ((edge.formPosition).judgeAway).refresh) ∧
        (∀ r : ParkRecord, s.permit.park = some r → r.state ≠ .parked →
          let afresh := become edge (some { r with target := edge.parkTarget r.offset })
          t = (((afresh.formPosition).movedTests true).judgeAway).refresh)))

end
end

