-- ==== Sys2Proof/Laws/Access.lean ====
section
/-! SUPPORT. Reading what was written by name: platforms, sensors, ports, hold sources, banks. -/

namespace Sys2Proof.Machine

@[simp] theorem PerPlatform.get_set_same {α : Type} (x : PerPlatform α) (pf : Platform) (v : α) :
    (x.set pf v).get pf = v := by cases pf <;> rfl

theorem PerPlatform.get_set_other {α : Type} (x : PerPlatform α) {pf pf' : Platform} (v : α) (h : pf' ≠ pf) :
    (x.set pf v).get pf' = x.get pf' := by cases pf <;> cases pf' <;> first | rfl | exact absurd rfl h

@[simp] theorem PerSensor.get_set_same {α : Type} (x : PerSensor α) (k : Sensor) (v : α) :
    (x.set k v).get k = v := by cases k <;> rfl

theorem PerSensor.get_set_other {α : Type} (x : PerSensor α) {k k' : Sensor} (v : α) (h : k' ≠ k) :
    (x.set k v).get k' = x.get k' := by cases k <;> cases k' <;> first | rfl | exact absurd rfl h

@[simp] theorem PerPort.get_set_same {α : Type} (x : PerPort α) (p : Port) (v : α) :
    (x.set p v).get p = v := by cases p <;> rfl

theorem PerPort.get_set_other {α : Type} (x : PerPort α) {p q : Port} (v : α) (h : q ≠ p) :
    (x.set p v).get q = x.get q := by cases p <;> cases q <;> first | rfl | exact absurd rfl h

@[simp] theorem HoldTable.get_set_same (t : HoldTable) (src : Source) (r : HoldRecord) :
    (t.set src r).get src = r := by cases src <;> rfl

theorem HoldTable.get_set_other (t : HoldTable) {src other : Source} (r : HoldRecord) (h : other ≠ src) :
    (t.set src r).get other = t.get other := by
  cases src <;> cases other <;> first | rfl | exact absurd rfl h

@[simp] theorem Plans.active_setStandby (x : Plans) (k : Bank) : (x.setStandby k).active = x.active := by
  unfold Plans.active Plans.setStandby
  cases x.oneActive <;> rfl

@[simp] theorem Plans.standby_setStandby (x : Plans) (k : Bank) : (x.setStandby k).standby = k := by
  unfold Plans.standby Plans.setStandby
  cases h : x.oneActive <;> simp

@[simp] theorem Plans.active_setActive (x : Plans) (k : Bank) : (x.setActive k).active = k := by
  unfold Plans.active Plans.setActive
  cases h : x.oneActive <;> simp

/-- `signedMod` is congruent to its argument and lies in (−P/2, P/2]. -/
theorem signedMod_range (x : Int) (p : Nat) (hp : 0 < p) :
    -(p : Int) < 2 * signedMod x p ∧ 2 * signedMod x p ≤ p ∧ (signedMod x p - x) % (p : Int) = 0 := by
  have hp' : (0 : Int) < p := by omega
  have h0 := Int.emod_nonneg x (by omega : (p : Int) ≠ 0)
  have h1 := Int.emod_lt_of_pos x hp'
  have hd : x % (p : Int) = x - p * (x / p) := by have := Int.mul_ediv_add_emod x p; omega
  unfold signedMod
  simp only
  split
  · refine ⟨by omega, by omega, ?_⟩
    rw [hd]
    have : x - (p : Int) * (x / p) - x = p * (-(x / p)) := by ring
    rw [this, Int.mul_emod_right]
  · refine ⟨by omega, by omega, ?_⟩
    rw [hd]
    have : x - (p : Int) * (x / p) - p - x = p * (-(x / p) - 1) := by ring
    rw [this, Int.mul_emod_right]

/-- The grade order is the order of values: the greater of two grades has the greater value. -/
@[simp] theorem Grade.value_max (g h : Grade) : (g.max h).value = Nat.max g.value h.value := by
  cases g <;> cases h <;> rfl

/-- A grade is determined by its value. -/
theorem Grade.value_injective {g h : Grade} (e : g.value = h.value) : g = h := by
  cases g <;> cases h <;> first | rfl | simp [Grade.value] at e

end Sys2Proof.Machine
end

