-- ==== Sys2Proof/Laws/State.lean ====
section
/-! SUPPORT. For every named update of State, what each field holds after it: one lemma a field, true by rfl. -/

namespace Sys2Proof.Machine

/-! ### State.setSequencer -/

@[simp] theorem State.setSequencer_phase (s : State) (pf : Platform) (q : Sequencer) :
    (s.setSequencer pf q).phase = s.phase := rfl
@[simp] theorem State.setSequencer_position (s : State) (pf : Platform) (q : Sequencer) :
    (s.setSequencer pf q).position = s.position := rfl
@[simp] theorem State.setSequencer_cabins (s : State) (pf : Platform) (q : Sequencer) :
    (s.setSequencer pf q).cabins = s.cabins := rfl
@[simp] theorem State.setSequencer_loop (s : State) (pf : Platform) (q : Sequencer) :
    (s.setSequencer pf q).loop = s.loop := rfl
@[simp] theorem State.setSequencer_output (s : State) (pf : Platform) (q : Sequencer) :
    (s.setSequencer pf q).output = s.output := rfl
@[simp] theorem State.setSequencer_sequencers (s : State) (pf : Platform) (q : Sequencer) :
    (s.setSequencer pf q).sequencers = s.sequencers.set pf q := rfl
@[simp] theorem State.setSequencer_queues (s : State) (pf : Platform) (q : Sequencer) :
    (s.setSequencer pf q).queues = s.queues := rfl
@[simp] theorem State.setSequencer_plans (s : State) (pf : Platform) (q : Sequencer) :
    (s.setSequencer pf q).plans = s.plans := rfl
@[simp] theorem State.setSequencer_wind (s : State) (pf : Platform) (q : Sequencer) :
    (s.setSequencer pf q).wind = s.wind := rfl
@[simp] theorem State.setSequencer_holds (s : State) (pf : Platform) (q : Sequencer) :
    (s.setSequencer pf q).holds = s.holds := rfl
@[simp] theorem State.setSequencer_stops (s : State) (pf : Platform) (q : Sequencer) :
    (s.setSequencer pf q).stops = s.stops := rfl
@[simp] theorem State.setSequencer_unload (s : State) (pf : Platform) (q : Sequencer) :
    (s.setSequencer pf q).unload = s.unload := rfl
@[simp] theorem State.setSequencer_permit (s : State) (pf : Platform) (q : Sequencer) :
    (s.setSequencer pf q).permit = s.permit := rfl
@[simp] theorem State.setSequencer_ports (s : State) (pf : Platform) (q : Sequencer) :
    (s.setSequencer pf q).ports = s.ports := rfl
@[simp] theorem State.setSequencer_store (s : State) (pf : Platform) (q : Sequencer) :
    (s.setSequencer pf q).store = s.store := rfl
@[simp] theorem State.setSequencer_events (s : State) (pf : Platform) (q : Sequencer) :
    (s.setSequencer pf q).events = s.events := rfl
@[simp] theorem State.setSequencer_clock (s : State) (pf : Platform) (q : Sequencer) :
    (s.setSequencer pf q).clock = s.clock := rfl
@[simp] theorem State.setSequencer_brakeDemand (s : State) (pf : Platform) (q : Sequencer) :
    (s.setSequencer pf q).brakeDemand = s.brakeDemand := rfl
@[simp] theorem State.setSequencer_pending (s : State) (pf : Platform) (q : Sequencer) :
    (s.setSequencer pf q).pending = s.pending := rfl

/-! ### State.setVisit -/

@[simp] theorem State.setVisit_phase (s : State) (pf : Platform) (v : Visit) :
    (s.setVisit pf v).phase = s.phase := rfl
@[simp] theorem State.setVisit_position (s : State) (pf : Platform) (v : Visit) :
    (s.setVisit pf v).position = s.position := rfl
@[simp] theorem State.setVisit_cabins (s : State) (pf : Platform) (v : Visit) :
    (s.setVisit pf v).cabins = s.cabins := rfl
@[simp] theorem State.setVisit_loop (s : State) (pf : Platform) (v : Visit) : (s.setVisit pf v).loop = s.loop := rfl
@[simp] theorem State.setVisit_output (s : State) (pf : Platform) (v : Visit) :
    (s.setVisit pf v).output = s.output := rfl
@[simp] theorem State.setVisit_sequencers (s : State) (pf : Platform) (v : Visit) :
    (s.setVisit pf v).sequencers = s.sequencers.set pf { s.sequencers.get pf with current := some v } := rfl
@[simp] theorem State.setVisit_queues (s : State) (pf : Platform) (v : Visit) :
    (s.setVisit pf v).queues = s.queues := rfl
@[simp] theorem State.setVisit_plans (s : State) (pf : Platform) (v : Visit) :
    (s.setVisit pf v).plans = s.plans := rfl
@[simp] theorem State.setVisit_wind (s : State) (pf : Platform) (v : Visit) : (s.setVisit pf v).wind = s.wind := rfl
@[simp] theorem State.setVisit_holds (s : State) (pf : Platform) (v : Visit) :
    (s.setVisit pf v).holds = s.holds := rfl
@[simp] theorem State.setVisit_stops (s : State) (pf : Platform) (v : Visit) :
    (s.setVisit pf v).stops = s.stops := rfl
@[simp] theorem State.setVisit_unload (s : State) (pf : Platform) (v : Visit) :
    (s.setVisit pf v).unload = s.unload := rfl
@[simp] theorem State.setVisit_permit (s : State) (pf : Platform) (v : Visit) :
    (s.setVisit pf v).permit = s.permit := rfl
@[simp] theorem State.setVisit_ports (s : State) (pf : Platform) (v : Visit) :
    (s.setVisit pf v).ports = s.ports := rfl
@[simp] theorem State.setVisit_store (s : State) (pf : Platform) (v : Visit) :
    (s.setVisit pf v).store = s.store := rfl
@[simp] theorem State.setVisit_events (s : State) (pf : Platform) (v : Visit) :
    (s.setVisit pf v).events = s.events := rfl
@[simp] theorem State.setVisit_clock (s : State) (pf : Platform) (v : Visit) :
    (s.setVisit pf v).clock = s.clock := rfl
@[simp] theorem State.setVisit_brakeDemand (s : State) (pf : Platform) (v : Visit) :
    (s.setVisit pf v).brakeDemand = s.brakeDemand := rfl
@[simp] theorem State.setVisit_pending (s : State) (pf : Platform) (v : Visit) :
    (s.setVisit pf v).pending = s.pending := rfl

/-! ### State.setTimer -/

@[simp] theorem State.setTimer_phase (s : State) (pf : Platform) (t : Option Nat) :
    (s.setTimer pf t).phase = s.phase := rfl
@[simp] theorem State.setTimer_position (s : State) (pf : Platform) (t : Option Nat) :
    (s.setTimer pf t).position = s.position := rfl
@[simp] theorem State.setTimer_cabins (s : State) (pf : Platform) (t : Option Nat) :
    (s.setTimer pf t).cabins = s.cabins := rfl
@[simp] theorem State.setTimer_loop (s : State) (pf : Platform) (t : Option Nat) :
    (s.setTimer pf t).loop = s.loop := rfl
@[simp] theorem State.setTimer_output (s : State) (pf : Platform) (t : Option Nat) :
    (s.setTimer pf t).output = s.output := rfl
@[simp] theorem State.setTimer_sequencers (s : State) (pf : Platform) (t : Option Nat) :
    (s.setTimer pf t).sequencers = s.sequencers.set pf { s.sequencers.get pf with actuatorTimer := t } := rfl
@[simp] theorem State.setTimer_queues (s : State) (pf : Platform) (t : Option Nat) :
    (s.setTimer pf t).queues = s.queues := rfl
@[simp] theorem State.setTimer_plans (s : State) (pf : Platform) (t : Option Nat) :
    (s.setTimer pf t).plans = s.plans := rfl
@[simp] theorem State.setTimer_wind (s : State) (pf : Platform) (t : Option Nat) :
    (s.setTimer pf t).wind = s.wind := rfl
@[simp] theorem State.setTimer_holds (s : State) (pf : Platform) (t : Option Nat) :
    (s.setTimer pf t).holds = s.holds := rfl
@[simp] theorem State.setTimer_stops (s : State) (pf : Platform) (t : Option Nat) :
    (s.setTimer pf t).stops = s.stops := rfl
@[simp] theorem State.setTimer_unload (s : State) (pf : Platform) (t : Option Nat) :
    (s.setTimer pf t).unload = s.unload := rfl
@[simp] theorem State.setTimer_permit (s : State) (pf : Platform) (t : Option Nat) :
    (s.setTimer pf t).permit = s.permit := rfl
@[simp] theorem State.setTimer_ports (s : State) (pf : Platform) (t : Option Nat) :
    (s.setTimer pf t).ports = s.ports := rfl
@[simp] theorem State.setTimer_store (s : State) (pf : Platform) (t : Option Nat) :
    (s.setTimer pf t).store = s.store := rfl
@[simp] theorem State.setTimer_events (s : State) (pf : Platform) (t : Option Nat) :
    (s.setTimer pf t).events = s.events := rfl
@[simp] theorem State.setTimer_clock (s : State) (pf : Platform) (t : Option Nat) :
    (s.setTimer pf t).clock = s.clock := rfl
@[simp] theorem State.setTimer_brakeDemand (s : State) (pf : Platform) (t : Option Nat) :
    (s.setTimer pf t).brakeDemand = s.brakeDemand := rfl
@[simp] theorem State.setTimer_pending (s : State) (pf : Platform) (t : Option Nat) :
    (s.setTimer pf t).pending = s.pending := rfl

/-! ### State.setQueue -/

@[simp] theorem State.setQueue_phase (s : State) (pf : Platform) (q : Queue) :
    (s.setQueue pf q).phase = s.phase := rfl
@[simp] theorem State.setQueue_position (s : State) (pf : Platform) (q : Queue) :
    (s.setQueue pf q).position = s.position := rfl
@[simp] theorem State.setQueue_cabins (s : State) (pf : Platform) (q : Queue) :
    (s.setQueue pf q).cabins = s.cabins := rfl
@[simp] theorem State.setQueue_loop (s : State) (pf : Platform) (q : Queue) : (s.setQueue pf q).loop = s.loop := rfl
@[simp] theorem State.setQueue_output (s : State) (pf : Platform) (q : Queue) :
    (s.setQueue pf q).output = s.output := rfl
@[simp] theorem State.setQueue_sequencers (s : State) (pf : Platform) (q : Queue) :
    (s.setQueue pf q).sequencers = s.sequencers := rfl
@[simp] theorem State.setQueue_queues (s : State) (pf : Platform) (q : Queue) :
    (s.setQueue pf q).queues = s.queues.set pf q := rfl
@[simp] theorem State.setQueue_plans (s : State) (pf : Platform) (q : Queue) :
    (s.setQueue pf q).plans = s.plans := rfl
@[simp] theorem State.setQueue_wind (s : State) (pf : Platform) (q : Queue) : (s.setQueue pf q).wind = s.wind := rfl
@[simp] theorem State.setQueue_holds (s : State) (pf : Platform) (q : Queue) :
    (s.setQueue pf q).holds = s.holds := rfl
@[simp] theorem State.setQueue_stops (s : State) (pf : Platform) (q : Queue) :
    (s.setQueue pf q).stops = s.stops := rfl
@[simp] theorem State.setQueue_unload (s : State) (pf : Platform) (q : Queue) :
    (s.setQueue pf q).unload = s.unload := rfl
@[simp] theorem State.setQueue_permit (s : State) (pf : Platform) (q : Queue) :
    (s.setQueue pf q).permit = s.permit := rfl
@[simp] theorem State.setQueue_ports (s : State) (pf : Platform) (q : Queue) :
    (s.setQueue pf q).ports = s.ports := rfl
@[simp] theorem State.setQueue_store (s : State) (pf : Platform) (q : Queue) :
    (s.setQueue pf q).store = s.store := rfl
@[simp] theorem State.setQueue_events (s : State) (pf : Platform) (q : Queue) :
    (s.setQueue pf q).events = s.events := rfl
@[simp] theorem State.setQueue_clock (s : State) (pf : Platform) (q : Queue) :
    (s.setQueue pf q).clock = s.clock := rfl
@[simp] theorem State.setQueue_brakeDemand (s : State) (pf : Platform) (q : Queue) :
    (s.setQueue pf q).brakeDemand = s.brakeDemand := rfl
@[simp] theorem State.setQueue_pending (s : State) (pf : Platform) (q : Queue) :
    (s.setQueue pf q).pending = s.pending := rfl

/-! ### State.setPort -/

@[simp] theorem State.setPort_phase (s : State) (p : Port) (x : PortState) : (s.setPort p x).phase = s.phase := rfl
@[simp] theorem State.setPort_position (s : State) (p : Port) (x : PortState) :
    (s.setPort p x).position = s.position := rfl
@[simp] theorem State.setPort_cabins (s : State) (p : Port) (x : PortState) : (s.setPort p x).cabins = s.cabins := rfl
@[simp] theorem State.setPort_loop (s : State) (p : Port) (x : PortState) : (s.setPort p x).loop = s.loop := rfl
@[simp] theorem State.setPort_output (s : State) (p : Port) (x : PortState) : (s.setPort p x).output = s.output := rfl
@[simp] theorem State.setPort_sequencers (s : State) (p : Port) (x : PortState) :
    (s.setPort p x).sequencers = s.sequencers := rfl
@[simp] theorem State.setPort_queues (s : State) (p : Port) (x : PortState) : (s.setPort p x).queues = s.queues := rfl
@[simp] theorem State.setPort_plans (s : State) (p : Port) (x : PortState) : (s.setPort p x).plans = s.plans := rfl
@[simp] theorem State.setPort_wind (s : State) (p : Port) (x : PortState) : (s.setPort p x).wind = s.wind := rfl
@[simp] theorem State.setPort_holds (s : State) (p : Port) (x : PortState) : (s.setPort p x).holds = s.holds := rfl
@[simp] theorem State.setPort_stops (s : State) (p : Port) (x : PortState) : (s.setPort p x).stops = s.stops := rfl
@[simp] theorem State.setPort_unload (s : State) (p : Port) (x : PortState) : (s.setPort p x).unload = s.unload := rfl
@[simp] theorem State.setPort_permit (s : State) (p : Port) (x : PortState) : (s.setPort p x).permit = s.permit := rfl
@[simp] theorem State.setPort_ports (s : State) (p : Port) (x : PortState) :
    (s.setPort p x).ports = { s.ports with states := s.ports.states.set p x } := rfl
@[simp] theorem State.setPort_store (s : State) (p : Port) (x : PortState) : (s.setPort p x).store = s.store := rfl
@[simp] theorem State.setPort_events (s : State) (p : Port) (x : PortState) : (s.setPort p x).events = s.events := rfl
@[simp] theorem State.setPort_clock (s : State) (p : Port) (x : PortState) : (s.setPort p x).clock = s.clock := rfl
@[simp] theorem State.setPort_brakeDemand (s : State) (p : Port) (x : PortState) :
    (s.setPort p x).brakeDemand = s.brakeDemand := rfl
@[simp] theorem State.setPort_pending (s : State) (p : Port) (x : PortState) :
    (s.setPort p x).pending = s.pending := rfl

/-! ### State.modifyCabin -/

@[simp] theorem State.modifyCabin_phase (s : State) (k : Nat) (f : Cabin → Cabin) :
    (s.modifyCabin k f).phase = s.phase := rfl
@[simp] theorem State.modifyCabin_position (s : State) (k : Nat) (f : Cabin → Cabin) :
    (s.modifyCabin k f).position = s.position := rfl
@[simp] theorem State.modifyCabin_cabins (s : State) (k : Nat) (f : Cabin → Cabin) :
    (s.modifyCabin k f).cabins = s.cabins.modify k f := rfl
@[simp] theorem State.modifyCabin_loop (s : State) (k : Nat) (f : Cabin → Cabin) :
    (s.modifyCabin k f).loop = s.loop := rfl
@[simp] theorem State.modifyCabin_output (s : State) (k : Nat) (f : Cabin → Cabin) :
    (s.modifyCabin k f).output = s.output := rfl
@[simp] theorem State.modifyCabin_sequencers (s : State) (k : Nat) (f : Cabin → Cabin) :
    (s.modifyCabin k f).sequencers = s.sequencers := rfl
@[simp] theorem State.modifyCabin_queues (s : State) (k : Nat) (f : Cabin → Cabin) :
    (s.modifyCabin k f).queues = s.queues := rfl
@[simp] theorem State.modifyCabin_plans (s : State) (k : Nat) (f : Cabin → Cabin) :
    (s.modifyCabin k f).plans = s.plans := rfl
@[simp] theorem State.modifyCabin_wind (s : State) (k : Nat) (f : Cabin → Cabin) :
    (s.modifyCabin k f).wind = s.wind := rfl
@[simp] theorem State.modifyCabin_holds (s : State) (k : Nat) (f : Cabin → Cabin) :
    (s.modifyCabin k f).holds = s.holds := rfl
@[simp] theorem State.modifyCabin_stops (s : State) (k : Nat) (f : Cabin → Cabin) :
    (s.modifyCabin k f).stops = s.stops := rfl
@[simp] theorem State.modifyCabin_unload (s : State) (k : Nat) (f : Cabin → Cabin) :
    (s.modifyCabin k f).unload = s.unload := rfl
@[simp] theorem State.modifyCabin_permit (s : State) (k : Nat) (f : Cabin → Cabin) :
    (s.modifyCabin k f).permit = s.permit := rfl
@[simp] theorem State.modifyCabin_ports (s : State) (k : Nat) (f : Cabin → Cabin) :
    (s.modifyCabin k f).ports = s.ports := rfl
@[simp] theorem State.modifyCabin_store (s : State) (k : Nat) (f : Cabin → Cabin) :
    (s.modifyCabin k f).store = s.store := rfl
@[simp] theorem State.modifyCabin_events (s : State) (k : Nat) (f : Cabin → Cabin) :
    (s.modifyCabin k f).events = s.events := rfl
@[simp] theorem State.modifyCabin_clock (s : State) (k : Nat) (f : Cabin → Cabin) :
    (s.modifyCabin k f).clock = s.clock := rfl
@[simp] theorem State.modifyCabin_brakeDemand (s : State) (k : Nat) (f : Cabin → Cabin) :
    (s.modifyCabin k f).brakeDemand = s.brakeDemand := rfl
@[simp] theorem State.modifyCabin_pending (s : State) (k : Nat) (f : Cabin → Cabin) :
    (s.modifyCabin k f).pending = s.pending := rfl

/-! ### State.setSettings -/

@[simp] theorem State.setSettings_phase (s : State) (x : Settings) : (s.setSettings x).phase = s.phase := rfl
@[simp] theorem State.setSettings_position (s : State) (x : Settings) : (s.setSettings x).position = s.position := rfl
@[simp] theorem State.setSettings_cabins (s : State) (x : Settings) : (s.setSettings x).cabins = s.cabins := rfl
@[simp] theorem State.setSettings_loop (s : State) (x : Settings) : (s.setSettings x).loop = s.loop := rfl
@[simp] theorem State.setSettings_output (s : State) (x : Settings) : (s.setSettings x).output = s.output := rfl
@[simp] theorem State.setSettings_sequencers (s : State) (x : Settings) :
    (s.setSettings x).sequencers = s.sequencers := rfl
@[simp] theorem State.setSettings_queues (s : State) (x : Settings) : (s.setSettings x).queues = s.queues := rfl
@[simp] theorem State.setSettings_plans (s : State) (x : Settings) : (s.setSettings x).plans = s.plans := rfl
@[simp] theorem State.setSettings_wind (s : State) (x : Settings) : (s.setSettings x).wind = s.wind := rfl
@[simp] theorem State.setSettings_holds (s : State) (x : Settings) : (s.setSettings x).holds = s.holds := rfl
@[simp] theorem State.setSettings_stops (s : State) (x : Settings) : (s.setSettings x).stops = s.stops := rfl
@[simp] theorem State.setSettings_unload (s : State) (x : Settings) : (s.setSettings x).unload = s.unload := rfl
@[simp] theorem State.setSettings_permit (s : State) (x : Settings) : (s.setSettings x).permit = s.permit := rfl
@[simp] theorem State.setSettings_ports (s : State) (x : Settings) : (s.setSettings x).ports = s.ports := rfl
@[simp] theorem State.setSettings_store (s : State) (x : Settings) :
    (s.setSettings x).store = { s.store with working := x } := rfl
@[simp] theorem State.setSettings_events (s : State) (x : Settings) : (s.setSettings x).events = s.events := rfl
@[simp] theorem State.setSettings_clock (s : State) (x : Settings) : (s.setSettings x).clock = s.clock := rfl
@[simp] theorem State.setSettings_brakeDemand (s : State) (x : Settings) :
    (s.setSettings x).brakeDemand = s.brakeDemand := rfl
@[simp] theorem State.setSettings_pending (s : State) (x : Settings) : (s.setSettings x).pending = s.pending := rfl

/-! ### State.setPark -/

@[simp] theorem State.setPark_phase (s : State) (r : Option ParkRecord) : (s.setPark r).phase = s.phase := rfl
@[simp] theorem State.setPark_position (s : State) (r : Option ParkRecord) :
    (s.setPark r).position = s.position := rfl
@[simp] theorem State.setPark_cabins (s : State) (r : Option ParkRecord) : (s.setPark r).cabins = s.cabins := rfl
@[simp] theorem State.setPark_loop (s : State) (r : Option ParkRecord) : (s.setPark r).loop = s.loop := rfl
@[simp] theorem State.setPark_output (s : State) (r : Option ParkRecord) : (s.setPark r).output = s.output := rfl
@[simp] theorem State.setPark_sequencers (s : State) (r : Option ParkRecord) :
    (s.setPark r).sequencers = s.sequencers := rfl
@[simp] theorem State.setPark_queues (s : State) (r : Option ParkRecord) : (s.setPark r).queues = s.queues := rfl
@[simp] theorem State.setPark_plans (s : State) (r : Option ParkRecord) : (s.setPark r).plans = s.plans := rfl
@[simp] theorem State.setPark_wind (s : State) (r : Option ParkRecord) : (s.setPark r).wind = s.wind := rfl
@[simp] theorem State.setPark_holds (s : State) (r : Option ParkRecord) : (s.setPark r).holds = s.holds := rfl
@[simp] theorem State.setPark_stops (s : State) (r : Option ParkRecord) : (s.setPark r).stops = s.stops := rfl
@[simp] theorem State.setPark_unload (s : State) (r : Option ParkRecord) : (s.setPark r).unload = s.unload := rfl
@[simp] theorem State.setPark_permit (s : State) (r : Option ParkRecord) :
    (s.setPark r).permit = { s.permit with park := r } := rfl
@[simp] theorem State.setPark_ports (s : State) (r : Option ParkRecord) : (s.setPark r).ports = s.ports := rfl
@[simp] theorem State.setPark_store (s : State) (r : Option ParkRecord) : (s.setPark r).store = s.store := rfl
@[simp] theorem State.setPark_events (s : State) (r : Option ParkRecord) : (s.setPark r).events = s.events := rfl
@[simp] theorem State.setPark_clock (s : State) (r : Option ParkRecord) : (s.setPark r).clock = s.clock := rfl
@[simp] theorem State.setPark_brakeDemand (s : State) (r : Option ParkRecord) :
    (s.setPark r).brakeDemand = s.brakeDemand := rfl
@[simp] theorem State.setPark_pending (s : State) (r : Option ParkRecord) : (s.setPark r).pending = s.pending := rfl

/-! ### State.command -/

@[simp] theorem State.command_phase (s : State) (pf : Platform) (c : ActuatorCode) :
    (s.command pf c).phase = s.phase := rfl
@[simp] theorem State.command_position (s : State) (pf : Platform) (c : ActuatorCode) :
    (s.command pf c).position = s.position := rfl
@[simp] theorem State.command_cabins (s : State) (pf : Platform) (c : ActuatorCode) :
    (s.command pf c).cabins = s.cabins := rfl
@[simp] theorem State.command_loop (s : State) (pf : Platform) (c : ActuatorCode) :
    (s.command pf c).loop = s.loop := rfl
@[simp] theorem State.command_sequencers (s : State) (pf : Platform) (c : ActuatorCode) :
    (s.command pf c).sequencers = s.sequencers := rfl
@[simp] theorem State.command_queues (s : State) (pf : Platform) (c : ActuatorCode) :
    (s.command pf c).queues = s.queues := rfl
@[simp] theorem State.command_plans (s : State) (pf : Platform) (c : ActuatorCode) :
    (s.command pf c).plans = s.plans := rfl
@[simp] theorem State.command_wind (s : State) (pf : Platform) (c : ActuatorCode) :
    (s.command pf c).wind = s.wind := rfl
@[simp] theorem State.command_holds (s : State) (pf : Platform) (c : ActuatorCode) :
    (s.command pf c).holds = s.holds := rfl
@[simp] theorem State.command_stops (s : State) (pf : Platform) (c : ActuatorCode) :
    (s.command pf c).stops = s.stops := rfl
@[simp] theorem State.command_unload (s : State) (pf : Platform) (c : ActuatorCode) :
    (s.command pf c).unload = s.unload := rfl
@[simp] theorem State.command_permit (s : State) (pf : Platform) (c : ActuatorCode) :
    (s.command pf c).permit = s.permit := rfl
@[simp] theorem State.command_ports (s : State) (pf : Platform) (c : ActuatorCode) :
    (s.command pf c).ports = s.ports := rfl
@[simp] theorem State.command_store (s : State) (pf : Platform) (c : ActuatorCode) :
    (s.command pf c).store = s.store := rfl
@[simp] theorem State.command_events (s : State) (pf : Platform) (c : ActuatorCode) :
    (s.command pf c).events = s.events := rfl
@[simp] theorem State.command_clock (s : State) (pf : Platform) (c : ActuatorCode) :
    (s.command pf c).clock = s.clock := rfl
@[simp] theorem State.command_brakeDemand (s : State) (pf : Platform) (c : ActuatorCode) :
    (s.command pf c).brakeDemand = s.brakeDemand := rfl
@[simp] theorem State.command_pending (s : State) (pf : Platform) (c : ActuatorCode) :
    (s.command pf c).pending = s.pending := rfl

/-! ### State.reclose -/

@[simp] theorem State.reclose_phase (s : State) (pf : Platform) : (s.reclose pf).phase = s.phase := rfl
@[simp] theorem State.reclose_position (s : State) (pf : Platform) : (s.reclose pf).position = s.position := rfl
@[simp] theorem State.reclose_cabins (s : State) (pf : Platform) : (s.reclose pf).cabins = s.cabins := rfl
@[simp] theorem State.reclose_loop (s : State) (pf : Platform) : (s.reclose pf).loop = s.loop := rfl
@[simp] theorem State.reclose_sequencers (s : State) (pf : Platform) : (s.reclose pf).sequencers = s.sequencers := rfl
@[simp] theorem State.reclose_queues (s : State) (pf : Platform) : (s.reclose pf).queues = s.queues := rfl
@[simp] theorem State.reclose_plans (s : State) (pf : Platform) : (s.reclose pf).plans = s.plans := rfl
@[simp] theorem State.reclose_wind (s : State) (pf : Platform) : (s.reclose pf).wind = s.wind := rfl
@[simp] theorem State.reclose_holds (s : State) (pf : Platform) : (s.reclose pf).holds = s.holds := rfl
@[simp] theorem State.reclose_stops (s : State) (pf : Platform) : (s.reclose pf).stops = s.stops := rfl
@[simp] theorem State.reclose_unload (s : State) (pf : Platform) : (s.reclose pf).unload = s.unload := rfl
@[simp] theorem State.reclose_permit (s : State) (pf : Platform) : (s.reclose pf).permit = s.permit := rfl
@[simp] theorem State.reclose_ports (s : State) (pf : Platform) : (s.reclose pf).ports = s.ports := rfl
@[simp] theorem State.reclose_store (s : State) (pf : Platform) : (s.reclose pf).store = s.store := rfl
@[simp] theorem State.reclose_events (s : State) (pf : Platform) : (s.reclose pf).events = s.events := rfl
@[simp] theorem State.reclose_clock (s : State) (pf : Platform) : (s.reclose pf).clock = s.clock := rfl
@[simp] theorem State.reclose_brakeDemand (s : State) (pf : Platform) :
    (s.reclose pf).brakeDemand = s.brakeDemand := rfl
@[simp] theorem State.reclose_pending (s : State) (pf : Platform) : (s.reclose pf).pending = s.pending := rfl

/-! ### State.mapOutput -/

@[simp] theorem State.mapOutput_phase (s : State) (f : Output → Output) : (s.mapOutput f).phase = s.phase := rfl
@[simp] theorem State.mapOutput_position (s : State) (f : Output → Output) :
    (s.mapOutput f).position = s.position := rfl
@[simp] theorem State.mapOutput_cabins (s : State) (f : Output → Output) : (s.mapOutput f).cabins = s.cabins := rfl
@[simp] theorem State.mapOutput_loop (s : State) (f : Output → Output) : (s.mapOutput f).loop = s.loop := rfl
@[simp] theorem State.mapOutput_output (s : State) (f : Output → Output) : (s.mapOutput f).output = f s.output := rfl
@[simp] theorem State.mapOutput_sequencers (s : State) (f : Output → Output) :
    (s.mapOutput f).sequencers = s.sequencers := rfl
@[simp] theorem State.mapOutput_queues (s : State) (f : Output → Output) : (s.mapOutput f).queues = s.queues := rfl
@[simp] theorem State.mapOutput_plans (s : State) (f : Output → Output) : (s.mapOutput f).plans = s.plans := rfl
@[simp] theorem State.mapOutput_wind (s : State) (f : Output → Output) : (s.mapOutput f).wind = s.wind := rfl
@[simp] theorem State.mapOutput_holds (s : State) (f : Output → Output) : (s.mapOutput f).holds = s.holds := rfl
@[simp] theorem State.mapOutput_stops (s : State) (f : Output → Output) : (s.mapOutput f).stops = s.stops := rfl
@[simp] theorem State.mapOutput_unload (s : State) (f : Output → Output) : (s.mapOutput f).unload = s.unload := rfl
@[simp] theorem State.mapOutput_permit (s : State) (f : Output → Output) : (s.mapOutput f).permit = s.permit := rfl
@[simp] theorem State.mapOutput_ports (s : State) (f : Output → Output) : (s.mapOutput f).ports = s.ports := rfl
@[simp] theorem State.mapOutput_store (s : State) (f : Output → Output) : (s.mapOutput f).store = s.store := rfl
@[simp] theorem State.mapOutput_events (s : State) (f : Output → Output) : (s.mapOutput f).events = s.events := rfl
@[simp] theorem State.mapOutput_clock (s : State) (f : Output → Output) : (s.mapOutput f).clock = s.clock := rfl
@[simp] theorem State.mapOutput_brakeDemand (s : State) (f : Output → Output) :
    (s.mapOutput f).brakeDemand = s.brakeDemand := rfl
@[simp] theorem State.mapOutput_pending (s : State) (f : Output → Output) : (s.mapOutput f).pending = s.pending := rfl

/-! ### State.writeDoors -/

@[simp] theorem State.writeDoors_phase (s : State) : (s.writeDoors).phase = s.phase := rfl
@[simp] theorem State.writeDoors_position (s : State) : (s.writeDoors).position = s.position := rfl
@[simp] theorem State.writeDoors_loop (s : State) : (s.writeDoors).loop = s.loop := rfl
@[simp] theorem State.writeDoors_output (s : State) : (s.writeDoors).output = s.output := rfl
@[simp] theorem State.writeDoors_sequencers (s : State) : (s.writeDoors).sequencers = s.sequencers := rfl
@[simp] theorem State.writeDoors_queues (s : State) : (s.writeDoors).queues = s.queues := rfl
@[simp] theorem State.writeDoors_plans (s : State) : (s.writeDoors).plans = s.plans := rfl
@[simp] theorem State.writeDoors_wind (s : State) : (s.writeDoors).wind = s.wind := rfl
@[simp] theorem State.writeDoors_holds (s : State) : (s.writeDoors).holds = s.holds := rfl
@[simp] theorem State.writeDoors_stops (s : State) : (s.writeDoors).stops = s.stops := rfl
@[simp] theorem State.writeDoors_unload (s : State) : (s.writeDoors).unload = s.unload := rfl
@[simp] theorem State.writeDoors_permit (s : State) : (s.writeDoors).permit = s.permit := rfl
@[simp] theorem State.writeDoors_ports (s : State) : (s.writeDoors).ports = s.ports := rfl
@[simp] theorem State.writeDoors_store (s : State) : (s.writeDoors).store = s.store := rfl
@[simp] theorem State.writeDoors_events (s : State) : (s.writeDoors).events = s.events := rfl
@[simp] theorem State.writeDoors_clock (s : State) : (s.writeDoors).clock = s.clock := rfl
@[simp] theorem State.writeDoors_brakeDemand (s : State) : (s.writeDoors).brakeDemand = s.brakeDemand := rfl
@[simp] theorem State.writeDoors_pending (s : State) : (s.writeDoors).pending = s.pending := rfl

/-! ### State.pulse -/

@[simp] theorem State.pulse_phase (s : State) (k : Sensor) : (s.pulse k).phase = s.phase := rfl
@[simp] theorem State.pulse_position (s : State) (k : Sensor) : (s.pulse k).position = s.position := rfl
@[simp] theorem State.pulse_cabins (s : State) (k : Sensor) : (s.pulse k).cabins = s.cabins := rfl
@[simp] theorem State.pulse_loop (s : State) (k : Sensor) : (s.pulse k).loop = s.loop := rfl
@[simp] theorem State.pulse_output (s : State) (k : Sensor) : (s.pulse k).output = s.output := rfl
@[simp] theorem State.pulse_sequencers (s : State) (k : Sensor) : (s.pulse k).sequencers = s.sequencers := rfl
@[simp] theorem State.pulse_queues (s : State) (k : Sensor) : (s.pulse k).queues = s.queues := rfl
@[simp] theorem State.pulse_plans (s : State) (k : Sensor) : (s.pulse k).plans = s.plans := rfl
@[simp] theorem State.pulse_holds (s : State) (k : Sensor) : (s.pulse k).holds = s.holds := rfl
@[simp] theorem State.pulse_stops (s : State) (k : Sensor) : (s.pulse k).stops = s.stops := rfl
@[simp] theorem State.pulse_unload (s : State) (k : Sensor) : (s.pulse k).unload = s.unload := rfl
@[simp] theorem State.pulse_permit (s : State) (k : Sensor) : (s.pulse k).permit = s.permit := rfl
@[simp] theorem State.pulse_ports (s : State) (k : Sensor) : (s.pulse k).ports = s.ports := rfl
@[simp] theorem State.pulse_store (s : State) (k : Sensor) : (s.pulse k).store = s.store := rfl
@[simp] theorem State.pulse_events (s : State) (k : Sensor) : (s.pulse k).events = s.events := rfl
@[simp] theorem State.pulse_clock (s : State) (k : Sensor) : (s.pulse k).clock = s.clock := rfl
@[simp] theorem State.pulse_brakeDemand (s : State) (k : Sensor) : (s.pulse k).brakeDemand = s.brakeDemand := rfl
@[simp] theorem State.pulse_pending (s : State) (k : Sensor) : (s.pulse k).pending = s.pending := rfl

/-! ### State.startScan -/

@[simp] theorem State.startScan_phase (s : State) : (s.startScan).phase = s.phase := rfl
@[simp] theorem State.startScan_position (s : State) : (s.startScan).position = s.position := rfl
@[simp] theorem State.startScan_cabins (s : State) : (s.startScan).cabins = s.cabins := rfl
@[simp] theorem State.startScan_output (s : State) : (s.startScan).output = s.output := rfl
@[simp] theorem State.startScan_sequencers (s : State) : (s.startScan).sequencers = s.sequencers := rfl
@[simp] theorem State.startScan_queues (s : State) : (s.startScan).queues = s.queues := rfl
@[simp] theorem State.startScan_plans (s : State) : (s.startScan).plans = s.plans := rfl
@[simp] theorem State.startScan_wind (s : State) : (s.startScan).wind = s.wind := rfl
@[simp] theorem State.startScan_holds (s : State) : (s.startScan).holds = s.holds := rfl
@[simp] theorem State.startScan_stops (s : State) : (s.startScan).stops = s.stops := rfl
@[simp] theorem State.startScan_unload (s : State) : (s.startScan).unload = s.unload := rfl
@[simp] theorem State.startScan_permit (s : State) : (s.startScan).permit = s.permit := rfl
@[simp] theorem State.startScan_ports (s : State) : (s.startScan).ports = s.ports := rfl
@[simp] theorem State.startScan_store (s : State) : (s.startScan).store = s.store := rfl
@[simp] theorem State.startScan_events (s : State) : (s.startScan).events = s.events := rfl
@[simp] theorem State.startScan_clock (s : State) : (s.startScan).clock = s.clock := rfl
@[simp] theorem State.startScan_brakeDemand (s : State) : (s.startScan).brakeDemand = s.brakeDemand := rfl
@[simp] theorem State.startScan_pending (s : State) : (s.startScan).pending = s.pending := rfl

/-! ### State.beginSave -/

@[simp] theorem State.beginSave_phase (s : State) : (s.beginSave).phase = s.phase := rfl
@[simp] theorem State.beginSave_position (s : State) : (s.beginSave).position = s.position := rfl
@[simp] theorem State.beginSave_cabins (s : State) : (s.beginSave).cabins = s.cabins := rfl
@[simp] theorem State.beginSave_loop (s : State) : (s.beginSave).loop = s.loop := rfl
@[simp] theorem State.beginSave_output (s : State) : (s.beginSave).output = s.output := rfl
@[simp] theorem State.beginSave_sequencers (s : State) : (s.beginSave).sequencers = s.sequencers := rfl
@[simp] theorem State.beginSave_queues (s : State) : (s.beginSave).queues = s.queues := rfl
@[simp] theorem State.beginSave_plans (s : State) : (s.beginSave).plans = s.plans := rfl
@[simp] theorem State.beginSave_wind (s : State) : (s.beginSave).wind = s.wind := rfl
@[simp] theorem State.beginSave_holds (s : State) : (s.beginSave).holds = s.holds := rfl
@[simp] theorem State.beginSave_stops (s : State) : (s.beginSave).stops = s.stops := rfl
@[simp] theorem State.beginSave_unload (s : State) : (s.beginSave).unload = s.unload := rfl
@[simp] theorem State.beginSave_permit (s : State) : (s.beginSave).permit = s.permit := rfl
@[simp] theorem State.beginSave_ports (s : State) : (s.beginSave).ports = s.ports := rfl
@[simp] theorem State.beginSave_events (s : State) : (s.beginSave).events = s.events := rfl
@[simp] theorem State.beginSave_clock (s : State) : (s.beginSave).clock = s.clock := rfl
@[simp] theorem State.beginSave_brakeDemand (s : State) : (s.beginSave).brakeDemand = s.brakeDemand := rfl
@[simp] theorem State.beginSave_pending (s : State) : (s.beginSave).pending = s.pending := rfl

/-! ### State.refresh -/

@[simp] theorem State.refresh_phase (s : State) : (s.refresh).phase = s.phase := rfl
@[simp] theorem State.refresh_position (s : State) : (s.refresh).position = s.position := rfl
@[simp] theorem State.refresh_cabins (s : State) : (s.refresh).cabins = s.cabins := rfl
@[simp] theorem State.refresh_loop (s : State) : (s.refresh).loop = s.loop := rfl
@[simp] theorem State.refresh_output (s : State) : (s.refresh).output = { s.output with image := s.formLamps } := rfl
@[simp] theorem State.refresh_sequencers (s : State) : (s.refresh).sequencers = s.sequencers := rfl
@[simp] theorem State.refresh_queues (s : State) : (s.refresh).queues = s.queues := rfl
@[simp] theorem State.refresh_plans (s : State) : (s.refresh).plans = s.plans := rfl
@[simp] theorem State.refresh_wind (s : State) : (s.refresh).wind = s.wind := rfl
@[simp] theorem State.refresh_holds (s : State) : (s.refresh).holds = s.holds := rfl
@[simp] theorem State.refresh_stops (s : State) : (s.refresh).stops = s.stops := rfl
@[simp] theorem State.refresh_unload (s : State) : (s.refresh).unload = s.unload := rfl
@[simp] theorem State.refresh_permit (s : State) :
    (s.refresh).permit = { s.permit with ceiling := s.ceilingNow } := rfl
@[simp] theorem State.refresh_ports (s : State) : (s.refresh).ports = s.ports := rfl
@[simp] theorem State.refresh_store (s : State) : (s.refresh).store = s.store := rfl
@[simp] theorem State.refresh_events (s : State) : (s.refresh).events = s.events := rfl
@[simp] theorem State.refresh_clock (s : State) : (s.refresh).clock = s.clock := rfl
@[simp] theorem State.refresh_brakeDemand (s : State) : (s.refresh).brakeDemand = s.brakeWanted := rfl
@[simp] theorem State.refresh_pending (s : State) : (s.refresh).pending = s.pending := rfl

/-! ### State.shut -/

@[simp] theorem State.shut_phase (s : State) (x : Phase) : (s.shut x).phase = x := rfl
@[simp] theorem State.shut_position (s : State) (x : Phase) : (s.shut x).position = s.position := rfl
@[simp] theorem State.shut_cabins (s : State) (x : Phase) : (s.shut x).cabins = s.cabins := rfl
@[simp] theorem State.shut_loop (s : State) (x : Phase) : (s.shut x).loop = s.loop := rfl
@[simp] theorem State.shut_output (s : State) (x : Phase) :
    (s.shut x).output = { s.output with inProgress := false } := rfl
@[simp] theorem State.shut_sequencers (s : State) (x : Phase) : (s.shut x).sequencers = s.sequencers := rfl
@[simp] theorem State.shut_queues (s : State) (x : Phase) : (s.shut x).queues = s.queues := rfl
@[simp] theorem State.shut_plans (s : State) (x : Phase) : (s.shut x).plans = s.plans := rfl
@[simp] theorem State.shut_wind (s : State) (x : Phase) : (s.shut x).wind = s.wind := rfl
@[simp] theorem State.shut_holds (s : State) (x : Phase) : (s.shut x).holds = s.holds := rfl
@[simp] theorem State.shut_stops (s : State) (x : Phase) : (s.shut x).stops = s.stops := rfl
@[simp] theorem State.shut_unload (s : State) (x : Phase) : (s.shut x).unload = s.unload := rfl
@[simp] theorem State.shut_permit (s : State) (x : Phase) : (s.shut x).permit = s.permit := rfl
@[simp] theorem State.shut_ports (s : State) (x : Phase) : (s.shut x).ports = s.ports.hunting := rfl
@[simp] theorem State.shut_store (s : State) (x : Phase) : (s.shut x).store = { s.store with saving := none } := rfl
@[simp] theorem State.shut_events (s : State) (x : Phase) : (s.shut x).events = s.events := rfl
@[simp] theorem State.shut_clock (s : State) (x : Phase) : (s.shut x).clock = s.clock := rfl
@[simp] theorem State.shut_brakeDemand (s : State) (x : Phase) : (s.shut x).brakeDemand = true := rfl
@[simp] theorem State.shut_pending (s : State) (x : Phase) : (s.shut x).pending = s.pending := rfl

/-! ### State.withPending -/

@[simp] theorem State.withPending_phase (s : State) (rest : List Instr) : (s.withPending rest).phase = s.phase := rfl
@[simp] theorem State.withPending_position (s : State) (rest : List Instr) :
    (s.withPending rest).position = s.position := rfl
@[simp] theorem State.withPending_cabins (s : State) (rest : List Instr) :
    (s.withPending rest).cabins = s.cabins := rfl
@[simp] theorem State.withPending_loop (s : State) (rest : List Instr) : (s.withPending rest).loop = s.loop := rfl
@[simp] theorem State.withPending_output (s : State) (rest : List Instr) :
    (s.withPending rest).output = s.output := rfl
@[simp] theorem State.withPending_sequencers (s : State) (rest : List Instr) :
    (s.withPending rest).sequencers = s.sequencers := rfl
@[simp] theorem State.withPending_queues (s : State) (rest : List Instr) :
    (s.withPending rest).queues = s.queues := rfl
@[simp] theorem State.withPending_plans (s : State) (rest : List Instr) : (s.withPending rest).plans = s.plans := rfl
@[simp] theorem State.withPending_wind (s : State) (rest : List Instr) : (s.withPending rest).wind = s.wind := rfl
@[simp] theorem State.withPending_holds (s : State) (rest : List Instr) : (s.withPending rest).holds = s.holds := rfl
@[simp] theorem State.withPending_stops (s : State) (rest : List Instr) : (s.withPending rest).stops = s.stops := rfl
@[simp] theorem State.withPending_unload (s : State) (rest : List Instr) :
    (s.withPending rest).unload = s.unload := rfl
@[simp] theorem State.withPending_permit (s : State) (rest : List Instr) :
    (s.withPending rest).permit = s.permit := rfl
@[simp] theorem State.withPending_ports (s : State) (rest : List Instr) : (s.withPending rest).ports = s.ports := rfl
@[simp] theorem State.withPending_store (s : State) (rest : List Instr) : (s.withPending rest).store = s.store := rfl
@[simp] theorem State.withPending_events (s : State) (rest : List Instr) :
    (s.withPending rest).events = s.events := rfl
@[simp] theorem State.withPending_clock (s : State) (rest : List Instr) : (s.withPending rest).clock = s.clock := rfl
@[simp] theorem State.withPending_brakeDemand (s : State) (rest : List Instr) :
    (s.withPending rest).brakeDemand = s.brakeDemand := rfl
@[simp] theorem State.withPending_pending (s : State) (rest : List Instr) : (s.withPending rest).pending = rest := rfl

end Sys2Proof.Machine
end

