-- ==== Sys2Proof/Laws/Reactions.lean ====
section
/-! SUPPORT. What each shared operation can do, said once: the Event Stack's append, and `Reaction`, the reach of
everything that a change of a hold source sets off. -/

namespace Sys2Proof.Machine

/-! ## The Event Stack -/

/-- An append changes the Event Stack alone. -/
theorem State.append_eq (s : State) (r : EventRecord) : ∃ e : Events, s.append r = { s with events := e } := by
  unfold State.append
  split <;> exact ⟨_, rfl⟩

/-- An append leaves at most 256 records where there were at most 256 (R185). -/
theorem State.append_bounded (s : State) (r : EventRecord) (h : s.events.records.length ≤ 256) :
    (s.append r).events.records.length ≤ 256 := by
  unfold State.append
  split
  · simp; omega
  · simp; omega

/-- The record appended is the newest. -/
theorem State.append_newest (s : State) (r : EventRecord) : (s.append r).events.records.getLast? = some r := by
  unfold State.append
  split <;> simp

/-! ## The reach of a hold change -/

/-- The state `t` differs from `s` at most in the Hold Table, the unload-complete flag, the park record, what an
assignment writes into a visit, the queues, and records appended to the Event Stack. -/
structure Reaction (s t : State) : Prop where
  phase : t.phase = s.phase
  position : t.position = s.position
  cabins : t.cabins = s.cabins
  loop : t.loop = s.loop
  output : t.output = s.output
  plans : t.plans = s.plans
  wind : t.wind = s.wind
  stops : t.stops = s.stops
  ports : t.ports = s.ports
  store : t.store = s.store
  clock : t.clock = s.clock
  brakeDemand : t.brakeDemand = s.brakeDemand
  pending : t.pending = s.pending
  unload : t.unload = { s.unload with complete := t.unload.complete }
  permit : t.permit = { s.permit with park := t.permit.park }
  visits : ∀ pf : Platform, apartFromAssignment (t.sequencers.get pf) = apartFromAssignment (s.sequencers.get pf)
  events : ∃ xs : List EventRecord, Recorded s t xs

theorem Reaction.refl (s : State) : Reaction s s :=
  ⟨rfl, rfl, rfl, rfl, rfl, rfl, rfl, rfl, rfl, rfl, rfl, rfl, rfl, rfl, rfl, fun _ => rfl, [], rfl⟩

/-- What an append leaves on the Event Stack depends on the stack alone. -/
theorem State.append_events {s t : State} (h : t.events = s.events) (r : EventRecord) :
    (t.append r).events = (s.append r).events := by
  unfold State.append
  rw [h]
  split <;> simp

theorem State.appends_events {s t : State} (h : t.events = s.events) (xs : List EventRecord) :
    (xs.foldl State.append t).events = (xs.foldl State.append s).events := by
  induction xs generalizing s t with
  | nil => exact h
  | cons r rest ih => exact ih (State.append_events h r)

theorem recorded_trans {s t u : State} {xs ys : List EventRecord} (h : Recorded s t xs) (k : Recorded t u ys) :
    Recorded s u (xs ++ ys) := by
  unfold Recorded at *
  rw [List.foldl_append, k]
  exact State.appends_events h ys

theorem Reaction.trans {s t u : State} (h : Reaction s t) (k : Reaction t u) : Reaction s u :=
  ⟨k.phase.trans h.phase, k.position.trans h.position, k.cabins.trans h.cabins, k.loop.trans h.loop,
   k.output.trans h.output, k.plans.trans h.plans, k.wind.trans h.wind, k.stops.trans h.stops,
   k.ports.trans h.ports, k.store.trans h.store, k.clock.trans h.clock, k.brakeDemand.trans h.brakeDemand,
   k.pending.trans h.pending, by rw [k.unload, h.unload], by rw [k.permit, h.permit],
   fun pf => (k.visits pf).trans (h.visits pf),
   let ⟨xs, hx⟩ := h.events; let ⟨ys, hy⟩ := k.events; ⟨xs ++ ys, recorded_trans hx hy⟩⟩

theorem State.append_reaction (s : State) (r : EventRecord) : Reaction s (s.append r) := by
  obtain ⟨e, h⟩ := s.append_eq r
  have q : Recorded s (s.append r) [r] := rfl
  rw [h] at q ⊢
  exact ⟨rfl, rfl, rfl, rfl, rfl, rfl, rfl, rfl, rfl, rfl, rfl, rfl, rfl, rfl, rfl, fun _ => rfl, [r], q⟩

theorem State.logPlain_reaction (s : State) (k : EventKind) (v : Int) : Reaction s (s.logPlain k v) :=
  s.append_reaction _

theorem State.logBerth_reaction (s : State) (k : EventKind) (c : Nat) (pf : Platform) (v : Int) :
    Reaction s (s.logBerth k c pf v) := s.append_reaction _

theorem State.logGrade_reaction (s : State) (k : EventKind) (g : Grade) (v : Int) :
    Reaction s (s.logGrade k g v) := s.append_reaction _

theorem State.logHold_reaction (s : State) (k : EventKind) (src : Source) (g : Grade) (v : Int) :
    Reaction s (s.logHold k src g v) := s.append_reaction _

/-- What an assignment writes into the current visit of a platform. -/
theorem State.assignVisit_reaction (s : State) (pf : Platform) (v : Visit) (taken : List Assigned) (asked : Bool)
    (h : (s.sequencers.get pf).current = some v) :
    Reaction s (s.setVisit pf { v with assigned := taken, assignmentAsked := asked }) := by
  refine ⟨rfl, rfl, rfl, rfl, rfl, rfl, rfl, rfl, rfl, rfl, rfl, rfl, rfl, rfl, rfl, fun x => ?_, [], rfl⟩
  show apartFromAssignment ((s.sequencers.set pf _).get x) = _
  by_cases e : x = pf
  · subst e
    rw [PerPlatform.get_set_same]
    simp [apartFromAssignment, h]
  · rw [PerPlatform.get_set_other _ _ e]

theorem State.setQueue_reaction (s : State) (pf : Platform) (q : Queue) : Reaction s (s.setQueue pf q) :=
  ⟨rfl, rfl, rfl, rfl, rfl, rfl, rfl, rfl, rfl, rfl, rfl, rfl, rfl, rfl, rfl, fun _ => rfl, [], rfl⟩

theorem State.setPark_reaction (s : State) (r : Option ParkRecord) : Reaction s (s.setPark r) :=
  ⟨rfl, rfl, rfl, rfl, rfl, rfl, rfl, rfl, rfl, rfl, rfl, rfl, rfl, rfl, rfl, fun _ => rfl, [], rfl⟩

theorem State.logAssigned_reaction (s : State) (k : Nat) (pf : Platform) (chosen : List Party) :
    Reaction s (s.logAssigned k pf chosen) := by
  unfold State.logAssigned
  induction chosen generalizing s with
  | nil => exact Reaction.refl s
  | cons e rest ih => exact (s.logBerth_reaction _ _ _ _).trans (ih _)

theorem State.assign_reaction (s : State) (pf : Platform) (v : Visit) (c : Cabin)
    (h : (s.sequencers.get pf).current = some v) : Reaction s (s.assign pf v c) :=
  ((s.assignVisit_reaction pf v _ _ h).trans (State.setQueue_reaction _ _ _)).trans
    (State.logAssigned_reaction _ _ _ _)

theorem State.assignIfDue_reaction (s : State) (pf : Platform) : Reaction s (s.assignIfDue pf) := by
  unfold State.assignIfDue
  split
  · exact Reaction.refl s
  · rename_i v h
    split
    · exact Reaction.refl s
    · split
      · exact s.assign_reaction _ _ _ h
      · exact Reaction.refl s

theorem State.judgeUnload_reaction (s : State) : Reaction s s.judgeUnload := by
  unfold State.judgeUnload
  simp only
  split
  · refine Reaction.trans ?_ (State.logGrade_reaction _ _ _ _)
    exact ⟨rfl, rfl, rfl, rfl, rfl, rfl, rfl, rfl, rfl, rfl, rfl, rfl, rfl, rfl, rfl, fun _ => rfl, [], rfl⟩
  · exact ⟨rfl, rfl, rfl, rfl, rfl, rfl, rfl, rfl, rfl, rfl, rfl, rfl, rfl, rfl, rfl, fun _ => rfl, [], rfl⟩

theorem State.parkedTest_reaction (s : State) : Reaction s s.parkedTest := by
  unfold State.parkedTest
  split
  · exact Reaction.refl s
  · split
    · exact (s.setPark_reaction _).trans (State.logBerth_reaction _ _ _ _ _)
    · exact Reaction.refl s

theorem State.unparkTest_reaction (s : State) : Reaction s s.unparkTest := by
  unfold State.unparkTest
  split
  · exact Reaction.refl s
  · split
    · exact s.setPark_reaction _
    · exact Reaction.refl s

theorem State.createPark_reaction (s : State) : Reaction s s.createPark := by
  unfold State.createPark
  exact (s.setPark_reaction _).trans (State.parkedTest_reaction _)

theorem State.parkOnChange_reaction (s : State) (old new : Grade) : Reaction s (s.parkOnChange old new) := by
  unfold State.parkOnChange
  split
  · exact s.createPark_reaction
  · split
    · exact s.setPark_reaction _
    · exact Reaction.refl s

theorem State.logLatch_reaction (s : State) (src : Source) (old new : Grade) :
    Reaction s (s.logLatch src old new) := by
  unfold State.logLatch
  split
  · exact s.logHold_reaction _ _ _ _
  · split
    · exact s.logHold_reaction _ _ _ _
    · exact Reaction.refl s

theorem State.heldChanged_reaction (s : State) (old new : Grade) : Reaction s (s.heldChanged old new) := by
  have h := s.judgeUnload_reaction.trans (State.parkOnChange_reaction _ old new)
  unfold State.heldChanged
  simp only
  split
  · exact h
  · exact (h.trans (State.assignIfDue_reaction _ _)).trans (State.assignIfDue_reaction _ _)

/-- A change of a hold source reaches no further than `Reaction`. -/
theorem State.changeSource_reaction (s : State) (src : Source) (f : HoldRecord → HoldRecord) :
    Reaction s (s.changeSource src f) := by
  have h : ∀ x : Holds, Reaction s { s with holds := x } := fun _ =>
    ⟨rfl, rfl, rfl, rfl, rfl, rfl, rfl, rfl, rfl, rfl, rfl, rfl, rfl, rfl, rfl, fun _ => rfl, [], rfl⟩
  unfold State.changeSource
  simp only
  split
  · exact (h _).trans (State.logLatch_reaction _ _ _ _)
  · exact ((h _).trans (State.logLatch_reaction _ _ _ _)).trans (State.heldChanged_reaction _ _ _)

theorem State.setCondition_reaction (s : State) (src : Source) (g : Grade) : Reaction s (s.setCondition src g) := by
  unfold State.setCondition
  split
  · exact Reaction.refl s
  · exact s.changeSource_reaction _ _

theorem State.deliverEvent_reaction (s : State) (src : Source) (g : Grade) : Reaction s (s.deliverEvent src g) := by
  unfold State.deliverEvent
  split
  · exact Reaction.refl s
  · exact s.changeSource_reaction _ _

theorem State.formProgrammed_reaction (s : State) (src : Source) (on : Bool) :
    Reaction s (s.formProgrammed src on) := s.setCondition_reaction _ _

theorem State.formStop_reaction (s : State) (pf : Platform) : Reaction s (s.formStop pf) :=
  s.formProgrammed_reaction _ _

theorem State.formDoorLate_reaction (s : State) : Reaction s s.formDoorLate := s.setCondition_reaction _ _

theorem State.formPosition_reaction (s : State) : Reaction s s.formPosition := s.setCondition_reaction _ _

/-! ## The Hold Table through a reaction that is no change of a source -/

theorem State.append_holds (s : State) (r : EventRecord) : (s.append r).holds = s.holds := by
  obtain ⟨e, h⟩ := s.append_eq r; rw [h]

theorem State.logAssigned_holds (s : State) (k : Nat) (pf : Platform) (chosen : List Party) :
    (s.logAssigned k pf chosen).holds = s.holds := by
  unfold State.logAssigned
  induction chosen generalizing s with
  | nil => rfl
  | cons e rest ih => exact (ih _).trans (s.append_holds _)

theorem State.assignIfDue_holds (s : State) (pf : Platform) : (s.assignIfDue pf).holds = s.holds := by
  unfold State.assignIfDue
  split
  · rfl
  · split
    · rfl
    · split
      · exact State.logAssigned_holds _ _ _ _
      · rfl

theorem State.judgeUnload_holds (s : State) : s.judgeUnload.holds = s.holds := by
  unfold State.judgeUnload
  simp only
  split
  · exact State.append_holds _ _
  · rfl

theorem State.parkedTest_holds (s : State) : s.parkedTest.holds = s.holds := by
  unfold State.parkedTest
  split
  · rfl
  · split
    · exact State.append_holds _ _
    · rfl

theorem State.parkOnChange_holds (s : State) (old new : Grade) : (s.parkOnChange old new).holds = s.holds := by
  unfold State.parkOnChange
  split
  · exact State.parkedTest_holds _
  · split <;> rfl

theorem State.heldChanged_holds (s : State) (old new : Grade) : (s.heldChanged old new).holds = s.holds := by
  have h : ((s.judgeUnload).parkOnChange old new).holds = s.holds :=
    (State.parkOnChange_holds _ _ _).trans s.judgeUnload_holds
  unfold State.heldChanged
  simp only
  split
  · exact h
  · exact (State.assignIfDue_holds _ _).trans ((State.assignIfDue_holds _ _).trans h)

theorem State.logLatch_holds (s : State) (src : Source) (old new : Grade) :
    (s.logLatch src old new).holds = s.holds := by
  unfold State.logLatch
  split
  · exact State.append_holds _ _
  · split
    · exact State.append_holds _ _
    · rfl

/-- What a change of a source does to the Hold Table: the source's record with its latched grade derived again, every
other record as it was, the held grade formed again (R137). -/
theorem State.changeSource_holds (s : State) (src : Source) (f : HoldRecord → HoldRecord) :
    (s.changeSource src f).holds =
      { table := s.holds.table.set src
          { f (s.holds.table.get src) with
            latched := latchOf (s.settings.auto.get src) (f (s.holds.table.get src)) }
        held := (s.holds.table.set src
          { f (s.holds.table.get src) with
            latched := latchOf (s.settings.auto.get src) (f (s.holds.table.get src)) }).heldGrade } := by
  unfold State.changeSource
  simp only
  split
  · exact State.logLatch_holds _ _ _ _
  · exact (State.heldChanged_holds _ _ _).trans (State.logLatch_holds _ _ _ _)

end Sys2Proof.Machine
end

