-- ==== Sys2Proof/Laws/Assignments.lean ====
section
/-! SUPPORT. The assignment of R66 in the statements' words, and `Followed`: a reaction with what it does to the visits
and the queues, said once for every change of a hold source. -/

namespace Sys2Proof

open Machine

/-! ## Records by kind -/

theorem RecordedOf.refl (s : State) (kinds : List EventKind) : RecordedOf s s kinds [] := ⟨[], rfl, rfl⟩

theorem RecordedOf.trans {s t u : State} {kinds : List EventKind} {xs ys : List EventRecord}
    (h : RecordedOf s t kinds xs) (k : RecordedOf t u kinds ys) : RecordedOf s u kinds (xs ++ ys) := by
  obtain ⟨as, ha, rfl⟩ := h
  obtain ⟨bs, hb, rfl⟩ := k
  exact ⟨as ++ bs, recorded_trans ha hb, List.filter_append ..⟩

/-- A record of another kind. -/
theorem RecordedOf.append_other (s : State) (r : EventRecord) {kinds : List EventKind}
    (h : kinds.contains r.kind = false) : RecordedOf s (s.append r) kinds [] :=
  ⟨[r], rfl, by simp only [List.filter_cons, h]; rfl⟩

/-- Only the Event Stacks matter. -/
theorem RecordedOf.congr {s s' t t' : State} {kinds : List EventKind} {xs : List EventRecord}
    (h : RecordedOf s t kinds xs) (a : s'.events = s.events) (b : t'.events = t.events) : RecordedOf s' t' kinds xs := by
  obtain ⟨as, ha, e⟩ := h
  exact ⟨as, b.trans (ha.trans (State.appends_events a as).symm), e⟩

/-! ## The assignment awaited -/

/-- The records of the parties chosen are appended with one clock. -/
theorem logAssigned_eq (s : State) (k : Nat) (pf : Platform) (xs : List Party) :
    s.logAssigned k pf xs = (xs.map fun e =>
      ({ time := s.clock, kind := .partyAssigned, cabin := some k, platform := some pf, source := none
         grade := none, value := signed16 e.tag } : EventRecord)).foldl State.append s := by
  unfold State.logAssigned
  induction xs generalizing s with
  | nil => rfl
  | cons e rest ih =>
    obtain ⟨x, h⟩ := s.append_eq
      { time := s.clock, kind := .partyAssigned, cabin := some k, platform := some pf, source := none
        grade := none, value := signed16 e.tag }
    rw [List.foldl_cons, ih]
    have c : (s.logBerth .partyAssigned k pf (signed16 e.tag)).clock = s.clock := by
      show (State.append s _).clock = _
      rw [h]
    rw [c]
    rfl

/-- An assignment made at once is the one the statements name. -/
theorem assignIfDue_eq (s : State) (pf : Platform) : s.assignIfDue pf = askedIfAllowed s pf := by
  unfold State.assignIfDue askedIfAllowed assignmentRecords asked assignmentAwaited
  rcases (s.sequencers.get pf).current with _ | v
  · simp
  · simp only
    rcases s.cabins[v.cabin]? with _ | c
    · simp
    · simp only
      by_cases h : v.state = .opened ∧ v.boardingOffered = true ∧ c.occupancy = 0 ∧ c.occupancyUnknown = false ∧
          v.assignmentAsked = false
      · rcases hg : s.holds.held.atLeast .unload with _ | _
        · have d : assignmentDue s.holds.held v c = true := by simp [assignmentDue, Cabin.knownEmpty, h, hg]
          rw [if_pos d, if_pos h]
          simp only [Bool.false_eq_true, if_false, State.assign]
          exact logAssigned_eq _ _ _ _
        · have d : assignmentDue s.holds.held v c = false := by simp [assignmentDue, hg]
          simp [d]
      · have d : assignmentDue s.holds.held v c = false := by
          rw [Bool.eq_false_iff]
          intro e
          apply h
          simp only [assignmentDue, Cabin.knownEmpty, Bool.and_eq_true, decide_eq_true_eq, Bool.not_eq_true'] at e
          obtain ⟨⟨⟨⟨a, b⟩, c, d⟩, -⟩, g⟩ := e
          exact ⟨a, b, c, d, g⟩
        simp [d, h]

/-- An assignment has what it reads alike: the visits, the queues, the cabins, the settings, the clock. -/
def Alike (s t : State) : Prop :=
  t.sequencers = s.sequencers ∧ t.queues = s.queues ∧ t.cabins = s.cabins ∧ t.store = s.store ∧ t.clock = s.clock

theorem Alike.awaited {s t : State} (h : Alike s t) (pf : Platform) :
    assignmentAwaited t pf = assignmentAwaited s pf := by
  unfold assignmentAwaited
  rw [h.1, h.2.2.1]

theorem Alike.chosen {s t : State} (h : Alike s t) (pf : Platform) (v : Visit) (c : Cabin) :
    chosenFor t pf v c = chosenFor s pf v c := by
  unfold chosenFor State.settings
  rw [h.2.1, h.2.2.2.1]

theorem Alike.records {s t : State} (h : Alike s t) (pf : Platform) :
    assignmentRecords t pf = assignmentRecords s pf := by
  unfold assignmentRecords
  simp only [h.awaited, h.chosen, h.2.2.2.2]

theorem Alike.asked {s t : State} (h : Alike s t) (pf : Platform) : Alike (asked s pf) (asked t pf) := by
  unfold Sys2Proof.asked
  rw [h.awaited]
  rcases assignmentAwaited s pf with _ | ⟨v, c⟩
  · exact h
  · refine ⟨?_, ?_, h.2.2.1, h.2.2.2.1, h.2.2.2.2⟩
    · simp only [h.chosen, h.1]
    · simp only [h.chosen, h.2.1]

/-- Asking changes the visits and the queues alone. -/
theorem asked_kept (s : State) (pf : Platform) :
    (asked s pf).cabins = s.cabins ∧ (asked s pf).store = s.store ∧ (asked s pf).clock = s.clock ∧
    (asked s pf).holds = s.holds ∧ (asked s pf).events = s.events := by
  unfold asked
  rcases assignmentAwaited s pf with _ | ⟨v, c⟩ <;> exact ⟨rfl, rfl, rfl, rfl, rfl⟩

/-- A platform that has asked awaits nothing. -/
theorem awaited_asked (s : State) (pf : Platform) : assignmentAwaited (asked s pf) pf = none := by
  rcases h : assignmentAwaited s pf with _ | ⟨v, c⟩
  · have e : asked s pf = s := by unfold asked; rw [h]
    rw [e, h]
  · have e : ∃ w : Visit, ((asked s pf).sequencers.get pf).current = some w ∧ w.assignmentAsked = true := by
      unfold asked
      rw [h]
      simp only [PerPlatform.get_set_same]
      exact ⟨_, rfl, rfl⟩
    obtain ⟨w, e, a⟩ := e
    unfold assignmentAwaited
    rw [e]
    simp only
    split
    · rfl
    · simp [a]

/-- Asking at one platform leaves the other's part. -/
theorem asked_other (s : State) {pf other : Platform} (h : other ≠ pf) :
    (asked s pf).sequencers.get other = s.sequencers.get other ∧ (asked s pf).queues.get other = s.queues.get other := by
  unfold asked
  rcases assignmentAwaited s pf with _ | ⟨v, c⟩
  · exact ⟨rfl, rfl⟩
  · exact ⟨PerPlatform.get_set_other _ _ h, PerPlatform.get_set_other _ _ h⟩

theorem awaited_asked_other (s : State) {pf other : Platform} (h : other ≠ pf) :
    assignmentAwaited (asked s pf) other = assignmentAwaited s other := by
  unfold assignmentAwaited
  rw [(asked_other s h).1, (asked_kept s pf).1]

theorem records_asked_other (s : State) {pf other : Platform} (h : other ≠ pf) :
    assignmentRecords (asked s pf) other = assignmentRecords s other := by
  unfold assignmentRecords
  simp only [awaited_asked_other s h, chosenFor, State.settings, (asked_other s h).2, (asked_kept s pf).2.1,
    (asked_kept s pf).2.2.1]

/-- With nothing awaited nothing is asked. -/
theorem asked_none {s : State} {pf : Platform} (h : assignmentAwaited s pf = none) :
    asked s pf = s ∧ assignmentRecords s pf = [] := by
  unfold asked assignmentRecords
  rw [h]
  exact ⟨rfl, rfl⟩

/-- Once both platforms have asked neither awaits anything. -/
theorem awaited_bothAsked (s : State) (pf : Platform) : assignmentAwaited (asked (asked s .a) .b) pf = none := by
  cases pf
  · rw [awaited_asked_other _ (by decide), awaited_asked]
  · exact awaited_asked _ _

/-! ## What a reaction does to the visits and the queues -/

theorem NothingAsked.trans {s t u : State} (h : NothingAsked s t) (k : NothingAsked t u) : NothingAsked s u :=
  ⟨k.1.trans h.1, k.2.1.trans h.2.1, h.2.2.trans k.2.2⟩

theorem NothingAsked.alike {s t : State} (h : NothingAsked s t) (r : Reaction s t) : Alike s t :=
  ⟨h.1, h.2.1, r.cabins, r.store, r.clock⟩

theorem NothingAsked.bothAsked {s t u : State} (h : NothingAsked s t) (r : Reaction s t) (k : BothAsked t u) :
    BothAsked s u := by
  have a := h.alike r
  have b := (a.asked .a).asked .b
  refine ⟨k.1.trans b.1, k.2.1.trans b.2.1, ?_⟩
  have q := h.2.2.trans k.2.2
  rw [a.records, a.records] at q
  exact q

theorem BothAsked.settled {s t : State} (h : BothAsked s t) (r : Reaction s t) (pf : Platform) :
    assignmentAwaited t pf = none := by
  rw [← awaited_bothAsked s pf]
  unfold assignmentAwaited
  rw [h.1, r.cabins, (asked_kept _ _).1, (asked_kept _ _).1]

theorem BothAsked.trans {s t u : State} (h : BothAsked s t) (r : Reaction s t)
    (k : NothingAsked t u ∨ BothAsked t u) : BothAsked s u := by
  rcases k with k | k
  · refine ⟨k.1.trans h.1, k.2.1.trans h.2.1, ?_⟩
    have q := h.2.2.trans k.2.2
    rwa [List.append_nil] at q
  · have a := asked_none (h.settled r .a)
    have b := asked_none (h.settled r .b)
    unfold BothAsked at k
    rw [a.1, b.1, a.2, b.2] at k
    refine ⟨k.1.trans h.1, k.2.1.trans h.2.1, ?_⟩
    have q := h.2.2.trans k.2.2
    rwa [List.append_nil, List.append_nil] at q

/-- A reaction, with what it does to the visits and the queues (R66): nothing, or the assignments awaited; and these where
the held grade falls below UNLOAD. -/
structure Followed (s t : State) : Prop where
  reach : Reaction s t
  parties : NothingAsked s t ∨ BothAsked s t
  fall : s.holds.held.atLeast .unload = true → t.holds.held.atLeast .unload = false → BothAsked s t

theorem Followed.of_nothing {s t : State} (r : Reaction s t) (h : NothingAsked s t) (g : t.holds.held = s.holds.held) :
    Followed s t := ⟨r, .inl h, fun a b => by rw [g, a] at b; cases b⟩

theorem Followed.refl (s : State) : Followed s s :=
  .of_nothing (Reaction.refl s) ⟨rfl, rfl, RecordedOf.refl s _⟩ rfl

theorem Followed.trans {s t u : State} (h : Followed s t) (k : Followed t u) : Followed s u := by
  refine ⟨h.reach.trans k.reach, ?_, fun a b => ?_⟩
  · rcases h.parties with p | p
    · exact k.parties.imp (p.trans ·) (p.bothAsked h.reach ·)
    · exact .inr (p.trans h.reach k.parties)
  · rcases e : t.holds.held.atLeast .unload with _ | _
    · exact (h.fall a e).trans h.reach k.parties
    · rcases h.parties with p | p
      · exact p.bothAsked h.reach (k.fall e b)
      · exact p.trans h.reach (.inr (k.fall e b))

/-- An append of a record of another kind than PARTY_ASSIGNED. -/
theorem followed_append (s : State) (r : EventRecord) (h : r.kind ≠ .partyAssigned) : Followed s (s.append r) :=
  .of_nothing (s.append_reaction r)
    ⟨by obtain ⟨e, q⟩ := s.append_eq r; rw [q], by obtain ⟨e, q⟩ := s.append_eq r; rw [q],
     .append_other s r (by simpa using h)⟩ (congrArg Holds.held (s.append_holds r))

theorem followed_logLatch (s : State) (src : Source) (old new : Grade) : Followed s (s.logLatch src old new) := by
  unfold State.logLatch
  split
  · exact followed_append s _ nofun
  · split
    · exact followed_append s _ nofun
    · exact .refl s

theorem followed_setPark (s : State) (r : Option ParkRecord) : Followed s (s.setPark r) :=
  .of_nothing (s.setPark_reaction r) ⟨rfl, rfl, [], rfl, rfl⟩ rfl

theorem followed_parkedTest (s : State) : Followed s s.parkedTest := by
  unfold State.parkedTest
  split
  · exact .refl s
  · split
    · exact (followed_setPark s _).trans (followed_append _ _ nofun)
    · exact .refl s

theorem followed_unparkTest (s : State) : Followed s s.unparkTest := by
  unfold State.unparkTest
  split
  · exact .refl s
  · split
    · exact followed_setPark s _
    · exact .refl s

theorem followed_parkOnChange (s : State) (old new : Grade) : Followed s (s.parkOnChange old new) := by
  unfold State.parkOnChange
  split
  · unfold State.createPark
    exact (followed_setPark s _).trans (followed_parkedTest _)
  · split
    · exact followed_setPark s _
    · exact .refl s

theorem followed_judgeUnload (s : State) : Followed s s.judgeUnload := by
  have q : ∀ x : Bool, Followed s { s with unload := { s.unload with complete := x } } := fun x =>
    .of_nothing ⟨rfl, rfl, rfl, rfl, rfl, rfl, rfl, rfl, rfl, rfl, rfl, rfl, rfl, rfl, rfl, fun _ => rfl, [], rfl⟩
      ⟨rfl, rfl, [], rfl, rfl⟩ rfl
  unfold State.judgeUnload
  simp only
  split
  · exact (q _).trans (followed_append _ _ nofun)
  · exact q _

/-- The records of an assignment, appended. -/
theorem appends_kept (s : State) (xs : List EventRecord) :
    ∃ e : Events, xs.foldl State.append s = { s with events := e } := by
  induction xs generalizing s with
  | nil => exact ⟨s.events, rfl⟩
  | cons r rest ih =>
    obtain ⟨e, h⟩ := s.append_eq r
    obtain ⟨f, k⟩ := ih (s.append r)
    exact ⟨f, by rw [List.foldl_cons, k, h]⟩

theorem records_are_assignments (s : State) (pf : Platform) :
    (assignmentRecords s pf).filter (fun e => [EventKind.partyAssigned].contains e.kind) = assignmentRecords s pf := by
  rw [List.filter_eq_self]
  intro e h
  unfold assignmentRecords at h
  split at h
  · cases h
  · obtain ⟨x, -, rfl⟩ := List.mem_map.mp h
    rfl

/-- Below UNLOAD a platform asks. -/
theorem askedIfAllowed_below {s : State} (h : s.holds.held.atLeast .unload = false) (pf : Platform) :
    askedIfAllowed s pf = (assignmentRecords s pf).foldl State.append (asked s pf) := by
  unfold askedIfAllowed
  rw [h]
  rfl

/-- Both platforms ask, below UNLOAD. -/
theorem bothAsked_assignIfDue (s : State) (h : s.holds.held.atLeast .unload = false) :
    BothAsked s ((s.assignIfDue .a).assignIfDue .b) := by
  rw [assignIfDue_eq, assignIfDue_eq]
  have ea := askedIfAllowed_below h .a
  obtain ⟨e, q⟩ := appends_kept (asked s .a) (assignmentRecords s .a)
  have al : Alike (asked s .a) (askedIfAllowed s .a) := by rw [ea, q]; exact ⟨rfl, rfl, rfl, rfl, rfl⟩
  have hb : (askedIfAllowed s .a).holds.held.atLeast .unload = false := by
    rw [ea, q]; show (asked s .a).holds.held.atLeast _ = _; rw [(asked_kept s .a).2.2.2.1, h]
  have eb : askedIfAllowed (askedIfAllowed s .a) .b =
      (assignmentRecords s .b).foldl State.append (asked (askedIfAllowed s .a) .b) := by
    rw [askedIfAllowed_below hb, al.records, records_asked_other s (by decide)]
  obtain ⟨f, r⟩ := appends_kept (asked (askedIfAllowed s .a) .b) (assignmentRecords s .b)
  have b := al.asked .b
  refine ⟨by rw [eb, r]; exact b.1, by rw [eb, r]; exact b.2.1, assignmentRecords s .a ++ assignmentRecords s .b, ?_, ?_⟩
  · unfold Recorded
    rw [eb, List.foldl_append]
    refine (State.appends_events ?_ _)
    rw [(asked_kept _ _).2.2.2.2, ea]
    exact State.appends_events (asked_kept s .a).2.2.2.2 _
  · rw [List.filter_append, records_are_assignments, records_are_assignments]

theorem followed_heldChanged (s : State) (old : Grade) :
    (old.atLeast .unload = true → s.holds.held.atLeast .unload = false →
      BothAsked s (s.heldChanged old s.holds.held)) ∧
    Reaction s (s.heldChanged old s.holds.held) ∧
    (NothingAsked s (s.heldChanged old s.holds.held) ∨ BothAsked s (s.heldChanged old s.holds.held)) := by
  have k := (followed_judgeUnload s).trans (followed_parkOnChange _ old s.holds.held)
  have g : ((s.judgeUnload).parkOnChange old s.holds.held).holds = s.holds :=
    (State.parkOnChange_holds _ _ _).trans s.judgeUnload_holds
  rcases e : s.holds.held.atLeast .unload with _ | _
  · have q : s.heldChanged old s.holds.held =
        (((s.judgeUnload).parkOnChange old s.holds.held).assignIfDue .a).assignIfDue .b := by
      unfold State.heldChanged
      simp only [e]
      rfl
    have b := bothAsked_assignIfDue ((s.judgeUnload).parkOnChange old s.holds.held) (by rw [g, e])
    have c : BothAsked s (s.heldChanged old s.holds.held) := by
      rw [q]
      rcases k.parties with p | p
      · exact p.bothAsked k.reach b
      · exact p.trans k.reach (.inr b)
    exact ⟨fun _ _ => c, s.heldChanged_reaction _ _, .inr c⟩
  · have q : s.heldChanged old s.holds.held = (s.judgeUnload).parkOnChange old s.holds.held := by
      unfold State.heldChanged
      simp only [e]
      rfl
    rw [q]
    exact ⟨fun _ h => Bool.noConfusion h, k.reach, k.parties⟩

/-- What a change of a hold source does to the visits and the queues. -/
theorem followed_changeSource (s : State) (src : Source) (f : HoldRecord → HoldRecord) :
    Followed s (s.changeSource src f) := by
  have start : ∀ x : Holds, Reaction s { s with holds := x } ∧ NothingAsked s { s with holds := x } := fun _ =>
    ⟨⟨rfl, rfl, rfl, rfl, rfl, rfl, rfl, rfl, rfl, rfl, rfl, rfl, rfl, rfl, rfl, fun _ => rfl, [], rfl⟩,
     rfl, rfl, [], rfl, rfl⟩
  have held := s.changeSource_holds src f
  revert held
  unfold State.changeSource
  simp only
  generalize HoldTable.heldGrade _ = new
  generalize hx : ({ table := _, held := new } : Holds) = x
  obtain ⟨r, n⟩ := start x
  have l := followed_logLatch { s with holds := x } src (s.holds.table.get src).latched
    (latchOf (s.settings.auto.get src) (f (s.holds.table.get src)))
  have lh : (State.logLatch { s with holds := x } src (s.holds.table.get src).latched
    (latchOf (s.settings.auto.get src) (f (s.holds.table.get src)))).holds = x := State.logLatch_holds _ _ _ _
  have xn : x.held = new := by rw [← hx]
  generalize State.logLatch { s with holds := x } src (s.holds.table.get src).latched
    (latchOf (s.settings.auto.get src) (f (s.holds.table.get src))) = u at l lh ⊢
  intro held
  have ru : Reaction s u := r.trans l.reach
  have pu : NothingAsked s u ∨ BothAsked s u := l.parties.imp (n.trans ·) (n.bothAsked r ·)
  split
  · rename_i same
    refine ⟨ru, pu, fun a b => ?_⟩
    rw [lh, xn, ← same, a] at b
    cases b
  · have un : u.holds.held = new := by rw [lh, xn]
    obtain ⟨fall, reach, parties⟩ := followed_heldChanged u s.holds.held
    rw [un] at fall reach parties
    refine ⟨ru.trans reach, ?_, fun a b => ?_⟩
    · rcases pu with p | p
      · exact parties.imp (p.trans ·) (p.bothAsked ru ·)
      · exact .inr (p.trans ru parties)
    · have b' : new.atLeast .unload = false := by
        rw [State.heldChanged_holds, lh, xn] at b
        exact b
      rcases pu with p | p
      · exact p.bothAsked ru (fall a b')
      · exact p.trans ru (.inr (fall a b'))

theorem followed_setCondition (s : State) (src : Source) (g : Grade) : Followed s (s.setCondition src g) := by
  unfold State.setCondition
  split
  · exact .refl s
  · exact followed_changeSource s src _

theorem followed_deliverEvent (s : State) (src : Source) (g : Grade) : Followed s (s.deliverEvent src g) := by
  unfold State.deliverEvent
  split
  · exact .refl s
  · exact followed_changeSource s src _

/-- The park tests of a tick. -/
theorem followed_parkTests (s : State) : Followed s s.parkTests := by
  refine ((followed_unparkTest s).trans (followed_parkedTest _)).trans ?_
  unfold State.parkTests State.overshootTest
  split
  · exact followed_deliverEvent _ _ _
  · exact .refl _

end Sys2Proof
end

