-- ==== Sys2Proof/Laws/Figures.lean ====
section
/-! SUPPORT. The figures of `State.refresh`: forming them twice is forming them once, and what they do not read does not
disturb them. -/

namespace Sys2Proof

open Machine

/-- Forming the figures twice is forming them once. -/
@[simp] theorem Machine.State.refresh_refresh (s : State) : s.refresh.refresh = s.refresh := rfl

theorem Machine.State.refresh_formed (s : State) : Formed s.refresh := rfl

/-- The figures of a formed state, one by one. -/
theorem Formed.ceiling {s : State} (h : Formed s) : s.permit.ceiling = s.ceilingNow :=
  (congrArg (fun t : State => t.permit.ceiling) h).symm

theorem Formed.brakeDemand {s : State} (h : Formed s) : s.brakeDemand = s.brakeWanted :=
  (congrArg (fun t : State => t.brakeDemand) h).symm

theorem Formed.lamps {s : State} (h : Formed s) (pf : Platform) :
    (s.output.image.get pf).lamps = lampsFor s.holds.held (s.sequencers.get pf).current := by
  have e : s.formLamps = s.output.image := congrArg (fun t : State => t.output.image) h
  rw [← e]
  cases pf <;> rfl

/-- A state is formed when its three figures are. -/
theorem formed_of_figures {s : State} (ha : s.output.image = s.formLamps) (hc : s.permit.ceiling = s.ceilingNow)
    (hb : s.brakeDemand = s.brakeWanted) : Formed s := by
  unfold Formed State.refresh
  rw [← ha, ← hc, ← hb]

/-- The figures do not read the ports. -/
theorem Formed.setPort {s : State} (h : Formed s) (p : Port) (x : PortState) : Formed (s.setPort p x) :=
  formed_of_figures (congrArg (fun t : State => t.output.image) h).symm h.ceiling h.brakeDemand

/-- The figures do not read the queue of commands. -/
theorem Formed.withPending {s : State} (h : Formed s) (rest : List Instr) : Formed (s.withPending rest) :=
  formed_of_figures (congrArg (fun t : State => t.output.image) h).symm h.ceiling h.brakeDemand

/-- In a formed state the ceiling is 0 at STOP and BRAKE (R159). -/
theorem Formed.stopped {s : State} (h : Formed s) (g : s.holds.held = .stop ∨ s.holds.held = .brake) :
    s.permit.ceiling = 0 := by
  rw [h.ceiling]
  have e : s.gradeTerm = some 0 := by
    unfold State.gradeTerm
    rcases g with g | g <;> rw [g]
  unfold State.ceilingNow
  simp only [e, bounded]
  split <;> split <;> simp

end Sys2Proof
end

