-- ==== Sys2Proof/Laws/Link.lean ====
section
/-! SUPPORT. The taking of a request, said once: what a ready port answers, and that nothing but the port changes when a
request is refused or only read. -/

namespace Sys2Proof

open Machine

/-- A running part takes the command. -/
theorem Machine.State.whenRunning_running {s : State} (h : s.phase = .running) (act : State → State) :
    s.whenRunning act = act s := by
  unfold State.whenRunning; rw [h]

/-- On a ready port the request goes to its owner when its kind is open there, and is refused otherwise. -/
theorem Machine.State.take_ready {s : State} {p : Port} (h : inReply (s.ports.states.get p) = false) (kind : Nat)
    (own : State → Answer) :
    s.take p kind own = State.reply p kind (if kindOpen kind p then own s else s.refuse .refusedPort) := by
  unfold State.take
  split
  · rename_i r e
    rw [e] at h
    exact absurd h (by simp [inReply])
  · rfl

/-- A ready part answers a request row by its owner's answer. -/
theorem Machine.State.request_ready {s : State} {p : Port} (h : Ready s p) {kind : Nat} (own : State → Answer)
    (o : kindOpen kind p = true) : s.request p kind own = .next (State.reply p kind (own s)) := by
  unfold State.request State.running
  rw [State.whenRunning_running h.1, State.take_ready h.2, if_pos o]

/-- A request of a kind that is not open on its port is answered REFUSED_PORT. -/
theorem Machine.State.request_closed {s : State} {p : Port} (h : Ready s p) {kind : Nat} (own : State → Answer)
    (o : kindOpen kind p = false) :
    s.request p kind own = .next (State.reply p kind (s.refuse .refusedPort)) := by
  unfold State.request State.running
  rw [State.whenRunning_running h.1, State.take_ready h.2, o]
  rfl

/-- A request on a port in REPLY is lost (R174). -/
theorem Machine.State.request_inReply {s : State} {p : Port} (h : s.phase = .running)
    (r : inReply (s.ports.states.get p) = true) (kind : Nat) (own : State → Answer) :
    s.request p kind own = .next s := by
  unfold State.request State.running
  rw [State.whenRunning_running h]
  unfold State.take
  split
  · rfl
  · rename_i e
    revert r
    generalize s.ports.states.get p = x at e ⊢
    cases x <;> simp [inReply] at e ⊢

/-- The reply to an answer that carries no rollover flag of its own. -/
theorem replied_of_reply {s t : State} {p : Port} {kind : Nat} {a : Answer} (e : t = State.reply p kind a)
    (hr : a.rollover = none) (hp : a.state.ports = s.ports) : Replied s t p kind a.result a.payload := by
  subst e
  refine ⟨?_, ?_, ?_⟩
  · show (a.state.setPort p _).ports.rate = _
    simp [hp]
  · intro q hq
    show ((a.state.setPort p _).ports.states).get q = _
    simp [PerPort.get_set_other _ _ hq, hp]
  · show ((a.state.setPort p _).ports.states).get p = _
    simp [State.reply, hr, State.header, State.parkedFlag]

/-- A refused request changes its port alone. -/
theorem refused_reply (s : State) (p : Port) (kind : Nat) (r : Result) :
    RepliedOnly s (State.reply p kind (s.refuse r)) p kind r [] :=
  ⟨rfl, replied_of_reply (a := s.refuse r) rfl rfl rfl⟩

/-- A request that is only read changes its port alone. -/
theorem accepted_reply (s : State) (p : Port) (kind : Nat) (payload : List Byte) :
    RepliedOnly s (State.reply p kind (s.accept payload)) p kind .accepted payload :=
  ⟨rfl, replied_of_reply (a := s.accept payload) rfl rfl rfl⟩

/-- R172 byte by byte: a byte more is eight shifts more. -/
theorem Machine.crc16_append (bytes : List Byte) (b : Byte) : crc16 (bytes ++ [b]) = crcByte (crc16 bytes) b := by
  simp [crc16, List.foldl_append]

/-- R177: the header, with the parked flag read from the park record. -/
theorem Machine.State.parkedFlag_eq (s : State) : s.parkedFlag = s.permit.park.any fun r => r.state = .parked := by
  unfold State.parkedFlag
  cases s.permit.park <;> rfl

end Sys2Proof
end

