-- ==== Sys2Proof/Laws/Frames.lean ====
section
/-! SUPPORT. The frames of the commands that reach a hold source, said once: `HoldFrame` for a change of one source, and
what a change leaves of the source's record. -/

namespace Sys2Proof.Machine

/-! ## What a change of one source sets off -/

theorem State.append_kept (s : State) (r : EventRecord) :
    (s.append r).unload = s.unload ∧ (s.append r).permit = s.permit ∧ (s.append r).sequencers = s.sequencers ∧
    (s.append r).queues = s.queues := by
  obtain ⟨e, h⟩ := s.append_eq r
  rw [h]; exact ⟨rfl, rfl, rfl, rfl⟩

theorem State.logLatch_kept (s : State) (src : Source) (old new : Grade) :
    (s.logLatch src old new).unload = s.unload ∧ (s.logLatch src old new).permit = s.permit ∧
    (s.logLatch src old new).sequencers = s.sequencers ∧ (s.logLatch src old new).queues = s.queues := by
  unfold State.logLatch
  split
  · exact s.append_kept _
  · split
    · exact s.append_kept _
    · exact ⟨rfl, rfl, rfl, rfl⟩

theorem State.judgeUnload_visits (s : State) :
    s.judgeUnload.sequencers = s.sequencers ∧ s.judgeUnload.queues = s.queues := by
  unfold State.judgeUnload
  simp only
  split
  · exact ⟨(State.append_kept _ _).2.2.1, (State.append_kept _ _).2.2.2⟩
  · exact ⟨rfl, rfl⟩

theorem State.parkedTest_visits (s : State) :
    s.parkedTest.sequencers = s.sequencers ∧ s.parkedTest.queues = s.queues := by
  unfold State.parkedTest
  split
  · exact ⟨rfl, rfl⟩
  · split
    · exact ⟨(State.append_kept _ _).2.2.1, (State.append_kept _ _).2.2.2⟩
    · exact ⟨rfl, rfl⟩

theorem State.parkOnChange_visits (s : State) (old new : Grade) :
    (s.parkOnChange old new).sequencers = s.sequencers ∧ (s.parkOnChange old new).queues = s.queues := by
  unfold State.parkOnChange
  split
  · exact State.parkedTest_visits _
  · split <;> exact ⟨rfl, rfl⟩

/-- A change of the held grade to UNLOAD or above assigns nothing. -/
theorem State.heldChanged_visits (s : State) (old : Grade) {new : Grade} (h : new.atLeast .unload = true) :
    (s.heldChanged old new).sequencers = s.sequencers ∧ (s.heldChanged old new).queues = s.queues := by
  unfold State.heldChanged
  simp only
  rw [if_pos h]
  exact ⟨(State.parkOnChange_visits _ _ _).1.trans s.judgeUnload_visits.1,
    (State.parkOnChange_visits _ _ _).2.trans s.judgeUnload_visits.2⟩

/-- A change of a source that leaves the held grade at UNLOAD or above assigns nothing. -/
theorem State.changeSource_visits (s : State) (src : Source) (f : HoldRecord → HoldRecord)
    (h : (s.changeSource src f).holds.held.atLeast .unload = true) :
    (s.changeSource src f).sequencers = s.sequencers ∧ (s.changeSource src f).queues = s.queues := by
  rw [State.changeSource_holds] at h
  unfold State.changeSource
  simp only at h ⊢
  generalize HoldTable.heldGrade _ = new at h ⊢
  generalize hu : State.logLatch _ _ _ _ = u
  have k := State.logLatch_kept { s with holds := { table := s.holds.table.set src { f (s.holds.table.get src) with
    latched := latchOf (s.settings.auto.get src) (f (s.holds.table.get src)) }, held := new } } src
    (s.holds.table.get src).latched (latchOf (s.settings.auto.get src) (f (s.holds.table.get src)))
  rw [hu] at k
  split
  · exact ⟨k.2.2.1, k.2.2.2⟩
  · have q := u.heldChanged_visits s.holds.held h
    exact ⟨q.1.trans k.2.2.1, q.2.trans k.2.2.2⟩

/-- A change of a source that leaves the held grade as it is sets nothing off. -/
theorem State.changeSource_still (s : State) (src : Source) (f : HoldRecord → HoldRecord)
    (h : (s.changeSource src f).holds.held = s.holds.held) :
    (s.changeSource src f).unload = s.unload ∧ (s.changeSource src f).permit = s.permit ∧
    (s.changeSource src f).sequencers = s.sequencers ∧ (s.changeSource src f).queues = s.queues := by
  have e := s.changeSource_holds src f
  rw [e] at h
  unfold State.changeSource
  simp only
  rw [if_pos h.symm]
  exact State.logLatch_kept _ _ _ _

end Sys2Proof.Machine

namespace Sys2Proof

open Machine

/-! ## The frame -/

/-- What a reaction is to the visits and the queues does not hang on the figures or the ports. -/
theorem parties_congr {s s' t t' : State} (a : Alike s s') (b : t'.sequencers = t.sequencers)
    (c : t'.queues = t.queues) (e : s'.events = s.events) (f : t'.events = t.events) :
    (NothingAsked s t → NothingAsked s' t') ∧ (BothAsked s t → BothAsked s' t') := by
  refine ⟨fun h => ⟨b.trans (h.1.trans a.1.symm), c.trans (h.2.1.trans a.2.1.symm), h.2.2.congr e f⟩, fun h => ?_⟩
  have q := (a.asked .a).asked .b
  refine ⟨b.trans (h.1.trans q.1.symm), c.trans (h.2.1.trans q.2.1.symm), ?_⟩
  rw [a.records, a.records]
  exact h.2.2.congr e f

/-- A reaction, its figures formed again, is a reaction in the sense of the statements. -/
theorem reacted_of_followed {s t : State} (k : Followed s t) : Reacted s t.refresh := by
  obtain ⟨⟨h1, h2, h3, h4, h5, h6, h7, h8, h9, h10, h11, h12, h13, h14, h15, h16, xs, h17⟩, parties, fall⟩ := k
  have img : t.output.image = s.output.image := congrArg Output.image h5
  have p := parties_congr (s := s) (s' := s) (t := t) (t' := t.refresh) ⟨rfl, rfl, rfl, rfl, rfl⟩ rfl rfl rfl rfl
  refine ⟨?_, fun pf => ⟨h16 pf, ?_, ?_⟩, parties.imp p.1 p.2, fun a b => p.2 (fall a b)⟩
  · cases t
    simp only at *
    subst h1 h2 h3 h4 h5 h6 h7 h8 h9 h10 h11 h13
    rw [h14, h15]
    rfl
  · rw [← img]
    cases pf <;> rfl
  · rw [← img]
    cases pf <;> rfl

/-- The other ports' records do not enter a hold frame. -/
theorem Reacted.setPorts {s t : State} (h : Reacted s t) (x : Ports) :
    Reacted { s with ports := x } { t with ports := x } := by
  obtain ⟨e, v, parties, fall⟩ := h
  have p := parties_congr (s := s) (s' := { s with ports := x }) (t := t) (t' := { t with ports := x })
    ⟨rfl, rfl, rfl, rfl, rfl⟩ rfl rfl rfl rfl
  refine ⟨?_, v, parties.imp p.1 p.2, fun a b => p.2 (fall a b)⟩
  conv_lhs => rw [e]

theorem HoldFrame.setPorts {s t : State} {srcs : List Source} (h : HoldFrame s t srcs) (x : Ports) :
    HoldFrame { s with ports := x } { t with ports := x } srcs := ⟨h.1.setPorts x, h.2.1, h.2.2.1, h.2.2.2⟩

theorem HoldFrame.same (s : State) (srcs : List Source) (h : Formed s) : HoldFrame s s srcs :=
  ⟨(congrArg (Reacted s) h).mp (reacted_of_followed (Followed.refl s)), fun _ _ => rfl, fun _ => ⟨rfl, rfl⟩,
   fun _ => ⟨rfl, rfl, rfl, rfl⟩⟩

theorem holdFrame_refresh (s : State) (srcs : List Source) : HoldFrame s s.refresh srcs :=
  ⟨reacted_of_followed (Followed.refl s), fun _ _ => rfl, fun _ => ⟨rfl, rfl⟩, fun _ => ⟨rfl, rfl, rfl, rfl⟩⟩

/-- A change of one source. -/
theorem holdFrame_changeSource (s : State) (src : Source) (f : HoldRecord → HoldRecord) :
    HoldFrame s (s.changeSource src f).refresh [src] := by
  refine ⟨reacted_of_followed (followed_changeSource s src f), ?_, s.changeSource_visits src f, ?_⟩
  · intro other h
    show (s.changeSource src f).holds.table.get other = _
    rw [State.changeSource_holds]
    exact HoldTable.get_set_other _ _ (by simpa using h)
  · intro h
    have q := s.changeSource_still src f h
    refine ⟨q.1, ?_, q.2.2.1, q.2.2.2⟩
    show (s.changeSource src f).permit.park = _
    rw [q.2.1]

theorem holdFrame_setCondition (s : State) (src : Source) (g : Grade) :
    HoldFrame s (s.setCondition src g).refresh [src] := by
  unfold State.setCondition
  split
  · exact holdFrame_refresh s _
  · exact holdFrame_changeSource s src _

theorem holdFrame_deliverEvent (s : State) (src : Source) (g : Grade) :
    HoldFrame s (s.deliverEvent src g).refresh [src] := by
  unfold State.deliverEvent
  split
  · exact holdFrame_refresh s _
  · exact holdFrame_changeSource s src _

/-! ## The source's record -/

theorem max_of_le {g h : Grade} (e : h.value ≤ g.value) : g.max h = g := by
  unfold Grade.max
  split
  · exact Grade.value_injective (by omega)
  · rfl

/-- What a condition leaves of the record of a source that keeps its peak, its held grade the largest latch. -/
theorem setCondition_record {s : State} (h : HoldsDerived s) (src : Source) (g : Grade)
    (a : s.settings.auto.get src = false) :
    (s.setCondition src g).holds.table.get src = latchedAt (s.holds.table.get src) g ∧
    (s.setCondition src g).holds.held = (s.setCondition src g).holds.table.heldGrade := by
  unfold State.setCondition
  split
  · rename_i e
    refine ⟨?_, h.2⟩
    obtain ⟨le, latch⟩ := h.1 src
    rw [a] at latch
    have q : (s.holds.table.get src).peak.max g = (s.holds.table.get src).peak := max_of_le (by rw [← e]; exact le)
    rcases hr : s.holds.table.get src with ⟨c, p, f, l⟩
    rw [hr] at latch e q
    simp only [latchOf] at latch e q
    simp [latchedAt, q, latch, e]
  · rw [State.changeSource_holds]
    refine ⟨?_, by dsimp only⟩
    simp only [HoldTable.get_set_same, a, latchedAt, HoldRecord.withCond, latchOf, Bool.false_eq_true, if_false]

end Sys2Proof
end

