-- ==== Sys2Proof/Laws/Movement.lean ====
section
/-! SUPPORT. What a movement of the wheel hands over and which park tests follow it, in the forms the statements use. -/

namespace Sys2Proof

open Machine

/-- A command that only a running part takes is its effect, on a running part. -/
theorem Machine.State.running_of {s : State} (h : s.phase = .running) (act : State → State) :
    s.running act = .next (act s) := by
  simp [State.running, State.whenRunning, h]

/-- The crossings of a movement, taken by their kinds, are those the Position Counter hands over. -/
theorem handed_eq (s : State) (before after : Nat) (pf : Platform) :
    handed s before after pf = s.handCrossings before after pf := by
  unfold handed State.handCrossings
  congr 1

theorem handedBack_eq (s : State) (before after : Nat) (pf : Platform) :
    handedBack s before after pf = s.handRetreats before after pf := rfl

/-- A point of a cabin in the statements' words. -/
theorem crossedAt_eq (s : State) (pf : Platform) (k : Nat) (c : Crossing) : crossedAt s pf k c = s.crossedPoint pf k c := by
  cases pf <;> cases c <;> rfl

/-- The points that a backward correction leaves crossed. -/
theorem crossedUpTo_eq (s : State) (before : Nat) : crossedUpTo s before = s.takenBack before := by
  simp [crossedUpTo, State.takenBack, crossedAt_eq]

/-- A crossing handed over does not stay crossed (R11). -/
theorem not_staysCrossed_of_mem {s : State} {before after : Nat} {pf : Platform} {x : Nat × Crossing}
    (h : x ∈ s.forwardCrossings before after pf) : s.staysCrossed pf x = false := by
  unfold State.forwardCrossings at h
  split at h
  · simpa using (List.mem_filter.mp h).2
  · cases h

/-- A tick that has passed the points of a θ changes the position alone. -/
@[simp] theorem Machine.State.passOver_position (s : State) (theta : Nat) :
    (s.passOver theta).position = s.position.passOver theta := rfl

/-- A forward tick of a running part, command to state. -/
theorem exec_forwardTick {s : State} (h : s.phase = .running) : exec .forwardTick s = .next s.forwardTick.refresh :=
  State.running_of h _

theorem exec_reverseTick {s : State} (h : s.phase = .running) : exec .reverseTick s = .next s.reverseTick.refresh :=
  State.running_of h _

/-- An index edge that is taken. -/
theorem exec_indexEdge {s : State} (h : s.phase = .running) (f : s.position.lastDirection = .forward) :
    exec .indexEdge s = .next s.takenEdge.refresh := by
  show s.running _ = _
  rw [State.running_of h]
  simp [f]

/-- Without a move of the target there are no tests of it. -/
@[simp] theorem Machine.State.movedTests_false (s : State) : s.movedTests false = s := rfl

@[simp] theorem Machine.State.movedTests_true (s : State) : s.movedTests true = (s.parkedTest).overshootTest := rfl

/-- Without a park record no test of it finds anything. -/
theorem Machine.State.parkTests_none {s : State} (h : s.permit.park = none) : s.parkTests = s := by
  simp [State.parkTests, State.unparkTest, State.parkedTest, State.overshootTest, State.overshot, h]

/-- In PARKING and STEPPING the tests of a tick are those of a move of the target. -/
theorem Machine.State.parkTests_moving {s : State} {r : ParkRecord} (h : s.permit.park = some r)
    (m : r.state ≠ .parked) : s.parkTests = s.movedTests true := by
  simp [State.parkTests, State.unparkTest, h, m]

/-- R80 by its cases: a visit in PASSING or SECURED ends, any other carries its flag. -/
theorem Machine.State.losePosition_eq (s : State) (pf : Platform) :
    s.losePosition pf =
      match (s.sequencers.get pf).current with
      | none => s
      | some v =>
        if v.state ∈ [.passing, .secured] then s.endVisit pf { v with positionLost := true }
        else
          let q := s.sequencers.get pf
          { s with sequencers := s.sequencers.set pf { q with current := some { v with positionLost := true } } } := by
  unfold State.losePosition
  cases (s.sequencers.get pf).current with
  | none => rfl
  | some v => simp [State.setVisit, State.setSequencer]

end Sys2Proof
end

