-- ==== Sys2Proof/Laws/Saves.lean ====
section
/-! SUPPORT. What the beginning and the end of a save do to the saved copy (R183). -/

namespace Sys2Proof

open Machine

/-- The store after the end of a save. -/
theorem Machine.State.endSave_store {s : State} {j : SaveJob} (hj : s.store.saving = some j) (passed : Bool) :
    (s.endSave passed).store =
      { s.store with slots := if passed then s.store.slots.set j.intoOne (some j.copy) else s.store.slots
                     saving := none } := by
  simp only [State.endSave, hj, State.logPlain, State.append]
  split <;> rfl

/-- A sound save that passes makes its copy the saved copy; one that fails leaves the saved copy as it was. -/
theorem Machine.State.endSave_saved {s : State} (h : SaveKept s) {j : SaveJob} (hj : s.store.saving = some j)
    (passed : Bool) :
    (s.endSave passed).store.slots.saved = if passed then some (j.intoOne, j.copy) else s.store.slots.saved := by
  obtain ⟨wide, sound⟩ := h
  obtain ⟨ok, free, -, next⟩ := sound j hj
  rw [State.endSave_store hj]
  cases passed
  · rfl
  simp only [if_true]
  unfold Slots.saved Slots.set goodCopy at *
  rcases hb : j.intoOne
  · simp only [hb, Bool.false_eq_true, if_false, ok, Option.filter_some, if_true] at *
    rcases h1 : s.store.slots.slot1 with _ | d
    · simp
    · simp only [free, h1, Option.filter_none, Option.filter_some] at *
      by_cases good : d.settings.geometry.ok
      · simp only [good, if_true] at *
        obtain ⟨-, number⟩ := next true d rfl
        have := wide d (Or.inr rfl)
        simp [Copy.newer, number]
        omega
      · simp [good]
  · simp only [hb, if_true, ok, Option.filter_some] at *
    rcases h0 : s.store.slots.slot0 with _ | d
    · simp
    · simp only [free, h0, Option.filter_none, Option.filter_some] at *
      by_cases good : d.settings.geometry.ok
      · simp only [good, if_true] at *
        obtain ⟨-, number⟩ := next false d rfl
        have := wide d (Or.inl rfl)
        have newer : j.copy.newer d = true := by
          simp [Copy.newer, number]
          omega
        simp [newer]
      · simp [good]

/-- The end of a save leaves none in progress, and the numbers 16 bits wide. -/
theorem Machine.State.endSave_kept {s : State} (h : SaveKept s) (passed : Bool) : SaveKept (s.endSave passed) := by
  rcases hj : s.store.saving with _ | j
  · simpa [State.endSave, hj] using h
  · obtain ⟨wide, sound⟩ := h
    obtain ⟨-, -, first, next⟩ := sound j hj
    have small : j.copy.number < 65536 := by
      rcases hs : s.store.slots.saved with _ | ⟨one, c⟩
      · rw [(first hs).2]; decide
      · rw [(next one c hs).2]; exact Nat.mod_lt _ (by decide)
    unfold SaveKept
    rw [State.endSave_store hj]
    refine ⟨fun c hc => ?_, fun k hk => by simp at hk⟩
    cases passed
    · exact wide c hc
    · simp only [if_true, Slots.set] at hc
      split at hc <;> rcases hc with hc | hc
      · exact wide c (Or.inl hc)
      · obtain rfl := Option.some.inj hc; exact small
      · obtain rfl := Option.some.inj hc; exact small
      · exact wide c (Or.inr hc)

/-- A save begins sound, with a legal geometry. -/
theorem Machine.State.beginSave_kept {s : State} (h : SaveKept s) (lawful : s.geometry.ok = true) :
    SaveKept s.beginSave := by
  have settled (x : Slots) (wide : ∀ c, x.slot0 = some c ∨ x.slot1 = some c → c.number < 65536) :
      SaveKept { s with store := { s.store with slots := x } } → SaveKept
        (State.beginSave { s with store := { s.store with slots := x } }) := by
    intro _
    rcases x with ⟨_ | a, _ | b⟩
    · simp [SaveKept, State.beginSave, Slots.set, Slots.saved, goodCopy]; exact lawful
    · by_cases gb : b.settings.geometry.ok <;>
        simp [SaveKept, State.beginSave, Slots.set, Slots.saved, goodCopy, Option.filter, gb] <;>
        exact ⟨wide b (Or.inr rfl), lawful⟩
    · by_cases ga : a.settings.geometry.ok
      · simp [SaveKept, State.beginSave, Slots.set, Slots.saved, goodCopy, Option.filter, ga]
        exact ⟨wide a (Or.inl rfl), lawful⟩
      · simp [SaveKept, State.beginSave, Slots.set, Slots.saved, goodCopy, Option.filter, ga]
        exact lawful
    · by_cases ga : a.settings.geometry.ok <;> by_cases gb : b.settings.geometry.ok <;>
        by_cases newer : b.newer a <;>
        simp [SaveKept, State.beginSave, Slots.set, Slots.saved, goodCopy, Option.filter, ga, gb, newer] <;>
        first
        | exact ⟨wide a (Or.inl rfl), lawful⟩
        | exact ⟨wide b (Or.inr rfl), lawful⟩
  exact settled s.store.slots h.1 h

end Sys2Proof
end

