-- ==== Sys2Proof/Tests/Slice0.lean ====
section
/-! SUPPORT. Tests of single commands on small states, and for each statement with hypotheses a state and operands that
meet them. -/

namespace Sys2Proof.Tests

open Sys2Proof.Machine

/-! ## Well-formedness: one ill-formed command for each check -/

theorem test_wf_one_byte : (Instr.cabinRead .drive 255).wf = true ∧ (Instr.cabinRead .drive 256).wf = false := by decide

theorem test_wf_two_bytes :
    (Instr.partyCancel .controlRoom 65535).wf = true ∧ (Instr.partyCancel .controlRoom 65536).wf = false := by decide

theorem test_wf_four_bytes :
    (Instr.configWrite .controlRoom 1 4294967295).wf = true ∧
    (Instr.configWrite .controlRoom 1 4294967296).wf = false := by decide

theorem test_wf_record_widths :
    (Instr.occupancyDeclare .controlRoom 0 1 [(65536, 1)]).wf = false ∧
    (Instr.occupancyDeclare .controlRoom 0 1 [(1, 256)]).wf = false := by decide

theorem test_wf_record_number :
    (Instr.occupancyDeclare .controlRoom 0 1 (List.replicate 20 (1, 1))).wf = true ∧
    (Instr.occupancyDeclare .controlRoom 0 1 (List.replicate 21 (1, 1))).wf = false := by decide

theorem test_wf_payload_length :
    (Instr.unknownKindRequest .drive 0 (List.replicate 64 0)).wf = true ∧
    (Instr.unknownKindRequest .drive 0 (List.replicate 65 0)).wf = false := by decide

theorem test_wf_discard_begins_a_frame :
    (Instr.crcWrongDiscard .drive [0xA5, 1, 0]).wf = true ∧ (Instr.crcWrongDiscard .drive [0xA4, 1, 0]).wf = false ∧
    (Instr.crcWrongDiscard .drive [0xA5, 1]).wf = false := by decide

/-- No row of the table has bits, so no word spells a command. -/
theorem test_no_word_spells_a_command :
    decodeTableWord 8 0 = none ∧ State.reset.withFetchWord 8 0 = State.reset := by decide +kernel

/-! ## Small states -/

/-- The state after a command. -/
def result (i : Instr) (s : State) : State :=
  match exec i s with
  | .next t => t
  | .fault _ => s
  | .refused _ => s

/-- The result and the payload a port holds. -/
def answer (s : State) (p : Port) : Option (Result × List Byte) :=
  match s.ports.states.get p with
  | .reply r => some (r.result, r.payload)
  | _ => none

def calmTable : HoldTable :=
  { HoldTable.atPowerOn .none .none with powerOn := HoldRecord.clear, wind := HoldRecord.clear
                                         position := HoldRecord.clear }

/-- A part at work: position verified, last tick forward, class 0, nothing held, every cabin empty with its door
latched. -/
def calm : State :=
  State.refresh
    { State.reset with
      position := { State.reset.position with verified := true, lastDirection := .forward }
      cabins := State.reset.cabins.map fun c => { c with occupancyUnknown := false, door := .latched }
      wind := { State.reset.wind with windClass := .level 0 }
      holds := { table := calmTable, held := .none }
      unload := { occupied := 0, complete := false }
      permit := { State.reset.permit with drive := { speed := 40, position := some 0, state := some .running
                                                     brakeReleased := true } } }

/-- `calm` with the condition of one source standing at a grade. -/
def holdAt (src : Source) (g : Grade) : State :=
  State.refresh
    { calm with holds := { table := calmTable.set src (HoldRecord.standing g), held := g }
                unload := { occupied := 0, complete := g.atLeast .unload } }

/-- `calm` with one source held by its latch alone, at `g`. -/
def latched (src : Source) (g : Grade) : State :=
  State.refresh
    { calm with holds := { table := calmTable.set src (HoldRecord.struck g), held := g }
                unload := { occupied := 0, complete := g.atLeast .unload } }

def party (tag size : Nat) : Party :=
  { tag := tag, size := size, accessible := false, alone := false, passCount := 0, timeTag := 0 }

/-- A visit of cabin 0 with two riders at its ENTER. -/
def visitIn (st : VisitState) : Visit :=
  { number := 1, cabin := 0, directive := .alightBoard, reservedTag := none, occupancyAtEnter := some 2
    alighted := none, assigned := [], state := st, retries := 0, boardingOffered := true, assignmentAsked := false
    boardingCounted := false, openFailed := false, closeFailed := false, late := false, retreated := false
    positionLost := false }

/-- `calm` with that visit at platform A, two parties waiting there, and the door as given. -/
def visiting (v : Visit) (door : DoorState) : State :=
  State.refresh
    { calm with
      cabins := calm.cabins.set 0
        { Cabin.fresh CabinConfig.default with occupancy := 2, occupancyUnknown := false, boardedAt := some 0
                                               door := door, inVisit := some .a }
      sequencers :=
        { calm.sequencers with a := { Sequencer.atPowerOn with current := some v, visitNumber := 1
                                                               actuatorTimer := some 2000 } }
      queues := { calm.queues with a := { entries := [party 7 3, party 8 2], outCount := v.assigned.length } }
      unload := { occupied := 1, complete := false } }

/-- The visit of a party of three, two of whom are aboard. -/
def boarded : Visit :=
  { visitIn .opened with assigned := [{ party := party 9 3, boarded := 2 }], assignmentAsked := true }

/-- A part held at PARK by WIND, parked at A over cabin 0. -/
def parkedAt : State :=
  State.refresh
    { holdAt .wind .park with
      wind := { State.reset.wind with windClass := .level 3 }
      permit := { calm.permit with
        park := some { state := .parked, target := 0, platform := .a, offset := 0, steps := 0 } } }

def drained (s : State) (c : Instr) : State := { s with pending := [c] }

/-! ## Invariants that can be decided on a state -/

def recordDerivedB (auto : Bool) (r : HoldRecord) : Bool :=
  r.cond.value ≤ r.peak.value && r.latched = latchOf auto r

def holdsDerivedB (s : State) : Bool :=
  (Source.all.all fun src => recordDerivedB (s.settings.auto.get src) (s.holds.table.get src)) &&
  s.holds.held = s.holds.table.heldGrade

def conditionsOwnedB (s : State) : Bool :=
  Source.all.all fun src => (s.holds.table.get src).cond = ownedGrade s src

def visitOnTable (s : State) (pf : Platform) : Bool :=
  match (s.sequencers.get pf).current with
  | some v => v.cabin < s.cabins.length
  | none => true

def wheelSoundB (s : State) : Bool :=
  s.geometry.ok && s.position.theta < s.geometry.p && (s.position.verified || s.position.stillCrossed.isEmpty) &&
  s.cabins.length = s.geometry.n &&
  s.loop.cabins.length = s.geometry.n && visitOnTable s .a && visitOnTable s .b

/-- `SaveKept` as a check of the store. -/
def saveKeptB (x : Store) : Bool :=
  (x.slots.slot0.all fun c => c.number < 65536) && (x.slots.slot1.all fun c => c.number < 65536) &&
  x.saving.all fun j =>
    j.copy.settings.geometry.ok && (if j.intoOne then x.slots.slot1 else x.slots.slot0).isNone &&
    match x.slots.saved with
    | none => !j.intoOne && j.copy.number = 0
    | some (one, c) => j.intoOne = !one && j.copy.number = (c.number + 1) % 65536

theorem mem_all (src : Source) : src ∈ Source.all := by cases src <;> decide

theorem holdsDerived_of {s : State} (h : holdsDerivedB s = true) : HoldsDerived s := by
  simp only [holdsDerivedB, Bool.and_eq_true, List.all_eq_true, decide_eq_true_eq, recordDerivedB] at h
  exact ⟨fun src => h.1 src (mem_all src), h.2⟩

theorem saveKept_of {s : State} (h : saveKeptB s.store = true) : SaveKept s := by
  simp only [saveKeptB, Bool.and_eq_true] at h
  obtain ⟨⟨h0, h1⟩, hj⟩ := h
  refine ⟨fun c hc => ?_, fun j some => ?_⟩
  · rcases hc with hc | hc
    · simpa [hc] using h0
    · simpa [hc] using h1
  · simp only [some, Option.all_some, Bool.and_eq_true, Option.isNone_iff_eq_none] at hj
    refine ⟨hj.1.1, hj.1.2, fun saved => ?_, fun one c saved => ?_⟩
    · simpa [saved] using hj.2
    · simpa [saved] using hj.2

theorem conditionsOwned_of {s : State} (h : conditionsOwnedB s = true) : ConditionsOwned s := by
  simp only [conditionsOwnedB, List.all_eq_true, decide_eq_true_eq] at h
  exact fun src => h src (mem_all src)

theorem wheelSound_of {s : State} (h : wheelSoundB s = true) : WheelSound s := by
  simp only [wheelSoundB, Bool.and_eq_true, decide_eq_true_eq] at h
  obtain ⟨⟨⟨⟨⟨⟨a, b⟩, k⟩, c⟩, d⟩, e⟩, f⟩ := h
  refine ⟨a, b, fun u => by simpa [u] using k, c, d, fun pf v k => ?_⟩
  cases pf
  · simpa [visitOnTable, k] using e
  · simpa [visitOnTable, k] using f

/-- `calm` meets every invariant together with an empty queue. -/
theorem test_calm_is_sound :
    Formed calm ∧ HoldsDerived calm ∧ ConditionsOwned calm ∧ WheelSound calm ∧ UnloadCounted calm ∧
    PlacesKept calm .a ∧ PlacesKept calm .b ∧ ParkKept calm ∧ EventsBounded calm := by
  refine ⟨?_, holdsDerived_of ?_, conditionsOwned_of ?_, wheelSound_of ?_, ?_, ?_, ?_, ?_, ?_⟩
  · show calm.refresh = calm
    decide +kernel
  · decide +kernel
  · decide +kernel
  · decide +kernel
  · unfold UnloadCounted
    decide +kernel
  · unfold PlacesKept
    decide +kernel
  · unfold PlacesKept
    decide +kernel
  · unfold ParkKept
    decide +kernel
  · unfold EventsBounded
    decide +kernel

theorem test_calm_steps : step calm = .next calm.tick := by
  have h : calm.pending = [] := by decide +kernel
  simp [step, h]

theorem ready_of {s : State} (h : s.phase = .running) (k : s.ports = calm.ports) (p : Port) : Ready s p := by
  refine ⟨h, ?_⟩
  rw [k]
  cases p <;> decide +kernel

theorem test_small_states_are_ready (p : Port) :
    Ready calm p ∧ Ready (holdAt .operator .stop) p ∧ Ready (latched .driveFault .brake) p ∧
    Ready (visiting (visitIn .opened) .opened) p ∧ Ready (visiting boarded .opened) p ∧ Ready parkedAt p :=
  ⟨ready_of (by decide +kernel) (by decide +kernel) p, ready_of (by decide +kernel) (by decide +kernel) p,
   ready_of (by decide +kernel) (by decide +kernel) p, ready_of (by decide +kernel) (by decide +kernel) p,
   ready_of (by decide +kernel) (by decide +kernel) p, ready_of (by decide +kernel) (by decide +kernel) p⟩

theorem test_small_states_are_sound :
    holdsDerivedB (holdAt .operator .stop) = true ∧ conditionsOwnedB (holdAt .operator .stop) = true ∧
    holdsDerivedB (latched .driveFault .brake) = true ∧ conditionsOwnedB (latched .driveFault .brake) = true ∧
    holdsDerivedB (visiting boarded .opened) = true ∧ conditionsOwnedB (visiting boarded .opened) = true ∧
    wheelSoundB (visiting boarded .opened) = true ∧ (visiting boarded .opened).refresh = visiting boarded .opened ∧
    holdsDerivedB parkedAt = true ∧ conditionsOwnedB parkedAt = true ∧ wheelSoundB parkedAt = true ∧
    parkedAt.refresh = parkedAt := by decide +kernel

/-! ## The queue, the phases, the link -/

/-- What a port answers a command with, payload left out. -/
def verdict (i : Instr) (s : State) (p : Port) : Option Result := (answer (result i s) p).map Prod.fst

theorem test_front_command :
    (drained calm .forwardTick).pending = [.forwardTick] ∧
    step (drained calm .forwardTick) = exec .forwardTick calm := by
  refine ⟨rfl, ?_⟩
  have h : (drained calm .forwardTick).withPending [] = calm := by decide +kernel
  show exec .forwardTick ((drained calm .forwardTick).withPending []) = _
  rw [h]

/-- A timer at 1 runs out with the next millisecond, one at 2 does not. -/
theorem test_millisecond :
    let due (n : Nat) := (State.tick { calm with position := { calm.position with windowTimer := n } }).pending
    .windowEnd ∈ due 1 ∧ .windowEnd ∉ due 2 ∧ (State.tick { calm with phase := .off }) = { calm with phase := .off } := by
  decide +kernel

theorem test_phases :
    result .forwardTick { calm with phase := .off } = { calm with phase := .off } ∧
    result .forwardTick { calm with phase := .heldInReset } = { calm with phase := .heldInReset } ∧
    (result .forwardTick { calm with phase := .restartDue }).position.theta = 1 ∧
    (result .forwardTick { calm with phase := .restartDue }).holds.held = .stop := by decide +kernel

/-- The check string of R172. -/
theorem test_crc : crc16 [0x31, 0x32, 0x33, 0x34, 0x35, 0x36, 0x37, 0x38, 0x39] = 0x29B1#16 := by decide +kernel

/-- A STATUS QUERY byte by byte, and its reply's bytes on the line. -/
theorem test_frame_bytes :
    (result (.crcWrongDiscard .drive [0xA5, 0x02, 0x01, 0x00, 0x84, 0xFA]) calm).ports.states.drive = .hunt ∧
    requestFrame (.cabinRead .drive 0) = some ⟨.drive, 0x02, [0x00]⟩ ∧ (Instr.cabinRead .drive 0).wf = true ∧
    calm.ports.states.drive = .hunt ∧
    result (.crcWrongDiscard .drive (RequestFrame.bytes ⟨.drive, 0x02, [0x00]⟩)) calm =
      result (.cabinRead .drive 0) calm := by decide +kernel

theorem test_ports_are_tested_first :
    let busy := result (.statusQuery .drive) calm
    requestFrame (.statusQuery .drive) = some ⟨.drive, 0x01, []⟩ ∧ inReply (busy.ports.states.get .drive) = true ∧
    busy.phase = .running ∧ result (.statusQuery .drive) busy = busy ∧
    requestFrame (.restart .drive) = some ⟨.drive, 0x4F, []⟩ ∧ kindOpen 0x4F .drive = false ∧
    verdict (.restart .drive) calm .drive = some .refusedPort ∧
    verdict (.unknownKindRequest .drive 0x99 (List.replicate 64 0)) calm .drive = some .refusedPort ∧
    verdict (.unknownKindRequest .drive 0x01 [0]) calm .drive = some .badField := by decide +kernel

/-- No request row spells a frame of the code 0x99, nor a STATUS QUERY with a payload. -/
theorem test_no_row_spells (i : Instr) (f : RequestFrame) (h : requestFrame i = some f) :
    f.kind ≠ 0x99 ∧ (f.kind = 0x01 → f.payload ≠ [0]) := by
  cases i <;> simp [requestFrame] at h <;> subst h <;> simp

theorem test_discards :
    let bad : List Byte := List.replicate 66 0
    bad.length = 64 + 2 ∧ bad.drop 64 ≠ crcBytes (0x02 :: 64 :: bad.take 64) ∧
    result (.crcWrongDiscard .drive (0xA5 :: 0x02 :: 64 :: bad)) calm = calm ∧
    result (.crcWrongDiscard .drive [0xA5, 0x02, 65]) calm = calm ∧
    result (.frameGapTimeout .drive [0xA5, 0x02]) calm = calm ∧
    result (.framingError .drive (0xA5 :: 0x02 :: 64 :: bad.drop 1)) calm = calm := by decide +kernel

theorem test_reply_ends :
    let busy := result (.restart .controlRoom) calm
    let due := result (.replyEnd .controlRoom) busy
    busy.phase = .running ∧ inReply (busy.ports.states.get .controlRoom) = true ∧ due.phase = .restartDue ∧
    due.ports = calm.ports ∧ (result (.warmRestart .request) due).phase = .running ∧
    result (.replyEnd .drive) calm = calm ∧ (result (.crcWrongDiscard .controlRoom [0xA5]) busy) = busy := by
  decide +kernel

/-! ## The formed figures -/

/-- A part parked with nothing between it and its target may not move; a calm one may run at the drive's speed; a visit
at work bounds it by the boarding speed. -/
theorem test_ceiling :
    parkedAt.permit.ceiling = 0 ∧ calm.permit.ceiling = 40 ∧
    (visiting (visitIn .opened) .opened).permit.ceiling = min 40 Speeds.default.boarding ∧
    (parkedAt.holds.held = .park ∧ parkedAt.permit.park.isSome = true) := by decide +kernel

theorem test_lamps :
    calm.output.image.a.lamps = Lamps.dark ∧ State.reset.output.image.a.lamps = { green := .off, amber := .off, red := .on } ∧
    (visiting (visitIn .opened) .opened).output.image.a.lamps = { green := .on, amber := .off, red := .off } ∧
    (visiting (visitIn .closing) .opened).output.image.a.lamps = { green := .blinkA, amber := .off, red := .off } ∧
    (visiting (visitIn .passing) .latched).output.image.a.lamps = { green := .off, amber := .on, red := .off } ∧
    (visiting { visitIn .closing with late := true } .opened).output.image.a.lamps =
      { green := .off, amber := .blinkB, red := .blinkA } := by decide +kernel

/-- The next ENTER of the pitch of 1,125 with E = 300: the distance is the whole pitch just at an ENTER, 1 just before. -/
theorem test_next_enter :
    let at' (theta : Nat) : State := { calm with position := { calm.position with theta := theta } }
    wheelSoundB (at' 0) = true ∧ wheelSoundB (at' (calm.geometry.p - 1)) = true ∧
    (at' (calm.geometry.pitch - calm.geometry.enter)).nextEnterDistance .a = calm.geometry.pitch ∧
    (at' (calm.geometry.pitch - calm.geometry.enter - 1)).nextEnterDistance .a = 1 := by decide +kernel

/-! ## Requests -/

theorem test_read_requests :
    calm.cabins[31]?.isSome = true ∧ calm.cabins[32]? = none ∧
    verdict (.cabinRead .drive 31) calm .drive = some .accepted ∧
    verdict (.cabinRead .drive 32) calm .drive = some .badField ∧
    verdict (.berthQuery .platformA 1) calm .platformA = some .accepted ∧
    verdict (.berthQuery .platformA 2) calm .platformA = some .badField ∧
    verdict (.queueQuery .platformB 0) calm .platformB = some .accepted ∧
    verdict (.queueQuery .platformB 2) calm .platformB = some .badField ∧
    verdict (.planRead .controlRoom 1 0) calm .controlRoom = some .accepted ∧
    verdict (.planRead .controlRoom 2 0) calm .controlRoom = some .badField ∧
    verdict (.configRead .controlRoom 0x10) calm .controlRoom = some .accepted ∧ Item.ofCode 0xFFFF = none ∧
    verdict (.configRead .controlRoom 0xFFFF) calm .controlRoom = some .badField := by decide +kernel

theorem test_hold_read :
    verdict (.holdRead .controlRoom 17) calm .controlRoom = some .accepted ∧
    verdict (.holdRead .controlRoom 18) calm .controlRoom = some .badField ∧
    verdict (.holdRead .controlRoom 254) calm .controlRoom = some .badField ∧
    ((answer (result (.holdRead .controlRoom 255) calm) .controlRoom).map fun x => x.2.length) = some 26 ∧
    ((answer (result (.statusQuery .drive) calm) .drive).map fun x => x.2.length) = some 156 := by decide +kernel

theorem test_gate_and_service :
    let s := visiting (visitIn .opened) .opened
    let gate (i : Instr) (s : State) (k : Nat) := ((result i s).cabins[k]?.map fun c => (c.gate, c.openOnce, c.pendingGate))
    gate (.cabinHold .platformA 1 0) s 1 = some (.hold, false, none) ∧
    gate (.cabinHold .platformA 1 2) s 1 = some (.opened, true, none) ∧
    gate (.cabinHold .controlRoom 0 2) s 0 = some (.opened, false, some .openOnce) ∧
    verdict (.cabinHold .platformB 1 3) s .platformB = some .badField ∧
    verdict (.cabinHold .platformB 32 0) s .platformB = some .badField ∧
    ((result (.cabinService .controlRoom 1 0) s).cabins[1]?.map Cabin.service) = some .withdrawn ∧
    ((result (.cabinService .controlRoom 0 0) s).cabins[0]?.map Cabin.pendingService) = some (some .withdraw) ∧
    verdict (.cabinService .controlRoom 0 2) s .controlRoom = some .badField := by decide +kernel

/-- The kind's range is kept; the capacity may not fall below a known occupancy; a cabin in visit is not written. -/
theorem test_cabin_write :
    let s := visiting (visitIn .opened) .opened
    let aboard : Cabin := { Cabin.fresh CabinConfig.default with occupancy := 2, occupancyUnknown := false }
    let rider : State := { calm with cabins := calm.cabins.set 0 aboard }
    let saving := result (.configSave .controlRoom) calm
    ((result (.cabinWrite .controlRoom 1 1 255 1) calm).cabins[1]?.map Cabin.config) =
      some { kind := .accessible, capacity := 10, autoHold := true } ∧
    ((result (.cabinWrite .controlRoom 1 0 0 0) calm).cabins[1]?.map Cabin.capacity) = some 1 ∧
    ((result (.cabinWrite .controlRoom 1 2 40 0) calm).cabins[1]?.map Cabin.capacity) = some 40 ∧
    verdict (.cabinWrite .controlRoom 1 3 5 0) calm .controlRoom = some .badField ∧
    verdict (.cabinWrite .controlRoom 32 0 5 0) calm .controlRoom = some .badField ∧
    verdict (.cabinWrite .controlRoom 0 0 5 0) s .controlRoom = some .wrongState ∧
    verdict (.cabinWrite .controlRoom 0 0 1 0) rider .controlRoom = some .wrongState ∧
    verdict (.cabinWrite .controlRoom 0 0 2 0) rider .controlRoom = some .accepted ∧
    verdict (.cabinWrite .controlRoom 0 0 2 0) { calm with store := saving.store } .controlRoom = some .busy := by
  decide +kernel

theorem test_occupancy_declare :
    let s := visiting boarded .opened
    let declare (k n : Nat) (xs : List (Nat × Nat)) := verdict (.occupancyDeclare .controlRoom k n xs) s .controlRoom
    declare 1 25 [(1, 12), (2, 13)] = some .accepted ∧ declare 1 26 [] = some .badField ∧
    declare 1 25 [(1, 13), (2, 13)] = some .badField ∧ declare 1 0 [(1, 1)] = some .badField ∧
    declare 1 3 [(1, 1), (1, 1)] = some .badField ∧ declare 1 9 [(1, 1), (2, 1), (3, 1), (4, 1), (5, 1)] = some .badField ∧
    declare 1 1 [(7, 1)] = some .duplicate ∧ declare 1 1 [(9, 1)] = some .duplicate ∧
    declare 0 1 [] = some .wrongState ∧ declare 32 1 [] = some .badField ∧
    (result (.occupancyDeclare .controlRoom 1 2 []) s).unload.occupied = 2 := by decide +kernel

theorem test_party_add :
    let s := visiting boarded .opened
    let full : State := { s with queues := { s.queues with a := { s.queues.a with outCount := 14 } } }
    let points : Points := { s.position.points with roles := { s.position.points.roles with a := .alightOnly } }
    let shut : State := { s with position := { s.position with points := points } }
    let add (s : State) (tag size accessible : Nat) := verdict (.partyAdd .platformA tag size accessible 0) s .platformA
    ((result (.partyAdd .platformA 65535 25 0 1) s).queues.a.entries.map Party.tag) = [7, 8, 65535] ∧
    add s 0 1 0 = some .badField ∧ add s 1 0 0 = some .badField ∧ add s 1 41 0 = some .badField ∧
    add s 7 1 0 = some .duplicate ∧ add s 9 1 0 = some .duplicate ∧ add shut 1 1 0 = some .wrongState ∧
    add full 1 1 0 = some .full ∧ add s 1 26 0 = some .badField ∧ add s 1 1 1 = some .badField ∧
    add s 1 25 0 = some .accepted := by decide +kernel

theorem test_party_cancel :
    let s := visiting boarded .opened
    let free := visiting { boarded with assigned := [{ party := party 9 3, boarded := 0 }] } .opened
    let cancel (s : State) (p : Port) (tag : Nat) := verdict (.partyCancel p tag) s p
    cancel s .platformA 0 = some .badField ∧ cancel s .platformA 7 = some .accepted ∧
    cancel s .platformB 7 = some .notFound ∧ cancel s .controlRoom 9 = some .wrongState ∧
    cancel free .platformB 9 = some .notFound ∧ cancel free .controlRoom 9 = some .accepted ∧
    (result (.partyCancel .platformA 9) free).queues.a.outCount = 0 ∧ cancel s .platformA 1 = some .notFound := by
  decide +kernel

/-- Two parties of three and two into a cabin of four: the first goes, the second stays and is not overtaken. -/
theorem test_assignment :
    let o : Offer := { kind := .standard, reserved := none, passLimit := 3, partyLimit := 1 }
    let two : Offer := { o with partyLimit := 2 }
    o.scan 25 [] [] [party 7 3, party 8 2] = { chosen := [party 7 3], stay := [party 8 2] } ∧
    two.scan 2 [] [] [party 7 3, party 8 2] =
      { chosen := [party 8 2], stay := [{ party 7 3 with passCount := 1 }] } ∧
    o.fits 25 [] (party 7 3) = true ∧ o.fits 2 [] (party 7 3) = false := by decide +kernel

/-- R66: a release that takes the held grade below UNLOAD makes the assignment withheld. -/
theorem test_a_fall_asks_for_the_assignment :
    let open' : State := visiting { visitIn .opened with occupancyAtEnter := some 0 } .opened
    let empty : State := { open' with
      cabins := open'.cabins.modify 0 fun c => { c with occupancy := 0, boardedAt := none }
      unload := { occupied := 0, complete := true }
      holds := (latched .operator .stop).holds }
    let t := result (.holdRelease .controlRoom 2) empty
    t.holds.held = .none ∧ (assignmentRecords empty .a).length = 2 ∧ t.queues = (asked empty .a).queues ∧
    t.sequencers = (asked empty .a).sequencers ∧ t.queues.a.outCount = 2 := by decide +kernel

/-- Two riders alight and the waiting parties are assigned; a count that leaves one aboard assigns none. -/
theorem test_alight_count :
    let s := visiting (visitIn .opened) .opened
    let count (s : State) (number n : Nat) := verdict (.alightCount .platformA number n) s .platformA
    let t := result (.alightCount .platformA 1 2) s
    (t.cabins[0]?.map fun c => (c.occupancy, c.boardedAt)) = some (0, none) ∧ t.unload.occupied = 0 ∧
    (t.sequencers.a.assigned.map fun e => e.party.tag) = [7, 8] ∧ t.queues.a = { entries := [], outCount := 2 } ∧
    (result (.alightCount .platformA 1 1) s).queues = s.queues ∧
    count calm 1 0 = some .stale ∧ count s 2 0 = some .stale ∧ count s 1 3 = some .badField ∧
    count (visiting (visitIn .opening) .opened) 1 0 = some .wrongState ∧
    count (visiting (visitIn .closing) .opened) 1 0 = some .stale := by decide +kernel

theorem test_board_count :
    let s := visiting boarded .opened
    let count (s : State) (tag n : Nat) := verdict (.boardCount .platformA 1 tag n) s .platformA
    let small : State := { s with cabins := s.cabins.modify 0 fun c => { c with capacity := 2 } }
    (boarded.assigned.find? fun x => x.party.tag = 9) = some { party := party 9 3, boarded := 2 } ∧
    ((result (.boardCount .platformA 1 9 3) s).cabins[0]?.map fun c => (c.occupancy, c.parties)) =
      some (3, [{ tag := 9, count := 3 }]) ∧
    ((result (.boardCount .platformA 1 9 0) s).cabins[0]?.map Cabin.occupancy) = some 0 ∧
    count s 9 4 = some .badField ∧ count s 8 1 = some .notFound ∧ count small 9 3 = some .overCapacity ∧
    count small 9 2 = some .accepted ∧ count calm 9 1 = some .stale ∧
    count (visiting { boarded with state := .opening } .opened) 9 1 = some .wrongState ∧
    count (visiting { boarded with state := .secured } .latched) 9 1 = some .stale := by decide +kernel

theorem test_dispatch :
    let state (v : Visit) (door : DoorState) :=
      ((result (.dispatch .platformA 1) (visiting v door)).sequencers.a.current.map Visit.state)
    state (visitIn .opened) .opened = some .closing ∧ state (visitIn .opened) .latched = some .secured ∧
    state { visitIn .opened with late := true } .latched = none ∧
    (result (.dispatch .platformA 1) (visiting (visitIn .opened) .opened)).output.image.a.actuator = .close ∧
    verdict (.dispatch .platformA 2) (visiting (visitIn .opened) .opened) .platformA = some .stale ∧
    verdict (.dispatch .platformA 1) (visiting (visitIn .opening) .opened) .platformA = some .wrongState ∧
    verdict (.dispatch .platformA 1) calm .platformA = some .wrongState := by decide +kernel

/-! ## Holds -/

theorem test_stops :
    let t := result (.stopLineTaken .a true) calm
    t.holds.held = .stop ∧ (t.holds.table.platformStopA.cond, t.holds.table.platformStopA.latched) = (.stop, .stop) ∧
    (let u := result (.stopLineTaken .a false) t
     (u.holds.table.platformStopA.cond, u.holds.table.platformStopA.latched) = (.none, .stop)) ∧
    (result (.platformStop .platformB 1) calm).stops.b.request = true ∧
    verdict (.platformStop .platformB 2) calm .platformB = some .badField := by decide +kernel

theorem test_operator_hold :
    let hold (n : Nat) := result (.operatorHold .controlRoom n) (holdAt .operator .stop)
    (hold 5).holds.held = .brake ∧ (hold 5).brakeDemand = true ∧ (hold 0).holds.held = .stop ∧
    ((hold 5).events.records.getLast?.map fun e => (e.kind, e.grade, e.value)) = some (.holdRaised, some .brake, 4) ∧
    verdict (.operatorHold .controlRoom 6) calm .controlRoom = some .badField := by decide +kernel

theorem test_hold_release :
    let s := latched .driveFault .brake
    let turning : State := { s with position := { s.position with v := 1 } }
    let release (s : State) (n : Nat) := verdict (.holdRelease .controlRoom n) s .controlRoom
    release s 14 = some .accepted ∧ (result (.holdRelease .controlRoom 14) s).holds.held = .none ∧
    release turning 14 = some .wrongState ∧ release s 17 = some .stillActive ∧ release s 18 = some .badField ∧
    (result (.holdRelease .controlRoom 0) (latched .powerOn .stop)).holds.table.powerOn = HoldRecord.clear := by
  decide +kernel

/-! ## Store, events, plans -/

theorem test_config_write :
    let write (s : State) (code value : Nat) := verdict (.configWrite .controlRoom code value) s .controlRoom
    let saving : State := { calm with store := (result (.configSave .controlRoom) calm).store }
    let lock : State := { calm with store := { calm.store with lock := true } }
    Item.ofCode 0x10 = some .indexTolerance ∧
    (result (.configWrite .controlRoom 0x10 0) calm).settings.indexTolerance = 1 ∧
    (result (.configWrite .controlRoom 0x10 1001) calm).settings.indexTolerance = 1000 ∧
    (result (.configWrite .controlRoom 0x400 10) calm).settings.speeds.limit = 10 ∧
    write calm 0xFFFF 0 = some .badField ∧ write saving 0x10 5 = some .busy ∧
    calm.settings.judge .indexTolerance 30 = some (calm.settings.read .indexTolerance) ∧
    Item.lockable (.programmed .loopFault) = true ∧ write lock 0x209 4 = some .locked ∧
    Item.ofCode 0x01 = some .n ∧ write calm 0x01 8 = some .wrongState ∧
    write (holdAt .operator .stop) 0x01 7 = some .badField := by decide +kernel

theorem test_config_write_effects :
    let s := holdAt .operator .stop
    let fewer := result (.configWrite .controlRoom 0x01 8) s
    let more := result (.configWrite .controlRoom 0x01 48) s
    Except.toOption (s.judgeWrite .n 8) = some 8 ∧ s.settings.read .n ≠ 8 ∧
    fewer.cabins.length = 8 ∧ more.cabins.length = 48 ∧ (more.cabins[47]?.map Cabin.occupancyUnknown) = some true ∧
    fewer.position.verified = false ∧ fewer.holds.table.position.cond = .unload ∧
    Item.ofCode 0x209 = some (.programmed .loopFault) ∧ calm.settings.read (.programmed .loopFault) ≠ 5 ∧
    (result (.configWrite .controlRoom 0x209 5) { calm with loop := { calm.loop with loopFault := true } }).holds.held =
      .brake := by decide +kernel

theorem test_config_ranges :
    let x := Settings.default
    x.judge .rideLength 999 = some 1000 ∧ x.judge .rideLength 4000001 = some 4000000 ∧
    x.judge (.threshold .ug 1) 0 = none ∧ x.judge .enter 0 = none ∧ x.judge .enter 1 = some 1 ∧
    x.judge (.permit .step) (x.speeds.absolute + 1) = some x.speeds.absolute ∧ x.judge (.auto .wind) 2 = none := by
  decide +kernel

theorem test_save_and_lock :
    let saving : State := { calm with store := (result (.configSave .controlRoom) calm).store }
    let saved := result (.saveDone true) saving
    saving.store.saving.isSome = true ∧ verdict (.configSave .controlRoom) saving .controlRoom = some .busy ∧
    (saved.store.slots.saved.map fun x => (x.1, x.2.number)) = some (false, 0) ∧
    (result (.saveDone false) saving).store.slots.saved = none ∧ result (.saveDone true) calm = calm ∧
    (result (.configLock .controlRoom) calm).store.lock = true := by decide +kernel

theorem test_event_take :
    let t := result (.eventTake .controlRoom 8) State.reset
    t.events.records = [] ∧ verdict (.eventTake .controlRoom 1) State.reset .controlRoom = some .accepted ∧
    verdict (.eventTake .controlRoom 0) State.reset .controlRoom = some .badField ∧
    verdict (.eventTake .controlRoom 9) State.reset .controlRoom = some .badField := by decide +kernel

theorem test_event_stack_bounds :
    let r := plainRecord calm .index 0
    let at' (n : Nat) : State := { calm with events := { records := List.replicate n r, rollover := false } }
    ((at' 255).append r).events = { records := List.replicate 256 r, rollover := false } ∧
    ((at' 256).append r).events = { records := List.replicate 256 r, rollover := true } := by decide +kernel

theorem test_plan_edits :
    let once := result (.entrySet .controlRoom 31 1 0 0) calm
    let s : State := { calm with plans := once.plans }
    let pending : State := { calm with plans := { calm.plans with swapPending := true } }
    let edit (i : Instr) (s : State) := verdict i s .controlRoom
    once.plans.bank1.entries = [{ cabin := 31, platform := .b, directive := .pass }] ∧ once.plans.bank1.edits = 1 ∧
    (result (.entrySet .controlRoom 0 0 2 65535) s).plans.bank1.entries =
      [{ cabin := 0, platform := .a, directive := .reserved 65535 }, { cabin := 31, platform := .b, directive := .pass }] ∧
    edit (.entrySet .controlRoom 32 0 0 0) s = some .badField ∧ edit (.entrySet .controlRoom 0 0 2 0) s = some .badField ∧
    edit (.entrySet .controlRoom 0 0 1 1) s = some .badField ∧ edit (.entrySet .controlRoom 0 0 0 0) pending = some .pending ∧
    edit (.entryRemove .controlRoom 64 0) s = some .badField ∧ edit (.entryRemove .controlRoom 63 0) s = some .notFound ∧
    (result (.entryRemove .controlRoom 31 1) s).plans.bank1.entries = [] ∧
    (result (.listClear .controlRoom) s).plans.bank1.entries = [] ∧ edit (.listClear .controlRoom) pending = some .pending := by
  decide +kernel

theorem test_plan_full :
    let full : Bank := { calm.plans.bank1 with
      entries := (List.range 32).map fun k => { cabin := k, platform := .a, directive := .pass } }
    let s : State := { calm with plans := { calm.plans with bank1 := full } }
    verdict (.entrySet .controlRoom 0 1 0 0) s .controlRoom = some .full ∧
    verdict (.entrySet .controlRoom 31 0 1 0) s .controlRoom = some .accepted := by decide +kernel

theorem test_plan_settings :
    let set (mode revolutions speed : Nat) := (result (.settings .controlRoom mode revolutions speed 1) calm).plans.bank1
    let pending := result (.planSwap .controlRoom) calm
    ((set 1 0 2001).count, (set 1 0 2001).speed, (set 1 0 2001).stopOnMiss) = (1, 60, true) ∧ (set 1 256 1).count = 255 ∧
    verdict (.settings .controlRoom 2 1 1 0) calm .controlRoom = some .badField ∧
    pending.plans.swapPending = true ∧ pending.plans.bank1.ready = true ∧
    verdict (.planSwap .controlRoom) { calm with plans := pending.plans } .controlRoom = some .pending := by decide +kernel

theorem test_revolution_boundary :
    let single : Plans := { calm.plans with bank0 := { calm.plans.bank0 with mode := .single } }
    (afterBoundary single).planEnd = true ∧
    (afterBoundary { single with swapPending := true }).oneActive = true ∧
    (State.planBoundary { calm with plans := single }).plans = afterBoundary single := by decide +kernel

/-! ## Park and drive -/

theorem test_park_advance :
    let advance (s : State) (n : Nat) := verdict (.parkAdvance .controlRoom n) s .controlRoom
    let t := result (.parkAdvance .controlRoom 31) parkedAt
    let atWork : State := { parkedAt with sequencers := (visiting (visitIn .opened) .opened).sequencers }
    (t.permit.park.map fun r => (r.state, r.target.toNat, r.steps)) =
      some (.stepping, 31 * calm.geometry.pitch, 1) ∧
    advance parkedAt 0 = some .badField ∧ advance parkedAt 32 = some .badField ∧ advance calm 1 = some .wrongState ∧
    advance t 1 = some .accepted ∧ advance { t with ports := calm.ports } 1 = some .wrongState ∧
    advance atWork 1 = some .pending := by decide +kernel

theorem test_park_figures :
    isqrt 0 = 0 ∧ isqrt 24 = 4 ∧ isqrt 25 = 5 ∧ isqrt (2 ^ 64 - 1) = 2 ^ 32 - 1 ∧
    1 ≤ calm.settings.deceleration ∧ (calm.parkTarget 0).toNat = 0 ∧
    (State.parkTarget { calm with position := { calm.position with v := 3 } } 0).toNat = calm.geometry.pitch := by
  decide +kernel

theorem test_drive_report :
    let report (p state brake : Nat) := result (.driveReport .drive 2001 p state brake) calm
    (report 0 2 1).holds.held = .stop ∧ (report 0 0 1).permit.drive.speed = 2000 ∧
    (report 50 0 1).position.disagreementRun = 0 ∧ (report 51 0 1).position.disagreementRun = 1 ∧
    (report calm.geometry.p 0 1).position = calm.position ∧
    verdict (.driveReport .drive 0 0 3 0) calm .drive = some .badField ∧
    verdict (.driveReport .drive 0 0 0 2) calm .drive = some .badField := by decide +kernel

theorem test_drive_silence :
    let t := result .driveSilenceExpiry calm
    calm.permit.silenceTimer ≠ none ∧ t.holds.held = .brake ∧ t.brakeDemand = true ∧ t.permit.ceiling = 0 ∧
    { result .driveSilenceExpiry t with pending := [] } = t := by decide +kernel

/-! ## Position -/

theorem test_ticks :
    let near : State := { calm with position := { calm.position with theta := calm.geometry.p - 1, reverseRun := 200 } }
    (result .forwardTick near).position.theta = 0 ∧ (result .forwardTick near).position.reverseRun = 199 ∧
    (result .reverseTick calm).position.theta = calm.geometry.p - 1 ∧
    (result .reverseTick near).position.reverseRun = 0 ∧ (result .reverseTick near).holds.table.reverse.floor = .stop ∧
    calm.forwardCrossings 0 1 .a = [] ∧ calm.forwardCrossings 0 1 .b = [] ∧ calm.retreats 0 (calm.geometry.p - 1) .a = [] := by
  decide +kernel

/-- Cabin 0 crosses −E, +C and X + 1, and comes back below −E. -/
theorem test_crossings :
    let g := calm.geometry
    (0, .enter) ∈ calm.forwardCrossings (g.p - g.enter - 1) (g.p - g.enter) .a ∧
    (0, .close) ∈ calm.forwardCrossings (g.close - 1) g.close .a ∧
    (0, .exit) ∈ calm.forwardCrossings g.exit (g.exit + 1) .a ∧
    0 ∈ calm.retreats (g.p - g.enter) (g.p - g.enter - 1) .a ∧
    calm.phaseAt 0 .a 16 = (g.p / 2 : Nat) := by decide +kernel

/-- The edge at the tolerance, beyond it, and with the position unverified. -/
theorem test_index_edge :
    let at' (theta : Nat) : State := { calm with position := { calm.position with theta := theta } }
    let off : State := State.refresh { calm with position := { calm.position with verified := false, theta := 7 } }
    let p := calm.geometry.p
    calm.position.lastDirection = .forward ∧ calm.position.verified = true ∧
    ((result .indexEdge (at' 30)).position.theta, (result .indexEdge (at' 30)).position.verified) = (0, true) ∧
    (result .indexEdge (at' (p - 30))).position.verified = true ∧
    (result .indexEdge (at' 31)).position.verified = false ∧ (result .indexEdge (at' 31)).holds.held = .stop ∧
    (result .indexEdge off).position.verified = true ∧ (result .indexEdge off).position.revolutions = 0 ∧
    (result .indexEdge { calm with position := { calm.position with lastDirection := .reverse } }) =
      { calm with position := { calm.position with lastDirection := .reverse } } := by decide +kernel

/-- An OPEN visit of cabin 0 at A, with the CLOSE point 5 ticks past the berth, and a last tick forward. -/
def closeAtFive (theta : Nat) (stay : List CrossedPoint) : State :=
  let s := visiting boarded .opened
  let g := { s.geometry with close := 5 }
  { s with store := { s.store with working := { s.settings with geometry := g } }
           position := { s.position with theta := theta, points := Points.ofGeometry g, stillCrossed := stay } }

def fifthTick : CrossedPoint := { platform := .a, cabin := 0, point := .close, theta := 5 }

/-- R11: a backward correction over CLOSE leaves it crossed, and the tick over it again hands nothing over. -/
theorem test_crossed_points_stay_crossed :
    let visit (s : State) : Option VisitState := s.sequencers.a.current.map Visit.state
    let again := result .forwardTick (closeAtFive 4 [fifthTick])
    (result .indexEdge (closeAtFive 10 [])).position.stillCrossed = [fifthTick] ∧
    (result .indexEdge (closeAtFive 10 [fifthTick])).position.stillCrossed = [fifthTick] ∧
    (result .indexEdge (closeAtFive 4 [])).position.stillCrossed = [] ∧
    (visit again, again.position.stillCrossed) = (some .opened, []) ∧
    visit (result .forwardTick (closeAtFive 4 [])) = some .closing := by decide +kernel

/-- R12: a reverse tick over the point makes it fresh, and one elsewhere leaves it crossed. -/
theorem test_a_reverse_tick_uncrosses :
    (result .reverseTick (closeAtFive 5 [fifthTick])).position.stillCrossed = [] ∧
    (result .reverseTick (closeAtFive 4 [fifthTick])).position.stillCrossed = [fifthTick] ∧
    (result .forwardTick (closeAtFive 0 [fifthTick])).position.stillCrossed = [fifthTick] := by decide +kernel

/-! ## Visits -/

theorem test_directives :
    let v (f : Cabin → Cabin) : Directive :=
      (calm.newVisit .a 0 (f { Cabin.fresh CabinConfig.default with occupancyUnknown := false })).directive
    let far : Cabin → Cabin := fun c => { c with occupancy := 1, boardedAt := some (calm.position.tau - 36000) }
    v (fun c => c) = .board ∧ v far = .alightBoard ∧ v (fun c => { far c with gate := .hold }) = .alight ∧
    v (fun c => { far c with boardedAt := some (calm.position.tau - 35999) }) = .skip ∧
    v (fun c => { far c with service := .withdrawn }) = .skip := by decide +kernel

theorem test_enter :
    let berth : LoopBerth := { LoopBerth.unreported with position := .opened }
    let wide : State := { calm with
      cabins := calm.cabins.modify 0 fun c => { c with door := .opened }
      loop := { calm.loop with berths := { calm.loop.berths with a := berth } } }
    let held : State := { calm with cabins := calm.cabins.modify 0 fun c => { c with gate := .hold } }
    let at' (s : State) (k : Nat) := ((s.takeEnter .a k).sequencers.a.current.map Visit.state)
    let miss : State := { visiting boarded .opened with
      plans := { calm.plans with bank0 := { calm.plans.bank0 with stopOnMiss := true } } }
    calm.cabins[0]?.isSome = true ∧ at' calm 0 = some .opening ∧ at' wide 0 = some .opened ∧ at' held 0 = some .passing ∧
    (visiting boarded .opened).takeEnter .a 0 = visiting boarded .opened ∧
    ((miss.takeEnter .a 1).events.records.map EventRecord.kind).drop 1 = [.missedBerth, .holdRaised, .parked] := by decide +kernel

theorem test_crossings_move_the_visit :
    let now (s : State) := s.sequencers.a.current.map fun v => (v.state, v.late)
    let s (st : VisitState) (door : DoorState) := visiting (visitIn st) door
    now ((s .opened .opened).takeClose .a 0) = some (.closing, false) ∧
    now ((s .opening .latched).takeClose .a 0) = some (.secured, false) ∧
    (s .passing .latched).takeClose .a 0 = s .passing .latched ∧ (s .opened .opened).takeClose .a 1 = s .opened .opened ∧
    now ((s .secured .latched).takeExit .a 0) = none ∧ now ((s .closing .opened).takeExit .a 0) = some (.closing, true) ∧
    now ((s .opened .opened).takeExit .a 0) = some (.closing, true) ∧ now ((s .passing .latched).takeRetreat .a 0) = none ∧
    now ((s .opening .latched).takeRetreat .a 0) = none ∧ (s .opening .opened).takeRetreat .a 0 = s .opening .opened ∧
    (s .secured .latched).takeRetreat .a 0 = s .secured .latched := by decide +kernel

/-- The value of a VISIT_END: two aboard, one alighted, the visit late. -/
theorem test_visit_end :
    let v : Visit := { boarded with late := true, alighted := some 1 }
    let s := visiting v .latched
    let t := s.endVisit .a v
    s.cabins[v.cabin]?.isSome = true ∧ (t.events.records.getLast?.map fun e => (e.kind, e.value)) =
      some (.visitEnd, 2 + 50 + 2048 * 4) ∧
    t.sequencers.a.current = none ∧ t.sequencers.a.last = some v ∧ t.queues.a.outCount = 0 ∧
    (t.cabins[0]?.map Cabin.inVisit) = some none ∧
    ((visiting (visitIn .passing) .latched).endVisit .a (visitIn .passing)).cabins =
      (visiting (visitIn .passing) .latched).cabins := by decide +kernel

/-- The Sequencer that an expiry at A leaves. -/
def afterTimer (v : Visit) (door : DoorState) : Sequencer :=
  (result (.actuatorTimerExpiry .a) (visiting v door)).sequencers.a

def sequencer (v : Option Visit) (timer : Option Nat) : Sequencer :=
  { current := v, last := none, visitNumber := 1, actuatorTimer := timer, doorLate := false }

theorem test_actuator_timer :
    let failed (st : VisitState) : Visit := { visitIn st with openFailed := true }
    let tried : Visit := { visitIn .closing with retries := 1 }
    afterTimer (visitIn .opening) .opened = sequencer (some (failed .closing)) (some 2000) ∧
    afterTimer (visitIn .opening) .latched = sequencer (some (failed .secured)) none ∧
    afterTimer (visitIn .closing) .opened = sequencer (some tried) (some 2000) ∧
    afterTimer tried .opened = sequencer (some { tried with closeFailed := true }) none ∧
    afterTimer (visitIn .opened) .opened = sequencer (some (visitIn .opened)) none ∧
    (afterTimer { visitIn .opening with late := true } .latched).current = none ∧
    result (.actuatorTimerExpiry .a) calm = calm := by decide +kernel

/-! ## Wind, loop, output, starts -/

theorem test_window_end :
    let s : State := { calm with
      position := { calm.position with openWindow := 9 }
      wind := { calm.wind with sensors := { calm.wind.sensors with crown := { Anemometer.atPowerOn with openCount := 10 } } } }
    let t := result .windowEnd s
    t.position.v = 9 ∧ t.wind.sensors.crown.windowRing = [40] ∧ t.wind.sensors.crown.gust = 40 ∧ t.wind.gust = 40 ∧
    (result (.anemometerPulse .deck) { s with wind := { s.wind with sensors := { s.wind.sensors with deck :=
      { Anemometer.atPowerOn with openCount := 1023 } } } }).wind.sensors.deck.openCount = 1023 := by decide +kernel

/-- The stall time is 120 s; the fourth saturated window and the 240th sound one are the first that count. -/
theorem test_sensor_faults :
    let s (x : Anemometer) : State := { calm with wind := { calm.wind with sensors :=
      { crown := x, deck := { Anemometer.atPowerOn with openCount := 20 } } } }
    let faulted (x : Anemometer) := (result .windowEnd (s x)).wind.sensors.crown.faulted
    faulted { Anemometer.atPowerOn with stallTimer := 119750 } = true ∧
    faulted { Anemometer.atPowerOn with stallTimer := 119500 } = false ∧
    faulted { Anemometer.atPowerOn with openCount := 1023, overrangeRun := 3 } = true ∧
    faulted { Anemometer.atPowerOn with openCount := 1023, overrangeRun := 2 } = false ∧
    faulted { Anemometer.atPowerOn with openCount := 1022, faulted := true, recoveryRun := 239 } = false ∧
    faulted { Anemometer.atPowerOn with openCount := 1022, faulted := true, recoveryRun := 238 } = true := by decide +kernel

theorem test_wind_class :
    let row (c : Nat) := Settings.default.classes.get c
    let ends (w : Wind) := (result .windowEnd { calm with wind := w }).wind
    let quiet := 1000 * (row 1).q
    (ends { calm.wind with windClass := .pending, windowEnds := 239 }).windClass = .level 0 ∧
    (ends { calm.wind with windClass := .pending, windowEnds := 238 }).windClass = .pending ∧
    (ends { calm.wind with windClass := .level 1, quietTimer := quiet - 250 }).windClass = .level 0 ∧
    (ends { calm.wind with windClass := .level 1, quietTimer := quiet - 500 }).windClass = .level 1 ∧
    (let gale := ends { calm.wind with sensors := { calm.wind.sensors with crown :=
        { Anemometer.atPowerOn with openCount := 1023 } } }
     gale.windClass = .level 4) := by decide +kernel

theorem test_scans :
    let begun := result .scanStart calm
    let contacts := List.replicate 68 true
    let first := result (.scanEnd Config.checkPattern contacts) begun
    let second := result (.scanEnd Config.checkPattern contacts) (result .scanStart first)
    let bad := result (.scanEnd 0x55 contacts) begun
    let fault := result (.scanEnd 0x55 contacts) (result .scanStart bad)
    begun.loop.scan = some { cabins := calm.geometry.n, stale := false } ∧ contacts.length = 2 * calm.geometry.n + 4 ∧
    (second.cabins[31]?.map Cabin.door) = some .latched ∧ second.loop.berths.a.position = .conflict ∧
    bad.loop.failedCount = 1 ∧ bad.holds.held = .none ∧ fault.loop.loopFault = true ∧ fault.holds.held = .stop ∧
    result (.scanEnd 0x55 contacts) calm = calm ∧
    (result (.scanEnd Config.checkPattern contacts) (result .scanStart fault)).loop.loopFault = false := by decide +kernel

theorem test_output_chain :
    let s := result (.operatorHold .controlRoom 4) calm
    let sent := result .sequenceStart s
    s.output.content ≠ s.output.sent ∧ sent.output.inProgress = true ∧ sent.output.sent.a.red = true ∧
    (result .sequenceEnd sent).output.applied.a.red = true ∧ result .sequenceEnd s = s ∧
    (result .refreshExpiry sent) = sent ∧ (result .blinkToggle s).output.blink = .b := by decide +kernel

theorem test_starts :
    let off := result .supplyLoss calm
    let reset := result .supplyOn off
    off.phase = .off ∧ off.brakeDemand = true ∧ reset.phase = .heldInReset ∧
    result (.powerOnComplete false false false) reset = State.reset ∧ result (.powerOnComplete true true true) off = off ∧
    result .restartLineHeld off = off ∧ (result .restartLineHeld calm).phase = .heldInReset ∧
    (result (.powerOnComplete true false true) reset).holds.table.platformStopA.cond = .stop := by decide +kernel

/-- A power-on loads the saved copy: one cabin's configuration written, saved, and the supply lost. -/
theorem test_power_on_loads :
    let written : State := { result (.cabinWrite .controlRoom 3 2 40 1) calm with ports := calm.ports }
    let saved := result (.saveDone true) (result (.configSave .controlRoom) written)
    let t := result (.powerOnComplete false false false) (result .supplyOn saved)
    (t.cabins[3]?.map Cabin.config) = some { kind := .letOut, capacity := 40, autoHold := true } ∧ t.events.records = [] := by
  decide +kernel

theorem test_warm_restart :
    let s := visiting boarded .opened
    let t := result (.warmRestart .linePulse) s
    t.holds.held = .stop ∧ t.sequencers.a = Sequencer.atPowerOn ∧ t.queues.a = Queue.empty ∧
    (t.cabins[0]?.map fun c => (c.inVisit, c.occupancy)) = some (none, 2) ∧ t.position = s.position ∧
    ((t.events.records.drop 1).map fun e => (e.kind, e.value)).head? = some (.restarted, 1) := by decide +kernel

/-! ## Orders, records and boundaries -/

/-- The records that lead from one state to another, by kind and value. -/
def recorded (s t : State) : List (EventKind × Int) :=
  (t.events.records.drop s.events.records.length).map fun e => (e.kind, e.value)

/-- A step with a restart due and no command waiting: the restart, then the millisecond. -/
theorem test_restart_due :
    let due : State := { calm with phase := .restartDue }
    due.pending = [] ∧ due.tick.phase = .running ∧ due.tick.clock = 1 ∧ due.tick.holds.held = .stop ∧
    verdict (.restart .controlRoom) calm .controlRoom = some .accepted ∧
    (result (.powerOnComplete false false false) { calm with phase := .heldInReset }).phase = .running := by
  decide +kernel

/-- The rows of one millisecond in log 2's order. -/
theorem test_due_rows :
    let s : State := { visiting (visitIn .opening) .latched with
      position := { calm.position with windowTimer := 1 }, loop := { calm.loop with scanTimer := 1 } }
    let q : State := { s with sequencers := { s.sequencers with
      a := { s.sequencers.a with actuatorTimer := some 1 } } }
    q.tick.pending = [.actuatorTimerExpiry .a, .windowEnd, .scanStart, .sequenceStart] := by decide +kernel

/-- A declaration of two parties as its bytes on the line: the count of records is one byte of the request. -/
theorem test_declare_frame :
    let bytes : List Byte := [1, 5, 2, 0, 1, 2, 0, 2, 3]
    let row : Instr := .occupancyDeclare .controlRoom 1 5 [(1, 2), (2, 3)]
    requestFrame row = some ⟨.controlRoom, 0x36, bytes⟩ ∧
    result (.crcWrongDiscard .controlRoom (RequestFrame.bytes ⟨.controlRoom, 0x36, bytes⟩)) calm = result row calm := by
  decide +kernel

/-- A visit record of Table 4-2 as sent: the occupancy at ENTER and the count of the list in 4 bytes (R176). -/
theorem test_visit_bytes :
    visitBytes (some boarded) =
      [1, 0, 3, 0, 0] ++ [0, 0, 0, 2] ++ [255] ++ [0, 0, 0, 1] ++ [0, 9, 3, 2] ++ [3] ++ [0, 0, 0, 0] ++
      [1, 1, 0, 0, 0, 0, 0, 0] ∧ visitBytes none = [0] := by decide +kernel

/-- R113: the swap clears PLAN_END, and its HOLD_RELEASED with it, before PLAN_SWAPPED is recorded. -/
theorem test_swap_order :
    let s := holdAt .planEnd .unload
    let auto := (s.setSettings { s.settings with auto := { s.settings.auto with planEnd := true } })
    let ended : State := { auto with plans := { s.plans with swapPending := true, planEnd := true } }
    recorded ended ended.planBoundary = [(.holdReleased, 2), (.planSwapped, 1)] ∧
    boundaryRecords ended = [plainRecord ended .planSwapped 1] := by decide +kernel

/-- Held at PARK by WIND with a target at θ = `theta`, the wheel θ = 5 and 15 ticks past the target. -/
def nearEdge (st : ParkState) (tolerance : Nat) : State :=
  let s := parkedAt.setSettings { parkedAt.settings with alignTolerance := tolerance }
  { s with position := { s.position with theta := 5, tau := 20 }
           permit := { s.permit with
             park := some { state := st, target := 5, platform := .a, offset := 0, steps := 0 } } }

/-- R167: at an edge with offset 5 a PARKED record stands as it is, whatever its remainder; a target in PARKING moves and
is tested, to PARKED within the tolerance and to an overshoot beyond it. -/
theorem test_park_at_the_edge :
    let after (s : State) := (result .indexEdge s).permit.park.map fun r => (r.state, r.target.toNat)
    after (nearEdge .parked 10) = some (.parked, 5) ∧ after (nearEdge .parking 10) = some (.parked, 10) ∧
    recorded (nearEdge .parking 10) (result .indexEdge (nearEdge .parking 10)) = [(.index, 5), (.parked, 10)] ∧
    after (nearEdge .parking 9) = none ∧ (result .indexEdge (nearEdge .parking 9)).holds.held = .stop := by
  decide +kernel

/-- The park record made at a change to PARK, from below and from above, and by a tick's tests. -/
theorem test_park_record :
    let low : State := { calm with position := { calm.position with theta := 1, v := 3 } }
    let high := State.refresh
      { low with holds := { table := (calmTable.set .wind (HoldRecord.standing .park)).set .operator (HoldRecord.struck .stop)
                            held := .stop }
                 wind := { calm.wind with windClass := .level 3 } }
    let park (s : State) := s.permit.park.map fun r => (r.state, r.target.toNat)
    let away (tau : Word) : State := { parkedAt with position := { parkedAt.position with tau := tau } }
    low.holds.held.value < 3 ∧ park (result (.operatorHold .controlRoom 3) low) = some (.parking, 1124) ∧
    high.holds.held = .stop ∧ park (result (.holdRelease .controlRoom 2) high) = some (.parking, 1124) ∧
    park (away 20).parkTests = some (.parked, 0) ∧ park (away (0 - 21)).parkTests = some (.parking, 0) ∧
    park (away 21).parkTests = none ∧ (away 21).parkTests.holds.held = .stop ∧
    park (State.parkTests { parkedAt with permit := (away 0).permit }) = some (.parked, 0) := by decide +kernel

/-- The edge that verifies the position computes a target in PARKING afresh and leaves a PARKED one. -/
theorem test_park_at_the_verifying_edge :
    let unverified (s : State) : State := { s with position := { s.position with verified := false, v := 3 } }
    let after (s : State) := (result .indexEdge (unverified s)).permit.park.map fun r => (r.state, r.target.toNat)
    after (nearEdge .parked 10) = some (.parked, 5) ∧ after (nearEdge .parking 10) = some (.parking, 20 + 1125) := by
  decide +kernel

/-- A forward correction hands over what it crosses, ahead of the boundary (R11, R115). -/
theorem test_correction_crosses :
    let s : State := { calm with position :=
      { calm.position with theta := 35980, points := { calm.position.points with enter := 10 } } }
    recorded s (result .indexEdge s) = [(.index, -20), (.visitStart, 2)] ∧
    (0, .enter) ∈ s.forwardCrossings 35980 0 .a ∧ (result .indexEdge s).position.theta = 0 := by decide +kernel

/-- A late visit still OPEN with its door LATCHED ends at its CLOSE crossing; one in time is late and ends at its EXIT. -/
theorem test_latched_crossings :
    let s (v : Visit) := visiting v .latched
    (((s { visitIn .opened with late := true }).takeClose .a 0).sequencers.a.current = none) ∧
    (((s (visitIn .opened)).takeExit .a 0).sequencers.a.current = none) ∧
    (((s (visitIn .opened)).takeExit .a 0).sequencers.a.last.map Visit.late) = some true := by decide +kernel

/-- CROWN's record ahead of DECK's, and CLASS_CHANGE ahead of WIND's. -/
theorem test_wind_records :
    let wind (x : Anemometer) : State := { calm with wind := { calm.wind with sensors := { crown := x, deck := x } } }
    let faulting := wind { Anemometer.atPowerOn with openCount := 1023, overrangeRun := 3 }
    let storm := wind { Anemometer.atPowerOn with openCount := 100 }
    (recorded faulting (result .windowEnd faulting)).take 2 = [(.sensorFault, 2), (.sensorFault, 4)] ∧
    (recorded storm (result .windowEnd storm)).take 2 = [(.classChange, 4), (.holdRaised, 0)] := by decide +kernel

/-- A state whose newest good scan read this, and the same scan again. -/
def scanned (s : State) (contacts : List Bool) (stale : Bool) : State :=
  { s with loop := { s.loop with newest := some (Readings.ofContacts s.geometry.n contacts)
                                 scan := some { cabins := s.geometry.n, stale := stale } } }

/-- The visit at A follows the second scan that reads the door and the berth alike; a stale scan is read by none. -/
theorem test_visits_follow_the_scan :
    let read (door latch openStop closedStop : Bool) : List Bool :=
      [door, latch] ++ List.replicate 62 true ++ [openStop, closedStop, true, true]
    let after (v : Visit) (door : DoorState) (xs : List Bool) (stale : Bool) :=
      result (.scanEnd Config.checkPattern xs) (scanned (visiting v door) xs stale)
    let now (t : State) := t.sequencers.a.current.map Visit.state
    let wide := read false false true false
    let shut := read true true false true
    wheelSoundB (visiting (visitIn .opening) .latched) = true ∧ wide.length = 2 * 32 + 4 ∧
    now (after (visitIn .opening) .latched wide false) = some .opened ∧
    now (after (visitIn .opening) .latched wide true) = some .opening ∧
    now (after (visitIn .closing) .opened shut false) = some .secured ∧
    now (after { visitIn .closing with late := true } .opened shut false) = none ∧
    now (after (visitIn .secured) .latched wide false) = some .closing ∧
    now (after (visitIn .passing) .latched wide false) = some .passing ∧
    recorded (visiting (visitIn .opening) .opened) (after (visitIn .opening) .opened (read false true true true) false) =
      [(.contactConflict, 0), (.contactConflict, 1), (.contactConflict, 1)] := by decide +kernel

/-- A change of N makes the loop's record for it (R49). -/
theorem test_loop_after_a_change_of_n :
    let s := scanned (holdAt .operator .stop) [] false
    let t := result (.configWrite .controlRoom 0x01 48) s
    t.loop.newest = none ∧ t.loop.scan = some { cabins := 32, stale := true } ∧ t.loop.cabins.length = 48 ∧
    t.loop.away = [] := by decide +kernel

/-- The codes at the ends of Table 11-1's hold and threshold rows. -/
theorem test_item_codes :
    let x := Settings.default
    Item.ofCode 0x203 = none ∧ Item.ofCode 0x204 = some (.programmed .windSensor) ∧ Item.ofCode 0x211 = none ∧
    Item.ofCode 0x30F = some (.auto .planEnd) ∧ Item.ofCode 0x310 = none ∧ Item.ofCode 0x101 = some (.threshold .ug 1) ∧
    Item.ofCode 0x134 = some (.threshold .dm 4) ∧ Item.ofCode 0x105 = none ∧ Item.ofCode 0x144 = some (.quiet 4) ∧
    Item.ofCode 0x151 = none ∧ x.judge (.programmed .platformStopA) 1 = some 4 ∧
    x.judge (.programmed .planEnd) 5 = some 3 ∧ x.judge (.programmed .planEnd) 6 = none ∧
    x.judge (.threshold .ug 1) 140 = some 140 ∧ x.judge (.threshold .ug 1) 141 = none ∧
    x.judge (.threshold .dg 1) 99 = some 99 ∧ x.judge (.threshold .dg 1) 100 = none := by decide +kernel

/-- Cabin 1 with its door OPEN outside every window is away; in a window, or in visit, it is not. -/
theorem test_away :
    let s (theta : Nat) : State := { calm with
      position := { calm.position with theta := theta }
      cabins := calm.cabins.modify 1 fun c => { c with door := .opened } }
    (s 0).awaySet = [1] ∧ (s 1125).awaySet = [] ∧ (s (1125 + 400)).awaySet = [] ∧ (s (1125 + 401)).awaySet = [1] ∧
    (s 0).judgeAway.holds.held = .brake := by decide +kernel

/-! ## Points in force, ends of visits, saves and frames -/

/-- R15: a write of β, of a role or of the park platform waits for the next tick. -/
theorem test_points_wait_for_the_tick :
    let s := holdAt .operator .stop
    let narrow := result (.configWrite .controlRoom 0x03 100) s
    let t := result .forwardTick narrow
    narrow.geometry.enter = 100 ∧ narrow.nextEnterDistance .a = 1125 - 300 ∧ t.nextEnterDistance .a = 1125 - 101 ∧
    (result (.configWrite .controlRoom 0x08 2) s).role .a = .boardAlight ∧
    (result .forwardTick (result (.configWrite .controlRoom 0x08 2) s)).role .a = .alightOnly := by decide +kernel

/-- R78, R56: a visit that ends with a re-close pending leaves CLOSE. -/
theorem test_end_closes :
    let s := (visiting (visitIn .secured) .latched).reclose .a
    let t := s.takeExit .a 0
    (s.output.image.a.actuator, s.output.image.a.reclosePending) = (.release, true) ∧
    (t.output.image.a.actuator, t.output.image.a.reclosePending) = (.close, false) := by decide +kernel

/-- R183: the copy of a passed save is the saved copy, and that of a failed one is not; the slots take turns. -/
theorem test_saved_copy :
    let after (s : State) (passed : Bool) := result (.saveDone passed) (result (.configSave .controlRoom) s)
    let free (s : State) : State := { s with ports := calm.ports }
    let first := after calm true
    let second := after (free first) true
    let saved (s : State) := s.store.slots.saved.map fun x => (x.1, x.2.number)
    saved calm = none ∧ saved first = some (false, 0) ∧ saved second = some (true, 1) ∧
    saved (after (free second) false) = some (true, 1) ∧ saved (after calm false) = none := by decide +kernel

/-- A save in progress as R183 begins it: into slot 0 of an empty store, and into slot 1 with the saved copy in slot 0. -/
theorem test_save_kept :
    let first := result (.configSave .controlRoom) calm
    let second := result (.configSave .controlRoom) { result (.saveDone true) first with ports := calm.ports }
    (SaveKept first ∧ first.store.saving.isSome = true) ∧ SaveKept second ∧ second.store.saving.isSome = true := by
  exact ⟨⟨saveKept_of (by decide +kernel), by decide +kernel⟩, saveKept_of (by decide +kernel), by decide +kernel⟩

/-- A reply frame of Table 10-1: REFUSED_PORT to an unknown kind, with the verified bit. -/
theorem test_reply_frame :
    let t := result (.unknownKindRequest .drive 0x99 []) calm
    let frame := match t.ports.states.drive with
      | .reply r => r.frame
      | _ => []
    let body : List Byte := [0x19, 1, 0, 0, 1, 0]
    frame = 0x5A :: (body ++ crcBytes body) ∧
    (calm.header .drive none).eventsWaiting = false ∧
    ((calm.logPlain .index 0).header .controlRoom (some true)).eventsWaiting = true ∧
    ((calm.logPlain .index 0).header .controlRoom (some true)).rollover = true ∧
    ((calm.logPlain .index 0).header .platformA (some true)).rollover = false := by decide +kernel

/-- The row WARM_RESTART of a request finds its restart due. -/
theorem test_due_restart_row :
    let due : State := { visiting boarded .opened with phase := .restartDue }
    let t := result (.warmRestart .request) due
    t.phase = .running ∧ t.sequencers.a.current = none ∧ (t.cabins[0]?.map Cabin.inVisit) = some none ∧
    recorded due t = [(.restarted, 0), (.holdRaised, 0)] := by decide +kernel

/-- R58, R188: a late visit's open door is away as the restart ends the visit, ahead of RESTARTED. -/
theorem test_restart_finds_a_door_away :
    let s : State := { visiting { boarded with state := .closing } .opened with
      position := { calm.position with theta := 401 } }
    let t := result (.warmRestart .linePulse) s
    recorded s t = [(.holdRaised, 0), (.restarted, 1), (.holdRaised, 0)] ∧ t.loop.away = [0] ∧ t.holds.held = .brake := by
  decide +kernel

/-- R70: a door found LATCHED with a re-close pending leaves CLOSE. -/
theorem test_secured_closes :
    let v : Visit := visitIn .closing
    let t := ((visiting v .latched).reclose .a).testLatched .a v
    t.sequencers.a.current.map Visit.state = some .secured ∧
    (t.output.image.a.actuator, t.output.image.a.reclosePending) = (.close, false) := by decide +kernel

/-- R80, R78: at a mismatch a SECURED visit ends whole, after POSITION's HOLD_RAISED and ahead of the boundary. -/
theorem test_mismatch_ends_the_visit :
    let v : Visit := { boarded with state := .secured }
    let s : State := { visiting v .latched with position := { calm.position with theta := 500 }
                                                plans := { calm.plans with swapPending := true } }
    let t := result .indexEdge s
    recorded s t = [(.indexMismatch, 500), (.holdRaised, 0), (.visitEnd, 2), (.planSwapped, 1)] ∧
    (t.cabins[0]?.map Cabin.inVisit) = some none ∧ t.queues.a.outCount = 0 := by decide +kernel

/-- Without Q's old length to run and without a park record (log 27). -/
theorem test_unstated_figures :
    let s : State := { calm with wind := { calm.wind with windClass := .level 1, quietTimer := 100000000 } }
    s.quietLeft = some 0 ∧ calm.permit.park = none ∧ Gate.code .opened = 1 ∧ option1 none = [255] := by decide +kernel

end Sys2Proof.Tests
end

section
/-! The requests to the Cabin Table: CABIN HOLD (R25), CABIN SERVICE (R22), CABIN WRITE (R20, R21), OCCUPANCY DECLARE
(R34); and the reply to a request, for every file after this one. -/

namespace Sys2Proof.CabinTable

open Machine

/-! ## The reply to a request -/

/-- What the reply to a refused request leaves. -/
theorem refused_of {s : State} {p : Port} {kind : Nat} {a : Answer} {r : Result} (h : a = s.refuse r) :
    RepliedOnly s (State.reply p kind a) p kind r [] := by
  rw [h]; exact refused_reply s p kind r

/-- What the reply to a request that only reads leaves. -/
theorem read_of {s : State} {p : Port} {kind : Nat} {a : Answer} {payload : List Byte} (h : a = s.accept payload) :
    RepliedOnly s (State.reply p kind a) p kind .accepted payload := by
  rw [h]; exact accepted_reply s p kind payload

/-- A reply changes the ports of the state answered with, and nothing else of it. -/
theorem reply_eq (p : Port) (kind : Nat) (a : Answer) :
    State.reply p kind a = { a.state with ports := (State.reply p kind a).ports } := rfl

/-- The reply to a request accepted with the state `u`. -/
theorem accepted_of {s u : State} {p : Port} {kind : Nat} {a : Answer} {payload : List Byte}
    (h : a = u.accept payload) (hu : u.ports = s.ports) :
    State.reply p kind a = { u with ports := (State.reply p kind a).ports } ∧
    Replied s (State.reply p kind a) p kind .accepted payload := by
  rw [h]; exact ⟨reply_eq p kind _, replied_of_reply (a := u.accept payload) rfl rfl hu⟩

/-- The ports on which CABIN HOLD is open. -/
theorem kindOpen_cabinHold {p : Port} (h : p ≠ .drive) : kindOpen 0x27 p = true := by simp [kindOpen, h]

/-- The platform ports (R175). -/
theorem platformPort_of {p : Port} {pf : Platform} (h : portPlatform p = some pf) :
    p = .platformA ∨ p = .platformB := by
  cases p with
  | platformA => exact .inl rfl
  | platformB => exact .inr rfl
  | drive => cases h
  | controlRoom => cases h

/-- BERTH QUERY, QUEUE QUERY, ALIGHT COUNT and BOARD COUNT are open on the platform ports. -/
theorem kindOpen_platformPort {p : Port} (h : p = .platformA ∨ p = .platformB) :
    kindOpen 0x20 p = true ∧ kindOpen 0x21 p = true ∧ kindOpen 0x24 p = true ∧ kindOpen 0x25 p = true := by
  rcases h with rfl | rfl <;> exact ⟨rfl, rfl, rfl, rfl⟩

/-! ## Cabin records -/

/-- Changing the record of a cabin of the table replaces it. -/
theorem modifyCabin_eq {s : State} {k : Nat} {c : Cabin} (h : s.cabins[k]? = some c) (f : Cabin → Cabin) :
    s.modifyCabin k f = { s with cabins := s.cabins.set k (f c) } := by
  have e : s.cabins.modify k f = s.cabins.set k (f c) := by
    rw [List.modify_eq_set_getElem?, h]; rfl
  unfold State.modifyCabin; rw [e]

theorem inVisit_isSome_iff (c : Cabin) : c.inVisit.isSome = true ↔ c.inVisit ≠ none := Option.isSome_iff_ne_none


/-! ## CABIN HOLD and CABIN SERVICE -/

theorem gateSetting_ofCode_of_lt {x : Nat} (h : 2 < x) : GateSetting.ofCode x = none := by
  obtain ⟨k, rfl⟩ : ∃ k, x = k + 3 := ⟨x - 3, by omega⟩
  rfl

theorem serviceAction_ofCode_of_lt {x : Nat} (h : 1 < x) : ServiceAction.ofCode x = none := by
  obtain ⟨k, rfl⟩ : ∃ k, x = k + 2 := ⟨x - 2, by omega⟩
  rfl

/-- CABIN HOLD names no cabin, or no setting (R25). -/
theorem ownCabinHold_badField {s : State} {cabin setting : Nat} (h : s.cabins[cabin]? = none ∨ 2 < setting) :
    ownCabinHold cabin setting s = s.refuse .badField := by
  unfold ownCabinHold
  rcases h with h | h
  · rw [h]
  · rw [gateSetting_ofCode_of_lt h]
    cases s.cabins[cabin]? <;> rfl

/-- CABIN HOLD replaces the cabin's record and replies from it (R25, R28). -/
theorem ownCabinHold_accept {s : State} {cabin setting : Nat} {c : Cabin} {g : GateSetting}
    (h : s.cabins[cabin]? = some c) (hg : GateSetting.ofCode setting = some g) :
    ownCabinHold cabin setting s =
      State.accept { s with cabins := s.cabins.set cabin (c.takeGate g) } (c.takeGate g).gateReply := by
  unfold ownCabinHold
  rw [h, hg]
  simp only [modifyCabin_eq h]

/-- CABIN SERVICE names no cabin, or no action (R22). -/
theorem ownCabinService_badField {s : State} {cabin action : Nat} (h : s.cabins[cabin]? = none ∨ 1 < action) :
    ownCabinService cabin action s = s.refuse .badField := by
  unfold ownCabinService
  rcases h with h | h
  · rw [h]
  · rw [serviceAction_ofCode_of_lt h]
    cases s.cabins[cabin]? <;> rfl

/-- CABIN SERVICE replaces the cabin's record and replies from it (R22, R28). -/
theorem ownCabinService_accept {s : State} {cabin action : Nat} {c : Cabin} {a : ServiceAction}
    (h : s.cabins[cabin]? = some c) (ha : ServiceAction.ofCode action = some a) :
    ownCabinService cabin action s =
      State.accept { s with cabins := s.cabins.set cabin (c.takeService a) } (c.takeService a).serviceReply := by
  unfold ownCabinService
  rw [h, ha]
  simp only [modifyCabin_eq h]

/-- A gate setting at once, or as the pending gate of a cabin in visit (R25, R28). -/
theorem takeGate_eq (c : Cabin) (g : GateSetting) :
    c.takeGate g = if c.inVisit = none then c.applyGate g else { c with pendingGate := some g } := by
  unfold Cabin.takeGate
  cases c.inVisit <;> rfl

/-- A service action at once, or as the pending service of a cabin in visit (R22, R28). -/
theorem takeService_eq (c : Cabin) (a : ServiceAction) :
    c.takeService a = if c.inVisit = none then c.applyService a else { c with pendingService := some a } := by
  unfold Cabin.takeService
  cases c.inVisit <;> rfl

/-- APPLIED is 0 and DEFERRED is 1 (R28). -/
theorem deferredCode_eq (c : Cabin) : c.deferredCode = if c.inVisit = none then 0 else 1 := by
  unfold Cabin.deferredCode
  cases c.inVisit <;> rfl

/-- R25 leaves the in-visit field. -/
theorem applyGate_inVisit (c : Cabin) (g : GateSetting) : (c.applyGate g).inVisit = c.inVisit := by cases g <;> rfl

/-- R22 by the service that the action leaves. -/
theorem applyService_eq (c : Cabin) (a : ServiceAction) :
    c.applyService a = { c with service := match a with
      | .restore => .inService
      | .withdraw => if c.service = .inService then
          if c.occupancy = 0 ∧ c.occupancyUnknown = false then .withdrawn else .withdrawPending else c.service } := by
  obtain ⟨_, _, _, service, _, _, _, _, _, _, _, _, _, _⟩ := c
  cases a
  · cases service <;> simp [Cabin.applyService, Cabin.knownEmpty]
  · rfl

theorem takeGate_inVisit (c : Cabin) (g : GateSetting) : (c.takeGate g).inVisit = c.inVisit := by
  rw [takeGate_eq]
  split
  · exact applyGate_inVisit c g
  · rfl

theorem takeService_inVisit (c : Cabin) (a : ServiceAction) : (c.takeService a).inVisit = c.inVisit := by
  rw [takeService_eq, applyService_eq]
  split <;> rfl

/-- What CABIN HOLD of a setting leaves, the cabin's record being `d` after it. -/
theorem cabinHold_reply {s : State} {p : Port} {cabin setting : Nat} {c d : Cabin} {g : GateSetting}
    (hc : s.cabins[cabin]? = some c) (hg : GateSetting.ofCode setting = some g) (hd : c.takeGate g = d) :
    let t := State.reply p 0x27 (ownCabinHold cabin setting s)
    t = { s with cabins := s.cabins.set cabin d, ports := t.ports } ∧
    Replied s t p 0x27 .accepted (bytes1 (if c.inVisit = none then 0 else 1) ++ bytes1 d.gate.code ++
      yesNo d.openOnce ++ option1 (d.pendingGate.map GateSetting.code)) := by
  subst hd
  have r := accepted_of (p := p) (kind := 0x27) (ownCabinHold_accept hc hg) rfl
  rwa [Cabin.gateReply, deferredCode_eq, takeGate_inVisit] at r

/-- What CABIN SERVICE of an action leaves, the cabin's record being `d` after it. -/
theorem cabinService_reply {s : State} {p : Port} {cabin action : Nat} {c d : Cabin} {a : ServiceAction}
    (hc : s.cabins[cabin]? = some c) (ha : ServiceAction.ofCode action = some a) (hd : c.takeService a = d) :
    let t := State.reply p 0x35 (ownCabinService cabin action s)
    t = { s with cabins := s.cabins.set cabin d, ports := t.ports } ∧
    Replied s t p 0x35 .accepted (bytes1 (if c.inVisit = none then 0 else 1) ++ bytes1 d.service.code ++
      option1 (d.pendingService.map ServiceAction.code)) := by
  subst hd
  have r := accepted_of (p := p) (kind := 0x35) (ownCabinService_accept hc ha) rfl
  rwa [Cabin.serviceReply, deferredCode_eq, takeService_inVisit] at r

/-- Settles O20: case by case of the code, the record left is that of `takeGate` or of `takeService`. -/
theorem gateAndServiceAreSetOrDeferred : Obligations.GateAndServiceAreSetOrDeferred := by
  unfold Obligations.GateAndServiceAreSetOrDeferred
  refine ⟨fun p cabin setting s ready notDrive => ?_, fun cabin action s ready => ?_⟩
  · refine ⟨_, State.request_ready ready _ (kindOpen_cabinHold notDrive),
      fun bad => refused_of (ownCabinHold_badField bad), fun c hc le => ?_⟩
    obtain rfl | rfl | rfl : setting = 0 ∨ setting = 1 ∨ setting = 2 := by omega
    · exact cabinHold_reply hc rfl (takeGate_eq c .hold)
    · exact cabinHold_reply hc rfl (takeGate_eq c .opened)
    · exact cabinHold_reply hc rfl (takeGate_eq c .openOnce)
  · refine ⟨_, State.request_ready ready _ rfl,
      fun bad => refused_of (ownCabinService_badField bad), fun c hc le => ?_⟩
    obtain rfl | rfl : action = 0 ∨ action = 1 := by omega
    · exact cabinService_reply hc rfl ((takeService_eq c .withdraw).trans (by rw [applyService_eq]; rfl))
    · exact cabinService_reply hc rfl (takeService_eq c .restore)

/-! ## CABIN WRITE -/

/-- A clamp, said by the two bounds. -/
theorem clamp_eq_max_min {lo hi : Nat} (h : lo ≤ hi) (x : Nat) : clamp lo hi x = max lo (min hi x) := by
  unfold clamp
  split
  · omega
  · split <;> omega

/-- R20: the stored capacity is at least 1 and at most the kind's largest. -/
theorem clampCapacity_eq (k : CabinKind) (x : Nat) : k.clampCapacity x = max 1 (min k.maximum x) := by
  cases k <;> exact clamp_eq_max_min (by decide) x

/-- Table 2-2 by the kind's code. -/
theorem maximum_eq (k : CabinKind) : k.maximum = if k.code = 0 then 28 else if k.code = 1 then 10 else 40 := by
  cases k <;> rfl

theorem cabinKind_ofCode_code (k : CabinKind) : CabinKind.ofCode k.code = some k := by cases k <;> rfl

theorem cabinKind_ofCode_of_lt {x : Nat} (h : 2 < x) : CabinKind.ofCode x = none := by
  obtain ⟨k, rfl⟩ : ∃ k, x = k + 3 := ⟨x - 3, by omega⟩
  rfl

/-- CABIN WRITE names no cabin, or no kind (R21). -/
theorem ownCabinWrite_badField {s : State} {cabin kind capacity autoHold : Nat}
    (h : s.cabins[cabin]? = none ∨ 2 < kind) : ownCabinWrite cabin kind capacity autoHold s = s.refuse .badField := by
  unfold ownCabinWrite
  rcases h with h | h
  · rw [h]
  · rw [cabinKind_ofCode_of_lt h]
    cases s.cabins[cabin]? <;> rfl

/-- CABIN WRITE of a cabin and a kind, by its tests in order (R20, R21). -/
theorem ownCabinWrite_named {s : State} {cabin capacity autoHold : Nat} {c : Cabin} {k : CabinKind}
    (h : s.cabins[cabin]? = some c) :
    ownCabinWrite cabin k.code capacity autoHold s =
      if s.store.saving.isSome then s.refuse .busy
      else if c.inVisit.isSome then s.refuse .wrongState
      else if c.occupancyUnknown = false ∧ k.clampCapacity capacity < c.occupancy then s.refuse .wrongState
      else State.accept { s with cabins := s.cabins.set cabin (c.configure k capacity autoHold) }
        (c.configure k capacity autoHold).configReply := by
  unfold ownCabinWrite
  rw [h, cabinKind_ofCode_code]
  simp only [modifyCabin_eq h, Bool.and_eq_true, Bool.not_eq_true', decide_eq_true_eq]

/-- Settles O21: the tests are those of `ownCabinWrite_named`, one branch for each. -/
theorem cabinWriteStoresThreeFields : Obligations.CabinWriteStoresThreeFields := by
  unfold Obligations.CabinWriteStoresThreeFields
  intro cabin kind capacity autoHold s ready
  refine ⟨_, readYesNo autoHold, State.request_ready ready _ rfl, ?_, ?_,
    fun bad => refused_of (ownCabinWrite_badField bad), ?_⟩
  · rintro rfl; rfl
  · rintro rfl; rfl
  rintro c k hc rfl
  have own := ownCabinWrite_named (capacity := capacity) (autoHold := autoHold) (k := k) hc
  rw [clampCapacity_eq, maximum_eq] at own
  intro most stored
  split
  · next saving => exact refused_of (own.trans (if_pos saving))
  next saving =>
  rw [if_neg saving] at own
  split
  · next visit => exact refused_of (own.trans (if_pos visit))
  next visit =>
  rw [if_neg visit] at own
  split
  · next crowded => exact refused_of (own.trans (if_pos crowded))
  next roomy =>
  have done := accepted_of (p := .controlRoom) (kind := 0x34) (own.trans (if_neg roomy)) rfl
  simp only [Cabin.configReply, Cabin.configure, clampCapacity_eq, maximum_eq] at done
  exact done

/-! ## The occupied count after a cabin's record has been written -/

/-- Of the state before, only the Event Stack matters for the records appended. -/
theorem recorded_congr {s s' t : State} {xs : List EventRecord} (h : Recorded s t xs) (e : s'.events = s.events) :
    Recorded s' t xs := h.trans (State.appends_events e xs).symm

theorem recorded_append (s : State) (r : EventRecord) : Recorded s (s.append r) [r] := rfl

/-- The unload-complete flag that R150 asks for. -/
def unloadWanted (s : State) : Bool := s.holds.held.atLeast .unload && s.unload.occupied = 0

/-- The UNLOAD_COMPLETE record of R150, where the flag is set anew. -/
def unloadRecords (s : State) : List EventRecord :=
  if unloadWanted s && !s.unload.complete then
    [{ time := s.clock, kind := .unloadComplete, cabin := none, platform := none, source := none
       grade := some s.holds.held, value := 0 }]
  else []

/-- R150: the flag, and the record of its setting, are all that judging it changes. -/
theorem judgeUnload_eq (s : State) :
    s.judgeUnload = { s with unload := { s.unload with complete := unloadWanted s }, events := s.judgeUnload.events } ∧
    Recorded s s.judgeUnload (unloadRecords s) := by
  unfold State.judgeUnload unloadRecords unloadWanted
  simp only
  split
  · exact ⟨by unfold State.logGrade State.append; dsimp only; split <;> rfl, recorded_congr (recorded_append _ _) rfl⟩
  · exact ⟨rfl, rfl⟩

theorem occupiedCount_eq (cabins : List Cabin) :
    occupiedCount cabins = (cabins.filter fun c => 0 < c.occupancy || c.occupancyUnknown).length :=
  List.countP_eq_length_filter

/-- A write of a cabin's record hands the count to the Hold Table: the record, the count with its flag and that flag's
record change, and nothing else (R30, R149, R150). -/
theorem writeCabin_eq {s : State} {k : Nat} {c : Cabin} (h : s.cabins[k]? = some c) (f : Cabin → Cabin) :
    s.writeCabin k f = { s with cabins := s.cabins.set k (f c), unload := (s.writeCabin k f).unload
                                events := (s.writeCabin k f).events } ∧
    Recounted s (s.writeCabin k f) := by
  unfold State.writeCabin State.recount
  rw [modifyCabin_eq h]
  dsimp only
  generalize hu : ({ s with cabins := _, unload := _ } : State) = u
  obtain ⟨eq, recorded⟩ := judgeUnload_eq u
  have count : u.judgeUnload.unload.occupied = occupiedCount u.judgeUnload.cabins := by rw [eq, ← hu]
  have flag : u.judgeUnload.unload.complete = (s.holds.held.atLeast .unload && u.judgeUnload.unload.occupied = 0) := by
    rw [eq, ← hu]; rfl
  refine ⟨by rw [eq, ← hu], count.trans (occupiedCount_eq _), flag, ?_⟩
  have wanted : unloadWanted u = u.judgeUnload.unload.complete := by rw [eq]
  rw [← wanted]
  rw [← hu] at recorded ⊢
  exact recorded_congr recorded rfl

/-- `Recounted` reads no more of the two states than this. -/
theorem recounted_congr {s s' t t' : State} (h : Recounted s t) (holds : s'.holds = s.holds)
    (unload : s'.unload = s.unload) (clock : s'.clock = s.clock) (events : s'.events = s.events)
    (cabins' : t'.cabins = t.cabins) (unload' : t'.unload = t.unload) (events' : t'.events = t.events) :
    Recounted s' t' := by
  unfold Recounted at *
  obtain ⟨count, flag, recorded⟩ := h
  rw [holds, unload, clock, cabins', unload']
  exact ⟨count, flag, events'.trans (recorded.trans (State.appends_events events _).symm)⟩

/-- A count request changes, beside its port, the cabins, what follows their occupancy, the visits and the queues. -/
theorem counted_reply {s u : State} {p : Port} {kind : Nat} {a : Answer} {cabins : List Cabin}
    {sequencers : PerPlatform Sequencer} {queues : PerPlatform Queue} (h : a = u.accept [])
    (written : u = { s with cabins := cabins, unload := u.unload, events := u.events, sequencers := sequencers
                            queues := queues }) :
    let t := State.reply p kind a
    t = { s with cabins := cabins, unload := t.unload, events := t.events, sequencers := sequencers, queues := queues
                 ports := t.ports } ∧
    t = { u with ports := t.ports } ∧ Replied s t p kind .accepted [] := by
  obtain ⟨eq, replied⟩ := accepted_of (s := s) (p := p) (kind := kind) h (by rw [written])
  generalize State.reply p kind a = t at eq replied ⊢
  refine ⟨?_, eq, replied⟩
  have unload : t.unload = u.unload := by rw [eq]
  have events : t.events = u.events := by rw [eq]
  rw [unload, events]
  exact eq.trans (by rw [written])

/-- What a count request leaves, where the count follows the cabins. -/
theorem recounted_reply {s u : State} {p : Port} {kind : Nat} {a : Answer} {cabins : List Cabin}
    {sequencers : PerPlatform Sequencer} (h : a = u.accept [])
    (written : u = { s with cabins := cabins, unload := u.unload, events := u.events, sequencers := sequencers })
    (recounted : Recounted s u) :
    let t := State.reply p kind a
    t = { s with cabins := cabins, unload := t.unload, events := t.events, sequencers := sequencers
                 ports := t.ports } ∧
    Recounted s t ∧ Replied s t p kind .accepted [] := by
  obtain ⟨frame, eq, replied⟩ := counted_reply (p := p) (kind := kind) h written
  refine ⟨frame, ?_, replied⟩
  rw [eq]
  exact recounted_congr recounted rfl rfl rfl rfl rfl rfl rfl

/-! ## OCCUPANCY DECLARE -/

theorem distinctTags_iff (records : List (Nat × Nat)) : distinctTags records = true ↔ (records.map Prod.fst).Nodup := by
  induction records with
  | nil => simp [distinctTags]
  | cons x rest ih =>
    have fresh : (rest.any fun y => y.1 = x.1) = false ↔ x.1 ∉ rest.map Prod.fst := by
      simp only [Bool.eq_false_iff, ne_eq, List.any_eq_true, decide_eq_true_eq, List.mem_map]
    simp only [distinctTags, Bool.and_eq_true, Bool.not_eq_true', fresh, ih, List.map_cons, List.nodup_cons]

/-- R34: the tests marked BAD_FIELD. -/
theorem declareFits_iff (c : Cabin) (count : Nat) (records : List (Nat × Nat)) :
    declareFits c count records = true ↔
      count ≤ c.capacity ∧ (∀ x ∈ records, x.1 ≠ 0 ∧ x.2 ≠ 0) ∧ (records.map Prod.fst).Nodup ∧
      records.length ≤ 4 ∧ (records.map Prod.snd).sum ≤ count ∧ (count = 0 → records = []) := by
  have last : (count ≠ 0 ∨ records = []) ↔ (count = 0 → records = []) := by
    rw [← imp_iff_not_or]
  simp only [declareFits, Bool.and_eq_true, Bool.or_eq_true, decide_eq_true_eq, List.all_eq_true, distinctTags_iff,
    List.isEmpty_iff, last, and_assoc]

/-- Something holds of a platform when it holds of A or of B. -/
theorem exists_platform {P : Platform → Prop} : (∃ pf, P pf) ↔ P .a ∨ P .b :=
  ⟨fun ⟨pf, h⟩ => by cases pf; exacts [.inl h, .inr h], fun h => h.elim (⟨_, ·⟩) (⟨_, ·⟩)⟩

theorem tagQueued_iff (s : State) (tag : Nat) : s.tagQueued tag = true ↔ ∃ pf, TagQueued s pf tag := by
  simp [exists_platform, State.tagQueued, TagQueued, PerPlatform.get]

theorem tagAssigned_iff (s : State) (tag : Nat) : s.tagAssigned tag = true ↔ ∃ pf, TagAssigned s pf tag := by
  simp [exists_platform, State.tagAssigned, TagAssigned, PerPlatform.get]

theorem tagAboardElsewhere_iff (s : State) (cabin tag : Nat) :
    s.tagAboardElsewhere cabin tag = true ↔ ∃ k, k ≠ cabin ∧ TagAboard s k tag := by
  simp only [State.tagAboardElsewhere, TagAboard, Cabin.hasAboard, List.any_eq_true, List.mem_range, Bool.and_eq_true,
    decide_eq_true_eq]
  constructor
  · rintro ⟨k, -, other, aboard⟩
    rcases h : s.cabins[k]? with _ | c
    · simp [h] at aboard
    · exact ⟨k, other, c, h, by simpa [h] using aboard⟩
  · rintro ⟨k, other, c, h, x, mem, eq⟩
    obtain ⟨lt, -⟩ := List.getElem?_eq_some_iff.mp h
    exact ⟨k, lt, other, by simpa [h] using ⟨x, mem, eq⟩⟩

/-- R34: a declared tag is in use in a queue, on a visit, or aboard another cabin (R87). -/
theorem declareDuplicates_iff (s : State) (cabin : Nat) (records : List (Nat × Nat)) :
    s.declareDuplicates cabin records = true ↔ ∃ x ∈ records, (∃ pf, TagQueued s pf x.1) ∨
      (∃ pf, TagAssigned s pf x.1) ∨ (∃ k, k ≠ cabin ∧ TagAboard s k x.1) := by
  simp only [State.declareDuplicates, List.any_eq_true, Bool.or_eq_true, tagQueued_iff, tagAssigned_iff,
    tagAboardElsewhere_iff, or_assoc]

/-- OCCUPANCY DECLARE of a cabin, by its tests in order (R34). -/
theorem ownOccupancyDeclare_named {s : State} {cabin count : Nat} {records : List (Nat × Nat)} {c : Cabin}
    (h : s.cabins[cabin]? = some c) :
    ownOccupancyDeclare cabin count records s =
      if declareFits c count records then
        if s.declareDuplicates cabin records then s.refuse .duplicate
        else if c.inVisit = none then
          State.accept (s.writeCabin cabin fun c =>
            c.declare count (records.map fun x => { tag := x.1, count := x.2 }) s.rideCompleted) []
        else s.refuse .wrongState
      else s.refuse .badField := by
  unfold ownOccupancyDeclare
  simp only [h]
  cases declareFits c count records with
  | false => simp
  | true => cases c.inVisit <;> simp

/-- Settles O22: the record left is that of `Cabin.declare`, and the count follows by `writeCabin_eq`. -/
theorem occupancyDeclareWritesTheCabin : Obligations.OccupancyDeclareWritesTheCabin := by
  unfold Obligations.OccupancyDeclareWritesTheCabin
  intro cabin count records s ready
  refine ⟨_, State.request_ready ready _ rfl, fun none => refused_of (by unfold ownOccupancyDeclare; rw [none]), ?_⟩
  intro c hc fits used d
  have own := ownOccupancyDeclare_named (count := count) (records := records) hc
  have fitting : _ ↔ fits := declareFits_iff c count records
  have double : _ ↔ ∃ x ∈ records, used x.1 := declareDuplicates_iff s cabin records
  refine ⟨fun unfit => ?_, fun fit dup => ?_, fun fit free visit => ?_, fun fit free idle => ?_⟩
  · exact refused_of (own.trans (if_neg (unfit ∘ fitting.mp)))
  · exact refused_of (own.trans ((if_pos (fitting.mpr fit)).trans (if_pos (double.mpr dup))))
  · exact refused_of (own.trans ((if_pos (fitting.mpr fit)).trans ((if_neg (free ∘ double.mp)).trans (if_neg visit))))
  · have run := own.trans ((if_pos (fitting.mpr fit)).trans ((if_neg (free ∘ double.mp)).trans (if_pos idle)))
    obtain ⟨written, recounted⟩ := writeCabin_eq hc fun c =>
      c.declare count (records.map fun x => { tag := x.1, count := x.2 }) s.rideCompleted
    exact recounted_reply run written recounted

end Sys2Proof.CabinTable
end

section
/-! The counts of a platform console: ALIGHT COUNT (R67) and BOARD COUNT (R68). -/

namespace Sys2Proof.CabinTable

open Machine

/-! ## Requests of a platform port -/

/-- ALIGHT COUNT and BOARD COUNT are open on the port of a platform (R175). -/
theorem kindOpen_count {p : Port} {pf : Platform} (h : portPlatform p = some pf) :
    kindOpen 0x24 p = true ∧ kindOpen 0x25 p = true := by
  obtain ⟨-, -, counts⟩ := kindOpen_platformPort (platformPort_of h)
  exact counts

/-- A platform port's request goes to the owner with the port's platform (R175). -/
theorem atPlatform_eq {p : Port} {pf : Platform} (h : portPlatform p = some pf) (s : State)
    (own : State → Platform → Answer) : s.atPlatform p own = own s pf := by
  unfold State.atPlatform
  rw [h]

/-! ## Reading and writing one platform's part -/

theorem set_set_same {α : Type} (x : PerPlatform α) (pf : Platform) (v w : α) : (x.set pf v).set pf w = x.set pf w := by
  cases pf <;> rfl

theorem set_get_self {α : Type} (x : PerPlatform α) (pf : Platform) : x.set pf (x.get pf) = x := by
  cases pf <;> rfl

/-! ## Figures that a write of a visit's counts leaves -/

/-- Two visits that the lamps (R53) and the ceiling (R159) do not tell apart. -/
def SameFace (v w : Visit) : Prop :=
  w.state = v.state ∧ w.late = v.late ∧ w.boardingOffered = v.boardingOffered

theorem SameFace.lamps {v w : Visit} (h : SameFace v w) (held : Grade) :
    lampsFor held (some w) = lampsFor held (some v) := by
  obtain ⟨state, late, offered⟩ := h
  simp only [lampsFor, state, late, offered]

theorem SameFace.working {v w : Visit} (h : SameFace v w) : w.working = v.working := by
  simp only [Visit.working, h.1]

/-- The figures read no more than this of a state. -/
theorem formed_of_same {s t : State} (h : Formed s) (output : t.output = s.output) (permit : t.permit = s.permit)
    (brake : t.brakeDemand = s.brakeDemand) (holds : t.holds = s.holds) (phase : t.phase = s.phase)
    (store : t.store = s.store) (plans : t.plans = s.plans) (position : t.position = s.position)
    (lamps : ∀ pf, lampsFor s.holds.held (t.sequencers.get pf).current =
      lampsFor s.holds.held (s.sequencers.get pf).current)
    (working : ∀ pf, (t.sequencers.get pf).working = (s.sequencers.get pf).working) : Formed t := by
  apply formed_of_figures
  · have image : s.formLamps = s.output.image := congrArg (fun t : State => t.output.image) h
    have a : lampsFor _ t.sequencers.a.current = _ := lamps .a
    have b : lampsFor _ t.sequencers.b.current = _ := lamps .b
    rw [output, ← image]
    simp only [State.formLamps, output, holds, a, b]
    rfl
  · have a : t.sequencers.a.working = _ := working .a
    have b : t.sequencers.b.working = _ := working .b
    rw [permit, h.ceiling]
    simp only [State.ceilingNow, State.gradeTerm, State.settings, State.parkTerm, State.parkRemainder, permit, holds,
      store, plans, position, a, b]
    rfl
  · rw [brake, h.brakeDemand]
    simp only [State.brakeWanted, phase, holds]

/-- A current visit written with another of the same face, in a state that keeps what the figures read. -/
theorem formed_of_sameFace {s t : State} {pf : Platform} {v w : Visit} (h : Formed s)
    (hv : (s.sequencers.get pf).current = some v) (face : SameFace v w)
    (hs : t.sequencers = s.sequencers.set pf { s.sequencers.get pf with current := some w })
    (output : t.output = s.output) (permit : t.permit = s.permit)
    (brake : t.brakeDemand = s.brakeDemand) (holds : t.holds = s.holds) (phase : t.phase = s.phase)
    (store : t.store = s.store) (plans : t.plans = s.plans) (position : t.position = s.position) : Formed t := by
  refine formed_of_same h output permit brake holds phase store plans position (fun x => ?_) (fun x => ?_)
  all_goals
    rw [hs]
    by_cases e : x = pf
    · subst e
      rw [PerPlatform.get_set_same]
      simp only [Sequencer.working, hv, face.lamps, face.working]
    · rw [PerPlatform.get_set_other _ _ e]

/-! ## A count's writes into the visit and its cabin -/

/-- What a count writes before any assignment: the current visit, of the same face as before, the cabin's record, and
the count that follows it (R30, R149, R150). -/
theorem writeVisitCabin_eq {s : State} {pf : Platform} {v w : Visit} {k : Nat} {c : Cabin} (h : Formed s)
    (hv : (s.sequencers.get pf).current = some v) (face : SameFace v w) (hc : s.cabins[k]? = some c)
    (f : Cabin → Cabin) :
    let u := (s.setVisit pf w).writeCabin k f
    Formed u ∧ Recounted s u ∧
    u = { s with cabins := s.cabins.set k (f c), unload := u.unload, events := u.events
                 sequencers := s.sequencers.set pf { s.sequencers.get pf with current := some w } } := by
  intro u
  obtain ⟨eq, recounted⟩ := writeCabin_eq (s := s.setVisit pf w) hc f
  refine ⟨?_, recounted_congr recounted rfl rfl rfl rfl rfl rfl rfl, eq⟩
  have eq : u = _ := eq
  rw [eq]
  exact formed_of_sameFace h hv face rfl rfl rfl rfl rfl rfl rfl rfl rfl

/-! ## BOARD COUNT -/

/-- The figures are formed, so that an accepted BOARD COUNT leaves no more than its writes (R68). -/
theorem board_eq {s : State} {pf : Platform} {v : Visit} {c : Cabin} (h : Formed s)
    (hv : (s.sequencers.get pf).current = some v) (hc : s.cabins[v.cabin]? = some c) (tag count occupancy : Nat) :
    let u := s.board pf v tag count occupancy
    Recounted s u ∧
    u = { s with
      cabins := s.cabins.set v.cabin (c.boardTo occupancy tag count s.position.tau), unload := u.unload
      events := u.events
      sequencers := s.sequencers.set pf { s.sequencers.get pf with current := some (v.setBoarded tag count) } } := by
  obtain ⟨formed, rest⟩ := writeVisitCabin_eq (w := v.setBoarded tag count) h hv ⟨rfl, rfl, rfl⟩ hc
    (fun c => c.boardTo occupancy tag count s.position.tau)
  have same : s.board pf v tag count occupancy = _ := formed
  simp only [same]
  exact rest

/-- R67, R68: the visit is another one, or past OPEN. -/
theorem staleFor_iff (v : Visit) (number : Nat) :
    v.staleFor number = true ↔ v.number ≠ number ∨ v.state ∈ [.closing, .secured] := by
  simp [Visit.staleFor, or_assoc]

theorem early_iff (v : Visit) : v.state ∈ [.passing, .opening] ↔ v.state = .passing ∨ v.state = .opening := by simp

theorem ownBoardCount_vacant {s : State} {pf : Platform} (number tag count : Nat)
    (h : (s.sequencers.get pf).current = none) : ownBoardCount number tag count s pf = s.refuse .stale := by
  unfold ownBoardCount
  rw [h]

/-- BOARD COUNT at a platform with a visit, by its tests in order (R68). -/
theorem ownBoardCount_visit {s : State} {pf : Platform} {v : Visit} {c : Cabin} (number tag count : Nat)
    (hv : (s.sequencers.get pf).current = some v) (hc : s.cabins[v.cabin]? = some c) :
    ownBoardCount number tag count s pf =
      if v.number ≠ number ∨ v.state ∈ [.closing, .secured] then s.refuse .stale
      else if v.state ∈ [.passing, .opening] then s.refuse .wrongState
      else match v.assigned.find? fun e => e.party.tag = tag with
        | none => s.refuse .notFound
        | some e =>
          if e.party.size < count then s.refuse .badField
          else if c.capacity < c.occupancy - e.boarded + count then s.refuse .overCapacity
          else State.accept (s.board pf v tag count (c.occupancy - e.boarded + count)) [] := by
  unfold ownBoardCount
  cases found : v.assigned.find? fun e => e.party.tag = tag with
  | none => simp only [hv, hc, staleFor_iff, early_iff, found]
  | some e => simp only [hv, hc, staleFor_iff, early_iff, found]

/-- Settles O27: the tests are those of `ownBoardCount_visit`, the writes those of `board_eq`. -/
theorem boardCountWritesTheOccupancy : Obligations.BoardCountWritesTheOccupancy := by
  unfold Obligations.BoardCountWritesTheOccupancy
  intro p pf number tag count s ready at_ formed _
  refine ⟨_, State.request_ready ready _ (kindOpen_count at_).2, ?_⟩
  refine ⟨fun vacant => refused_of
    ((atPlatform_eq at_ s _).trans (ownBoardCount_vacant number tag count vacant)), ?_⟩
  intro v c hv hc stale early
  have tests : s.atPlatform p (ownBoardCount number tag count) = _ :=
    (atPlatform_eq at_ s _).trans (ownBoardCount_visit number tag count hv hc)
  refine ⟨fun st => ?_, fun cur ea => ?_, fun cur op missing => ?_, ?_⟩
  · exact refused_of (tests.trans (if_pos st))
  · exact refused_of (tests.trans ((if_neg cur).trans (if_pos ea)))
  · have none : v.assigned.find? (fun e => e.party.tag = tag) = none := by simpa using missing
    rw [none] at tests
    exact refused_of (tests.trans ((if_neg cur).trans (if_neg op)))
  intro e found occupancy parties d w
  rw [found] at tests
  refine ⟨fun cur op big => ?_, fun cur op fits crowded => ?_, fun cur op fits room => ?_⟩
  · exact refused_of (tests.trans ((if_neg cur).trans ((if_neg op).trans (if_pos big))))
  · exact refused_of (tests.trans ((if_neg cur).trans ((if_neg op).trans
      ((if_neg (by omega)).trans (if_pos crowded)))))
  · have run := tests.trans ((if_neg cur).trans ((if_neg op).trans
      ((if_neg (by omega)).trans (if_neg (Nat.not_lt.mpr room)))))
    obtain ⟨recounted, written⟩ := board_eq formed hv hc tag count occupancy
    exact recounted_reply run written recounted

/-! ## ALIGHT COUNT -/

/-- R67: the occupancy that a count leaves, an occupancy unknown at ENTER being left as 0. -/
theorem alightLeaves_eq (v : Visit) (count : Nat) : v.alightLeaves count = v.occupancyAtEnter.getD 0 - count := by
  unfold Visit.alightLeaves
  cases v.occupancyAtEnter with
  | none => exact (Nat.zero_sub count).symm
  | some n => rfl

/-- A cabin that an ALIGHT COUNT has written is known to be empty when the occupancy written is 0. -/
theorem alightTo_knownEmpty (c : Cabin) (occupancy : Nat) (at0 : Word) :
    (c.alightTo occupancy at0).knownEmpty = decide (occupancy = 0) := by
  unfold Cabin.alightTo
  split
  · next zero => simp [Cabin.emptied, Cabin.knownEmpty, zero]
  · next some => simp [Cabin.peopled, Cabin.knownEmpty, some]

/-- An ALIGHT COUNT leaves a cabin's kind and capacity. -/
theorem alightTo_kind (c : Cabin) (occupancy : Nat) (at0 : Word) :
    (c.alightTo occupancy at0).kind = c.kind ∧ (c.alightTo occupancy at0).capacity = c.capacity := by
  unfold Cabin.alightTo
  split <;> exact ⟨rfl, rfl⟩

theorem assignIfDue_due {s : State} {pf : Platform} {v : Visit} {c : Cabin}
    (hv : (s.sequencers.get pf).current = some v) (hc : s.cabins[v.cabin]? = some c)
    (due : assignmentDue s.holds.held v c = true) : s.assignIfDue pf = s.assign pf v c := by
  unfold State.assignIfDue
  simp only [hv, hc, due, if_true]

theorem assignIfDue_undue {s : State} {pf : Platform} {v : Visit} {c : Cabin}
    (hv : (s.sequencers.get pf).current = some v) (hc : s.cabins[v.cabin]? = some c)
    (due : assignmentDue s.holds.held v c = false) : s.assignIfDue pf = s := by
  unfold State.assignIfDue
  simp only [hv, hc, due, Bool.false_eq_true, if_false]

/-- Records appended change the Event Stack alone. -/
theorem appends_eq (s : State) (xs : List EventRecord) :
    xs.foldl State.append s = { s with events := (xs.foldl State.append s).events } := by
  obtain ⟨e, h⟩ := appends_kept s xs
  rw [h]

theorem recorded_appends (s : State) (xs : List EventRecord) : Recorded s (xs.foldl State.append s) xs := rfl

/-- An assignment hands the parties chosen to the visit, takes them from the queue and records them (R66, R94). -/
theorem assign_eq (s : State) (pf : Platform) (v : Visit) (c : Cabin) :
    let r := chosenFor s pf v c
    s.assign pf v c = { s with
      sequencers := s.sequencers.set pf { s.sequencers.get pf with
        current := some { v with assigned := v.assigned ++ r.chosen.map (fun e => { party := e, boarded := 0 })
                                 assignmentAsked := true } }
      queues := s.queues.set pf { entries := r.stay, outCount := (s.queues.get pf).outCount + r.chosen.length }
      events := (s.assign pf v c).events } ∧
    Recorded s (s.assign pf v c) (r.chosen.map fun e =>
      { time := s.clock, kind := .partyAssigned, cabin := some v.cabin, platform := some pf, source := none
        grade := none, value := signed16 e.tag }) := by
  intro r
  have eq : s.assign pf v c = List.foldl State.append _ _ := logAssigned_eq _ _ _ _
  rw [eq]
  exact ⟨appends_eq _ _, recorded_congr (recorded_appends _ _) rfl⟩

/-- An assignment leaves the figures formed. -/
theorem assign_formed {s : State} {pf : Platform} {v : Visit} (h : Formed s)
    (hv : (s.sequencers.get pf).current = some v) (c : Cabin) : Formed (s.assign pf v c) := by
  rw [(assign_eq s pf v c).1]
  exact formed_of_sameFace (w := { v with assigned := v.assigned ++ _, assignmentAsked := true }) h hv
    ⟨rfl, rfl, rfl⟩ rfl rfl rfl rfl rfl rfl rfl rfl rfl

/-- The visit, the cabin and the count that an ALIGHT COUNT writes, ahead of any assignment (R67, R31). -/
def alighted (s : State) (pf : Platform) (v : Visit) (count : Nat) : State :=
  (s.setVisit pf { v with alighted := some count }).writeCabin v.cabin fun c =>
    c.alightTo (v.alightLeaves count) s.rideCompleted

theorem alight_eq (s : State) (pf : Platform) (v : Visit) (count : Nat) :
    s.alight pf v count = ((alighted s pf v count).assignIfDue pf).refresh := rfl

/-- What an ALIGHT COUNT writes ahead of any assignment, and what the assignment then finds. -/
theorem alighted_eq {s : State} {pf : Platform} {v : Visit} {c : Cabin} (h : Formed s)
    (hv : (s.sequencers.get pf).current = some v) (hc : s.cabins[v.cabin]? = some c) (count : Nat) :
    let u := alighted s pf v count
    let d := c.alightTo (v.alightLeaves count) s.rideCompleted
    let w := { v with alighted := some count }
    Formed u ∧ Recounted s u ∧
    u = { s with cabins := s.cabins.set v.cabin d, unload := u.unload, events := u.events
                 sequencers := s.sequencers.set pf { s.sequencers.get pf with current := some w } } ∧
    (u.sequencers.get pf).current = some w ∧ u.cabins[w.cabin]? = some d := by
  intro u d w
  obtain ⟨formed, recounted, eq⟩ := writeVisitCabin_eq (w := w) h hv ⟨rfl, rfl, rfl⟩ hc
    (fun c => c.alightTo (v.alightLeaves count) s.rideCompleted)
  refine ⟨formed, recounted, eq, ?_, ?_⟩
  · rw [show u = _ from eq]
    simp only [PerPlatform.get_set_same]
  · rw [show u = _ from eq]
    exact List.getElem?_set_self (List.getElem?_eq_some_iff.mp hc).1

/-- R66 for a visit in OPEN whose cabin an ALIGHT COUNT has written. -/
theorem assignmentDue_alightTo {v : Visit} (opened : v.state = .opened) (held : Grade) (count : Option Nat) (c : Cabin)
    (left : Nat) (at0 : Word) :
    assignmentDue held { v with alighted := count } (c.alightTo left at0) = true ↔
      v.boardingOffered = true ∧ left = 0 ∧ held.atLeast .unload = false ∧ v.assignmentAsked = false := by
  simp [assignmentDue, opened, alightTo_knownEmpty, and_assoc]

/-- An ALIGHT COUNT that asks for no assignment leaves its own writes alone. -/
theorem alight_undue {s : State} {pf : Platform} {v : Visit} {c : Cabin} (h : Formed s)
    (hv : (s.sequencers.get pf).current = some v) (hc : s.cabins[v.cabin]? = some c) (count : Nat)
    (due : assignmentDue s.holds.held { v with alighted := some count }
      (c.alightTo (v.alightLeaves count) s.rideCompleted) = false) :
    s.alight pf v count = alighted s pf v count := by
  obtain ⟨formed, -, eq, current, cabin⟩ := alighted_eq h hv hc count
  have held : (alighted s pf v count).holds = s.holds := by rw [eq]
  rw [alight_eq, assignIfDue_undue current cabin (by rw [held]; exact due)]
  exact formed

/-- The assignment that an ALIGHT COUNT asks for follows its writes (R66). -/
theorem alight_due {s : State} {pf : Platform} {v : Visit} {c : Cabin} (h : Formed s)
    (hv : (s.sequencers.get pf).current = some v) (hc : s.cabins[v.cabin]? = some c) (count : Nat)
    (due : assignmentDue s.holds.held { v with alighted := some count }
      (c.alightTo (v.alightLeaves count) s.rideCompleted) = true) :
    let r := chosenFor s pf v c
    let u := s.alight pf v count
    u = { s with
      cabins := s.cabins.set v.cabin (c.alightTo (v.alightLeaves count) s.rideCompleted), unload := u.unload
      events := u.events
      sequencers := s.sequencers.set pf { s.sequencers.get pf with
        current := some { v with alighted := some count, assignmentAsked := true
                                 assigned := v.assigned ++ r.chosen.map (fun e => { party := e, boarded := 0 }) } }
      queues := s.queues.set pf { entries := r.stay, outCount := (s.queues.get pf).outCount + r.chosen.length } } ∧
    u.unload = (alighted s pf v count).unload ∧
    Recorded (alighted s pf v count) u (r.chosen.map fun e =>
      { time := s.clock, kind := .partyAssigned, cabin := some v.cabin, platform := some pf, source := none
        grade := none, value := signed16 e.tag }) := by
  obtain ⟨formed, -, eq, current, cabin⟩ := alighted_eq h hv hc count
  have held : (alighted s pf v count).holds = s.holds := by rw [eq]
  intro r u
  obtain ⟨kind, capacity⟩ := alightTo_kind c (v.alightLeaves count) s.rideCompleted
  have chosen : chosenFor (alighted s pf v count) pf { v with alighted := some count }
      (c.alightTo (v.alightLeaves count) s.rideCompleted) = r := by
    rw [eq]
    simp only [chosenFor, kind, capacity]
    rfl
  obtain ⟨assigned, recorded⟩ := assign_eq (alighted s pf v count) pf { v with alighted := some count }
    (c.alightTo (v.alightLeaves count) s.rideCompleted)
  rw [chosen] at assigned recorded
  have same : u = (alighted s pf v count).assign pf { v with alighted := some count }
      (c.alightTo (v.alightLeaves count) s.rideCompleted) := by
    show s.alight pf v count = _
    rw [alight_eq, assignIfDue_due current cabin (by rw [held]; exact due)]
    exact assign_formed formed current _
  have clock : (alighted s pf v count).clock = s.clock := by rw [eq]
  rw [clock] at recorded
  rw [same]
  refine ⟨?_, by rw [assigned], recorded⟩
  generalize State.assign _ _ _ _ = t at assigned ⊢
  have unload : t.unload = (alighted s pf v count).unload := by rw [assigned]
  rw [unload]
  refine assigned.trans ?_
  generalize (alighted s pf v count).unload = x at eq ⊢
  rw [eq]
  simp only [PerPlatform.get_set_same, set_set_same]

theorem ownAlightCount_vacant {s : State} {pf : Platform} (number count : Nat)
    (h : (s.sequencers.get pf).current = none) : ownAlightCount number count s pf = s.refuse .stale := by
  unfold ownAlightCount
  rw [h]

/-- ALIGHT COUNT at a platform with a visit, by its tests in order (R67). -/
theorem ownAlightCount_visit {s : State} {pf : Platform} {v : Visit} {c : Cabin} (number count : Nat)
    (hv : (s.sequencers.get pf).current = some v) (hc : s.cabins[v.cabin]? = some c) :
    ownAlightCount number count s pf =
      if v.number ≠ number ∨ v.state ∈ [.closing, .secured] then s.refuse .stale
      else if v.state ∈ [.passing, .opening] ∨ v.directive = .board ∨ v.boardingCounted = true then
        s.refuse .wrongState
      else if v.occupancyAtEnter.getD c.capacity < count then s.refuse .badField
      else State.accept (s.alight pf v count) [] := by
  unfold ownAlightCount
  simp only [hv, hc, staleFor_iff, early_iff, or_assoc]
  rfl

/-- A visit that is neither ahead of OPEN nor past it is in OPEN. -/
theorem opened_of_current {x : VisitState} (late : x ∉ [.closing, .secured]) (early : x ∉ [.passing, .opening]) :
    x = .opened := by
  cases x <;> simp at late early ⊢

/-- Settles O26: the tests are those of `ownAlightCount_visit`; an accepted count writes what `alighted_eq` says, and
the assignment of `alight_due` follows where R66 allows it. -/
theorem alightCountWritesTheOccupancy : Obligations.AlightCountWritesTheOccupancy := by
  unfold Obligations.AlightCountWritesTheOccupancy
  intro p pf number count s ready at_ formed _
  refine ⟨_, State.request_ready ready _ (kindOpen_count at_).1, ?_⟩
  refine ⟨fun vacant => refused_of
    ((atPlatform_eq at_ s _).trans (ownAlightCount_vacant number count vacant)), ?_⟩
  intro v c hv hc stale early tooMany left d asks
  have tests : s.atPlatform p (ownAlightCount number count) = _ :=
    (atPlatform_eq at_ s _).trans (ownAlightCount_visit number count hv hc)
  refine ⟨fun st => ?_, fun cur ea => ?_, fun cur op many => ?_, fun cur op few => ?_⟩
  · exact refused_of (tests.trans (if_pos st))
  · exact refused_of (tests.trans ((if_neg cur).trans (if_pos ea)))
  · exact refused_of (tests.trans ((if_neg cur).trans ((if_neg op).trans (if_pos many))))
  have run := tests.trans ((if_neg cur).trans ((if_neg op).trans (if_neg few)))
  have opened : v.state = .opened := opened_of_current (fun h => cur (.inr h)) (fun h => op (.inl h))
  have due := assignmentDue_alightTo opened s.holds.held (some count) c (v.alightLeaves count) s.rideCompleted
  rw [alightLeaves_eq] at due
  obtain ⟨-, recounted, eq, -, -⟩ := alighted_eq formed hv hc count
  rw [alightLeaves_eq] at eq
  by_cases h : asks
  · obtain ⟨written, unload, recorded⟩ := alight_due formed hv hc count (by rw [alightLeaves_eq]; exact due.mpr h)
    rw [alightLeaves_eq] at written
    obtain ⟨frame, same, replied⟩ := counted_reply (p := p) (kind := 0x24) run written
    generalize State.reply p 0x24 _ = t at frame same replied ⊢
    have queues := congrArg (fun t : State => t.queues.get pf) frame
    simp only [PerPlatform.get_set_same] at queues
    obtain ⟨count', flag, started⟩ := recounted
    have cabins : t.cabins = (alighted s pf v count).cabins := by rw [frame, eq]
    have follows : t.unload = (alighted s pf v count).unload := by rw [same, unload]
    have quiet : (alighted s pf v count).unload.complete = false := by rw [flag, h.2.2.1]; rfl
    rw [quiet] at started
    have records := (congrArg State.events same).trans (recorded_trans started recorded)
    refine ⟨_, true, ?_, by rw [follows, cabins]; exact count', by rw [follows]; exact flag, fun n => absurd h n,
      fun _ => ⟨rfl, rfl, queues, records⟩, replied⟩
    rw [queues]
    exact frame
  · have undue := alight_undue formed hv hc count (by rw [alightLeaves_eq]; exact Bool.eq_false_iff.mpr (h ∘ due.mp))
    rw [undue] at run
    obtain ⟨frame, again, replied⟩ := recounted_reply (p := p) (kind := 0x24) run eq recounted
    generalize State.reply p 0x24 _ = t at frame again replied ⊢
    have queues : t.queues = s.queues := by rw [frame]
    refine ⟨[], v.assignmentAsked, ?_, again.1, again.2.1, fun _ => ⟨rfl, rfl, queues, again⟩, fun a => absurd a h,
      replied⟩
    rw [queues, set_get_self, List.append_nil]
    exact frame

end Sys2Proof.CabinTable
end

section
/-! The end of a visit: R78, R79, R99, R29. -/

namespace Sys2Proof.CabinTable

open Machine

/-- R29, step 3: a pending gate takes effect as R25 has it. -/
theorem takePendingGate_eq (c : Cabin) :
    c.takePendingGate = match c.pendingGate with
      | none => c
      | some .hold => { c with gate := .hold, openOnce := false, pendingGate := none }
      | some .opened => { c with gate := .opened, openOnce := false, pendingGate := none }
      | some .openOnce => { c with openOnce := true, pendingGate := none } := by
  unfold Cabin.takePendingGate
  rcases c.pendingGate with _ | g
  · rfl
  · cases g <;> rfl

/-- The service that a pending service leaves (R22, R29). -/
def askedService (c : Cabin) : Service :=
  match c.pendingService with
  | none => c.service
  | some .restore => .inService
  | some .withdraw =>
    if c.service = .inService then (if c.knownEmpty then .withdrawn else .withdrawPending) else c.service

/-- R29, step 4. -/
theorem takePendingService_eq (c : Cabin) :
    c.takePendingService = { c with service := askedService c, pendingService := none } := by
  obtain ⟨_, _, _, service, _, _, _, pending, _, _, _, _, _, _⟩ := c
  rcases pending with _ | a
  · rfl
  · cases a
    · cases service <;> rfl
    · rfl

/-- R29, step 5. -/
theorem settleWithdrawal_eq (c : Cabin) :
    c.settleWithdrawal =
      { c with service := if c.service = .withdrawPending ∧ c.knownEmpty then .withdrawn else c.service } := by
  unfold Cabin.settleWithdrawal
  by_cases h : c.service = .withdrawPending ∧ c.knownEmpty
  · simp [h.1, h.2]
  · rw [if_neg (by simpa using h), if_neg h]

/-- R29, steps 3 to 6: the pending gate, the pending service, the withdrawal, the in-visit field. -/
theorem leaveVisit_eq (c : Cabin) :
    c.leaveVisit = { c.takePendingGate with
      service := if askedService c = .withdrawPending ∧ c.knownEmpty then .withdrawn else askedService c
      pendingService := none, inVisit := none } := by
  have gate : c.takePendingGate.service = c.service ∧ c.takePendingGate.pendingService = c.pendingService ∧
      c.takePendingGate.knownEmpty = c.knownEmpty := by
    rw [takePendingGate_eq]
    split <;> exact ⟨rfl, rfl, rfl⟩
  obtain ⟨service, pending, empty⟩ := gate
  have asked : askedService c.takePendingGate = askedService c := by
    simp only [askedService, service, pending, empty]
  have kept : ({ c.takePendingGate with service := askedService c, pendingService := none } : Cabin).knownEmpty =
      c.knownEmpty := empty
  unfold Cabin.leaveVisit
  rw [settleWithdrawal_eq, takePendingService_eq, asked, kept]

/-- An append changes the Event Stack alone, by the stack that stands. -/
theorem append_eq_of_events {s t : State} (h : t.events = s.events) (r : EventRecord) :
    t.append r = { t with events := (s.append r).events } := by
  obtain ⟨e, eq⟩ := t.append_eq r
  rw [← State.append_events h r, eq]

/-- The end of a visit up to the DOOR_LATE condition (R78). -/
def endedVisit (s : State) (pf : Platform) (v : Visit) : State :=
  let q := s.sequencers.get pf
  { s with
    output := (withUnit s pf (commanded (s.output.image.get pf) .close)).output
    queues := s.queues.set pf ((s.queues.get pf).takeBack v.assigned)
    cabins := (s.endInCabin v).cabins
    events := (if v.state = .passing then s else s.append (berthRecord s .visitEnd v.cabin pf v.endValue)).events
    sequencers := s.sequencers.set pf { q with current := none, last := some v, actuatorTimer := none
                                               doorLate := if v.late then false else q.doorLate } }

theorem endVisit_eq (s : State) (pf : Platform) (v : Visit) :
    s.endVisit pf v = if v.late then (endedVisit s pf v).formDoorLate else endedVisit s pf v := by
  unfold State.endVisit endedVisit
  by_cases passing : v.state = .passing
  · simp only [State.endInCabin, passing, if_true]
    rfl
  · simp only [State.endInCabin, passing, if_false, State.logBerth]
    rw [append_eq_of_events (s := s)]
    · rfl
    · rfl

/-- What the end of a visit hands the Cabin Table (R78, R29). -/
theorem endInCabin_cabins {s : State} {v : Visit} {c : Cabin} (h : s.cabins[v.cabin]? = some c) :
    (s.endInCabin v).cabins = if v.state = .passing then s.cabins
      else s.cabins.set v.cabin (c.visitEnd (v.boardingOffered && !v.retreated) v.anyBoarded) := by
  unfold State.endInCabin
  split
  · rfl
  · rw [modifyCabin_eq h]

/-- Settles O50: the steps of `endedVisit`, with the cabin's part by `leaveVisit_eq`. -/
theorem visitEndInItsSteps : Obligations.VisitEndInItsSteps := by
  unfold Obligations.VisitEndInItsSteps
  intro s pf v c hc q t back queue boarded outcome offered gated opened empty asked d ended
  have gate : opened = gated.takePendingGate := (takePendingGate_eq gated).symm
  have cabin : d = c.visitEnd offered v.anyBoarded := by
    show _ = gated.leaveVisit
    rw [leaveVisit_eq, ← gate]
    rfl
  have same : ended = endedVisit s pf v := by
    unfold endedVisit
    rw [endInCabin_cabins hc, ← cabin]
    rfl
  rw [same]
  exact endVisit_eq s pf v

end Sys2Proof.CabinTable
end

section
/-! Power-on, hold in reset and loss of supply: R187 and the power-on rules. -/

namespace Sys2Proof.CabinTable

open Machine

/-! ## The held grade -/

theorem foldl_max_ge (t : HoldTable) (srcs : List Source) (g : Grade) :
    g.value ≤ (srcs.foldl (fun g src => g.max (t.get src).latched) g).value ∧
    ∀ src ∈ srcs, (t.get src).latched.value ≤ (srcs.foldl (fun g src => g.max (t.get src).latched) g).value := by
  induction srcs generalizing g with
  | nil => simp
  | cons first rest ih =>
    obtain ⟨start, members⟩ := ih (g.max (t.get first).latched)
    rw [Grade.value_max] at start
    refine ⟨(Nat.le_max_left ..).trans start, fun src mem => ?_⟩
    rcases List.mem_cons.mp mem with rfl | mem
    · exact (Nat.le_max_right ..).trans start
    · exact members src mem

theorem mem_allSources (src : Source) : src ∈ Source.all := by cases src <;> decide

/-- No source is latched above the held grade (R137). -/
theorem latched_le_heldGrade (t : HoldTable) (src : Source) : (t.get src).latched.value ≤ t.heldGrade.value :=
  (foldl_max_ge t Source.all .none).2 src (mem_allSources src)

/-- The held grade is at least every latched grade. -/
theorem atLeast_of_latched (t : HoldTable) (src : Source) {g : Grade} (h : (t.get src).latched = g) :
    t.heldGrade.atLeast g = true := by
  rw [Grade.atLeast, decide_eq_true_eq, ← h]
  exact latched_le_heldGrade t src

/-! ## Hold records at power-on (R153) -/

theorem none_max (g : Grade) : Grade.none.max g = g := by cases g <;> rfl

theorem max_none (g : Grade) : g.max .none = g := by cases g <;> rfl

theorem recordDerived_standing (auto : Bool) (g : Grade) : RecordDerived auto (HoldRecord.standing g) := by
  refine ⟨Nat.le_refl _, ?_⟩
  simp only [HoldRecord.standing, latchOf, max_none, ite_self]

theorem recordDerived_struck (auto : Bool) (g : Grade) : RecordDerived auto (HoldRecord.struck g) := by
  refine ⟨Nat.le_refl _, ?_⟩
  simp only [HoldRecord.struck, latchOf, none_max, ite_self]

/-- The record of each source at power-on (R153). -/
theorem holdTable_atPowerOn_get (stopA stopB : Grade) (src : Source) :
    (HoldTable.atPowerOn stopA stopB).get src =
      if src = .powerOn then HoldRecord.struck .stop
      else HoldRecord.standing (if src = .position ∨ src = .wind then .unload
        else if src = .platformStopA then stopA else if src = .platformStopB then stopB else .none) := by
  cases src <;> rfl

theorem holds_atPowerOn_held (x : Programmed) (openA openB : Bool) :
    (Holds.atPowerOn x openA openB).held = (Holds.atPowerOn x openA openB).table.heldGrade := by
  simp only [Holds.atPowerOn]

/-- At power-on the held grade is STOP at least: POWER_ON holds STOP (R153). -/
theorem holds_atPowerOn_stop (x : Programmed) (openA openB : Bool) :
    (Holds.atPowerOn x openA openB).held.atLeast .stop = true := by
  rw [holds_atPowerOn_held]
  exact atLeast_of_latched _ .powerOn rfl

/-! ## What a completed power-on leaves -/

/-- The settings that power-on puts in force (R184). -/
def startSettings (s : State) : Settings :=
  match s.store.slots.saved with
  | some (_, c) => c.settings.loaded
  | none => Settings.default

/-- The cabins that power-on creates (R38, R184). -/
def startCabins (s : State) : List Cabin :=
  match s.store.slots.saved with
  | some (_, c) => c.loadedCabins
  | none => List.replicate Geometry.default.n (Cabin.fresh CabinConfig.default)

/-- The records that power-on leaves (R184). -/
def startRecords (s : State) : List EventRecord :=
  match s.store.slots.saved with
  | some _ => []
  | none => [{ time := 0, kind := .configDefaulted, cabin := none, platform := none, source := none, grade := none
               value := 0 }]

/-- What power-on leaves ahead of the figures, with the configuration found (R184, R187). -/
def poweredOn (s : State) (openA openB : Bool) (rate : Rate) : State :=
  { s.started (startSettings s) (startCabins s) openA openB rate with
    events := { records := startRecords s, rollover := false } }

theorem powerOn_eq (s : State) (openA openB : Bool) (rate : Rate) :
    s.powerOn openA openB rate = (poweredOn s openA openB rate).refresh := by
  unfold State.powerOn poweredOn startSettings startCabins startRecords
  rcases s.store.slots.saved with _ | ⟨_, c⟩ <;> rfl

/-- Without a target speed the ceiling is 0 (R159). -/
theorem ceilingNow_of_still {s : State} (h : s.permit.drive.speed = 0) : s.ceilingNow = 0 := by
  have zero (t : Option Nat) : bounded 0 t = 0 := by
    cases t with
    | none => rfl
    | some x => exact Nat.zero_min x
  simp only [State.ceilingNow, h, Nat.zero_min, zero]

/-- Every cabin that power-on creates is fresh (R38). -/
theorem mem_startCabins {s : State} {c : Cabin} (h : c ∈ startCabins s) : ∃ x, c = Cabin.fresh x := by
  unfold startCabins at h
  split at h
  · obtain ⟨k, -, rfl⟩ := List.mem_map.mp h
    exact ⟨_, rfl⟩
  · exact ⟨_, List.eq_of_mem_replicate h⟩

/-- Fresh cabins are all of occupancy unknown, and so all counted (R38, R149). -/
theorem occupiedCount_startCabins (s : State) : occupiedCount (startCabins s) = (startCabins s).length := by
  refine List.countP_eq_length.mpr fun c h => ?_
  obtain ⟨x, rfl⟩ := mem_startCabins h
  rfl

theorem startCabins_length (s : State) : (startCabins s).length = (startSettings s).geometry.n := by
  unfold startCabins startSettings
  split
  · exact (List.length_map _).trans List.length_range
  · exact List.length_replicate

theorem poweredOn_holdsDerived (s : State) (openA openB : Bool) (rate : Rate) :
    HoldsDerived (poweredOn s openA openB rate).refresh := by
  refine ⟨fun src => ?_, holds_atPowerOn_held _ _ _⟩
  show RecordDerived _ ((HoldTable.atPowerOn _ _).get src)
  rw [holdTable_atPowerOn_get]
  split
  · exact recordDerived_struck _ _
  · exact recordDerived_standing _ _

/-- The condition of each source at power-on, with no peak above it and no event but POWER_ON's (R153). -/
theorem poweredOn_source (s : State) (openA openB : Bool) (rate : Rate) (src : Source) :
    let x := startSettings s
    let r := (poweredOn s openA openB rate).refresh.holds.table.get src
    r.floor = (if src = .powerOn then .stop else .none) ∧ r.peak = r.cond ∧
    r.cond = if src = .position ∨ src = .wind then .unload
      else if src = .platformStopA ∧ openA then x.programmed.platformStopA
      else if src = .platformStopB ∧ openB then x.programmed.platformStopB else .none := by
  intro x r
  have record : r = _ := holdTable_atPowerOn_get _ _ src
  rw [record]
  by_cases first : src = .powerOn
  · subst first
    exact ⟨rfl, rfl, rfl⟩
  · rw [if_neg first, if_neg first]
    refine ⟨rfl, rfl, ?_⟩
    show (if _ then _ else _ : Grade) = _
    by_cases a : src = .platformStopA
    · subst a
      cases openA <;> rfl
    by_cases b : src = .platformStopB
    · subst b
      cases openB <;> rfl
    simp only [a, b, if_false, false_and]

/-- The lamps at power-on: red alone (R57, R53). -/
theorem poweredOn_image (s : State) (openA openB : Bool) (rate : Rate) (pf : Platform) :
    (poweredOn s openA openB rate).refresh.output.image.get pf = ImageUnit.atPowerOn := by
  have stop := holds_atPowerOn_stop (startSettings s).programmed openA openB
  have lamps : lampsFor (Holds.atPowerOn (startSettings s).programmed openA openB).held none =
      { green := .off, amber := .off, red := .on } := by
    unfold lampsFor
    rw [stop]; rfl
  cases pf <;> exact congrArg (fun l => ({ actuator := .close, lamps := l, reclosePending := false } : ImageUnit)) lamps

/-- The configuration with no good copy: the defaults, and the record that says so (R184). -/
theorem start_of_none {s : State} (h : s.store.slots.saved = none) :
    startSettings s = Settings.default ∧ startCabins s = List.replicate 32 (Cabin.fresh CabinConfig.default) ∧
    startRecords s = [{ time := 0, kind := .configDefaulted, cabin := none, platform := none, source := none
                        grade := none, value := 0 }] := by
  unfold startSettings startCabins startRecords
  rw [h]
  exact ⟨rfl, rfl, rfl⟩

/-- The configuration of the saved copy (R184). -/
theorem start_of_some {s : State} {slot : Bool} {copy : Copy} (h : s.store.slots.saved = some (slot, copy)) :
    startSettings s = copy.settings.loaded ∧ startCabins s = copy.loadedCabins ∧ startRecords s = [] := by
  unfold startSettings startCabins startRecords
  rw [h]
  exact ⟨rfl, rfl, rfl⟩

/-- A cabin of the saved copy, its capacity brought into its kind's range (R20, R38). -/
theorem loadedCabins_get {copy : Copy} {k : Nat} {y : CabinConfig} (lt : k < copy.settings.geometry.n)
    (h : copy.cabins[k]? = some y) : copy.loadedCabins[k]? = some (Cabin.fresh y.loaded) := by
  unfold Copy.loadedCabins
  rw [List.getElem?_map, List.getElem?_range lt, Option.map_some, List.getD_eq_getElem?_getD, h, Option.getD_some]

/-- Settles O58: every block of `poweredOn` stands at its power-on value; its configuration is that of `start_of_none`
or of `start_of_some`. -/
theorem powerOnAndResetHold : Obligations.PowerOnAndResetHold := by
  unfold Obligations.PowerOnAndResetHold
  refine ⟨fun s openA openB strap => ⟨fun off => ?_, fun on => ?_⟩, fun s => ⟨rfl, rfl, fun off => ?_, fun on => ?_⟩⟩
  · show Host.Outcome.next _ = _
    rw [if_pos off]
  · refine ⟨(poweredOn s openA openB (rateOf strap)).refresh, startSettings s, ?next, State.refresh_formed _,
      ?defaults, ?saved, ?fresh, rfl, ?sequencers, ?queues, rfl, rfl, rfl, ⟨rfl, rfl⟩, rfl, rfl, rfl, rfl, ?image,
      poweredOn_source s openA openB _, poweredOn_holdsDerived s openA openB _, rfl, ?unload, ?permit, rfl, rfl, rfl,
      rfl, rfl⟩
    case next =>
      show Host.Outcome.next _ = _
      rw [if_neg on, powerOn_eq]
    case defaults =>
      intro free
      obtain ⟨settings, cabins, records⟩ := start_of_none free
      refine ⟨settings, (congrArg List.length cabins).trans List.length_replicate, fun c mem => ?_, records⟩
      have mem : c ∈ startCabins s := mem
      rw [cabins] at mem
      obtain rfl := List.eq_of_mem_replicate mem
      exact ⟨rfl, rfl, rfl⟩
    case saved =>
      intro slot copy saved
      obtain ⟨settings, cabins, records⟩ := start_of_some saved
      refine ⟨settings, startCabins_length s, fun k y lt hy => ?_, records⟩
      rw [settings] at lt
      refine ⟨_, (congrArg (·[k]?) cabins).trans (loadedCabins_get lt hy), rfl, rfl, ?_⟩
      exact clampCapacity_eq y.kind y.capacity
    case fresh =>
      intro c mem
      obtain ⟨x, rfl⟩ := mem_startCabins mem
      exact ⟨rfl, rfl, rfl, rfl, rfl, rfl, rfl, rfl, rfl, rfl, rfl⟩
    case sequencers => intro pf; cases pf <;> rfl
    case queues => intro pf; cases pf <;> rfl
    case image =>
      intro pf
      rw [poweredOn_image]
      exact ⟨rfl, rfl, rfl⟩
    case unload =>
      exact congrArg (fun n => ({ occupied := n, complete := false } : Unload)) (occupiedCount_startCabins s)
    case permit =>
      exact congrArg (fun n => { Permit.atPowerOn (startSettings s).silenceTime with ceiling := n })
        (ceilingNow_of_still (s := poweredOn s openA openB _) rfl)
  · show Host.Outcome.next _ = _
    rw [if_pos off]
  · show Host.Outcome.next _ = _
    rw [if_neg on]
    rfl

end Sys2Proof.CabinTable
end

section
/-! The requests that only read: STATUS QUERY, CABIN READ, BERTH QUERY, QUEUE QUERY, PLAN READ, CONFIG READ and HOLD
READ. -/

namespace Sys2Proof.CabinTable

open Machine

/-! ## Fields of replies -/

/-- An absent 4-byte field is all ones (R176). -/
theorem option4_eq (x : Option Nat) : option4 x = bytes4 (x.getD 4294967295) := by cases x <;> rfl

/-- An absent 1-byte field is all ones (R176). -/
theorem option1_eq (x : Option Nat) : option1 x = bytes1 (x.getD 255) := by cases x <;> rfl

/-- An absent tag is 0. -/
theorem tagBytes_eq (x : Option Nat) : tagBytes x = bytes2 (x.getD 0) := by cases x <;> rfl

@[simp] theorem bytes1_length (x : Nat) : (bytes1 x).length = 1 := rfl

@[simp] theorem bytes2_length (x : Nat) : (bytes2 x).length = 2 := rfl

@[simp] theorem bytes4_length (x : Nat) : (bytes4 x).length = 4 := rfl

@[simp] theorem signed4_length (x : Int) : (signed4 x).length = 4 := rfl

@[simp] theorem yesNo_length (x : Bool) : (yesNo x).length = 1 := rfl

@[simp] theorem option4_length (x : Option Nat) : (option4 x).length = 4 := by cases x <;> rfl

@[simp] theorem optionSigned4_length (x : Option Int) : (optionSigned4 x).length = 4 := by cases x <;> rfl

/-! ## Codes of the objects asked for -/

theorem platform_ofCode_code (pf : Platform) : Platform.ofCode (Platform.code pf) = some pf := by cases pf <;> rfl

theorem platform_ofCode_of_lt {x : Nat} (h : 1 < x) : Platform.ofCode x = none := by
  obtain ⟨k, rfl⟩ : ∃ k, x = k + 2 := ⟨x - 2, by omega⟩
  rfl

theorem source_ofNumber_number (src : Source) : Source.ofNumber src.number = some src := by cases src <;> rfl

theorem source_ofNumber_of_lt {x : Nat} (h : 17 < x) : Source.ofNumber x = none := List.getElem?_eq_none h

theorem source_number_ne (src : Source) : src.number ≠ 255 := by cases src <;> decide

/-! ## STATUS QUERY -/

/-- R178: the status reply is 156 bytes long. -/
theorem status_length (s : State) : s.status.length = 156 := by
  simp only [State.status, State.statusHead, State.statusPlatform, State.statusWind, Anemometer.status,
    State.statusDrive, State.statusPermit, State.statusTail, List.length_append, bytes1_length, bytes2_length,
    bytes4_length, signed4_length, yesNo_length, option4_length, optionSigned4_length]

/-- The park remainder of the reply, the most negative number where none is given (R161). -/
theorem remainder_eq (s : State) :
    optionSigned4 s.remainder = match s.permit.park with
      | some r => if r.state = .parked then signed4 (-2147483648) else signed4 (r.target - s.position.tau).toInt
      | none => signed4 (-2147483648) := by
  unfold State.remainder
  cases s.permit.park with
  | none => rfl
  | some r =>
    dsimp only
    split <;> rfl

/-- The visit-state code of a platform. -/
theorem stateCode_eq (q : Sequencer) : q.stateCode = (q.current.map fun v => v.state.code).getD 0 := by
  unfold Sequencer.stateCode
  cases q.current <;> rfl

/-! ## The other requests -/

theorem ownCabinRead_some {s : State} {cabin : Nat} {c : Cabin} (h : s.cabins[cabin]? = some c) :
    ownCabinRead cabin s = s.accept (s.cabinReply c) := by
  unfold ownCabinRead
  rw [h]

theorem ownCabinRead_none {s : State} {cabin : Nat} (h : s.cabins[cabin]? = none) :
    ownCabinRead cabin s = s.refuse .badField := by
  unfold ownCabinRead
  rw [h]

theorem ownBerthQuery_code (s : State) (pf : Platform) :
    ownBerthQuery (Platform.code pf) s = s.accept (s.berthReply pf) := by
  unfold ownBerthQuery
  rw [platform_ofCode_code]

theorem ownBerthQuery_of_lt {x : Nat} (h : 1 < x) (s : State) : ownBerthQuery x s = s.refuse .badField := by
  unfold ownBerthQuery
  rw [platform_ofCode_of_lt h]

theorem ownQueueQuery_code (s : State) (pf : Platform) :
    ownQueueQuery (Platform.code pf) s = s.accept (s.queueReply pf) := by
  unfold ownQueueQuery
  rw [platform_ofCode_code]

theorem ownQueueQuery_of_lt {x : Nat} (h : 1 < x) (s : State) : ownQueueQuery x s = s.refuse .badField := by
  unfold ownQueueQuery
  rw [platform_ofCode_of_lt h]

theorem ownPlanRead_eq (s : State) {bank : Nat} (first : Nat) (h : bank ≤ 1) :
    ownPlanRead bank first s = s.accept (s.planReply bank first) := if_neg (by omega)

theorem ownPlanRead_of_lt (s : State) {bank : Nat} (first : Nat) (h : 1 < bank) :
    ownPlanRead bank first s = s.refuse .badField := if_pos h

theorem ownConfigRead_some {code : Nat} {i : Item} (h : Item.ofCode code = some i) (s : State) :
    ownConfigRead code s = s.accept (s.readReply code i) := by
  unfold ownConfigRead
  rw [h]

theorem ownConfigRead_none {code : Nat} (h : Item.ofCode code = none) (s : State) :
    ownConfigRead code s = s.refuse .badField := by
  unfold ownConfigRead
  rw [h]

theorem ownHoldRead_source (s : State) (src : Source) :
    ownHoldRead src.number s = s.accept (s.holdHead ++ s.holdRecord src) := by
  unfold ownHoldRead
  rw [if_neg (source_number_ne src), source_ofNumber_number]

theorem ownHoldRead_badField {x : Nat} (big : 17 < x) (other : x ≠ 255) (s : State) :
    ownHoldRead x s = s.refuse .badField := by
  unfold ownHoldRead
  rw [if_neg other, source_ofNumber_of_lt big]

/-- A visit record in a reply, the absent fields at their codes (R82, log 11). -/
theorem visitBytes_eq (x : Option Visit) :
    visitBytes x = match x with
      | none => bytes1 0
      | some v =>
        bytes1 v.number ++ bytes1 v.cabin ++ bytes1 v.directive.code ++ bytes2 (v.reservedTag.getD 0) ++
        bytes4 (v.occupancyAtEnter.getD 4294967295) ++ bytes1 (v.alighted.getD 255) ++ bytes4 v.assigned.length ++
        (v.assigned.flatMap Assigned.bytes) ++ bytes1 v.state.code ++ bytes4 v.retries ++ yesNo v.boardingOffered ++
        yesNo v.assignmentAsked ++ yesNo v.boardingCounted ++ yesNo v.openFailed ++ yesNo v.closeFailed ++
        yesNo v.late ++ yesNo v.retreated ++ yesNo v.positionLost := by
  cases x with
  | none => rfl
  | some v => simp only [visitBytes, tagBytes_eq, option4_eq, option1_eq, listBytes, List.append_assoc]

/-- Settles O19: each request answers by the reply of its block, whose bytes are those of the statement field by
field. -/
theorem readRequestsChangeNothing : Obligations.ReadRequestsChangeNothing := by
  unfold Obligations.ReadRequestsChangeNothing
  intro flag optional
  have absent (x : Option Nat) : optional x = option4 x := (option4_eq x).symm
  refine ⟨?status, ?cabin, ?platform, ?plan, ?config, ?hold⟩
  case status =>
    intro p s ready sensor berth quietLeft endsLeft drive park remainder payload
    have eq : s.status = payload := by
      have last : optionSigned4 s.remainder = remainder := remainder_eq s
      have state (pf : Platform) : s.statusPlatform pf = berth pf := by
        dsimp only [State.statusPlatform]
        rw [stateCode_eq]
        rfl
      simp only [State.status, State.statusHead, state, State.statusWind, State.statusDrive,
        State.statusPermit, State.statusTail, List.append_assoc, last, ← absent, payload]
      rfl
    rw [← eq]
    exact ⟨_, State.request_ready ready _ rfl, read_of rfl, status_length s⟩
  case cabin =>
    intro p cabin s ready
    refine ⟨_, State.request_ready ready _ rfl, fun c hc => ?_, fun none => refused_of (ownCabinRead_none none)⟩
    have read := read_of (p := p) (kind := 0x02) (ownCabinRead_some hc)
    simp only [State.cabinReply, listBytes, option1_eq, ← absent, ← List.append_assoc] at read
    exact read
  case platform =>
    intro p platform s ready at_
    obtain ⟨open0, open1, -⟩ := kindOpen_platformPort at_
    refine ⟨_, _, State.request_ready ready _ open0, State.request_ready ready _ open1, ?_, fun big =>
      ⟨refused_of (ownBerthQuery_of_lt big s), refused_of (ownQueueQuery_of_lt big s)⟩⟩
    rintro pf rfl q visit waiting gone
    have bytes (x : Option Visit) : visitBytes x = visit x := visitBytes_eq x
    have berth := read_of (p := p) (kind := 0x20) (ownBerthQuery_code s pf)
    have queue := read_of (p := p) (kind := 0x21) (ownQueueQuery_code s pf)
    simp only [State.berthReply, bytes] at berth
    simp only [State.queueReply, listBytes, ← List.append_assoc] at queue
    exact ⟨berth, queue⟩
  case plan =>
    intro bank first s ready
    refine ⟨_, State.request_ready ready _ rfl, fun le => ?_, fun big => refused_of (ownPlanRead_of_lt s first big)⟩
    intro x page
    have read := read_of (p := .controlRoom) (kind := 0x3A) (ownPlanRead_eq s first le)
    have named : s.plans.bank bank = x := by
      obtain rfl | rfl : bank = 0 ∨ bank = 1 := by omega
      · rfl
      · rfl
    simp only [State.planReply, listBytes, named, ← List.append_assoc] at read
    exact read
  case config =>
    intro code s ready
    refine ⟨_, State.request_ready ready _ rfl, fun i hi => ?_, fun none => refused_of (ownConfigRead_none none s)⟩
    have read := read_of (p := .controlRoom) (kind := 0x31) (ownConfigRead_some hi s)
    simp only [State.readReply, ← absent] at read
    exact read
  case hold =>
    intro source s ready head grade details
    refine ⟨_, State.request_ready ready _ rfl, ?_, ?_, fun big other => refused_of (ownHoldRead_badField big other s)⟩
    · rintro rfl
      exact read_of rfl
    · rintro src rfl r
      have read := read_of (p := .controlRoom) (kind := 0x42) (ownHoldRead_source s src)
      have fixed : s.sourceGrade src = grade src := by cases src <;> rfl
      have capable : src.autoCapable = decide (src ∈ [.wind, .windSensor, .position, .planEnd]) := by cases src <;> rfl
      have detail : s.holdDetails src = details src := by cases src <;> rfl
      simp only [State.holdRecord, fixed, capable, detail] at read
      exact read

end Sys2Proof.CabinTable
end

section
/-! RESTART and the warm restart: R188, R39, R58, R85, R102, R144, R154, R170, R180. -/

namespace Sys2Proof.CabinTable

open Machine

/-! ## The Hold Table through a change of one source -/

theorem holdTable_set_get_self (t : HoldTable) (src : Source) : t.set src (t.get src) = t := by cases src <;> rfl

/-- The held grade reads the latched grades alone (R137). -/
theorem heldGrade_congr {t u : HoldTable} (h : ∀ src, (u.get src).latched = (t.get src).latched) :
    u.heldGrade = t.heldGrade := by
  unfold HoldTable.heldGrade
  simp only [h]

/-- What `HoldsDerived` reads of a state. -/
theorem holdsDerived_congr {s t : State} (h : HoldsDerived s) (holds : t.holds = s.holds) (store : t.store = s.store) :
    HoldsDerived t := by
  unfold HoldsDerived State.settings at *
  rw [holds, store]
  exact h

/-- R137 is kept by a change of a source that leaves the peak at the condition or above. -/
theorem holdsDerived_changeSource {s : State} (h : HoldsDerived s) (src : Source) (f : HoldRecord → HoldRecord)
    (peak : (f (s.holds.table.get src)).cond.value ≤ (f (s.holds.table.get src)).peak.value) :
    HoldsDerived (s.changeSource src f) := by
  have settings : (s.changeSource src f).settings = s.settings := by
    unfold State.settings
    rw [(s.changeSource_reaction src f).store]
  refine ⟨fun other => ?_, ?_⟩
  · rw [settings, State.changeSource_holds]
    dsimp only
    by_cases e : other = src
    · subst e
      rw [HoldTable.get_set_same]
      exact ⟨peak, rfl⟩
    · rw [HoldTable.get_set_other _ _ e]
      exact h.1 other
  · rw [State.changeSource_holds]

theorem holdsDerived_setCondition {s : State} (h : HoldsDerived s) (src : Source) (g : Grade) :
    HoldsDerived (s.setCondition src g) := by
  unfold State.setCondition
  split
  · exact h
  · refine holdsDerived_changeSource h src _ ?_
    rw [HoldRecord.withCond, Grade.value_max]
    exact Nat.le_max_right ..

theorem holdsDerived_deliverEvent {s : State} (h : HoldsDerived s) (src : Source) (g : Grade) :
    HoldsDerived (s.deliverEvent src g) := by
  unfold State.deliverEvent
  split
  · exact h
  · exact holdsDerived_changeSource h src _ (h.1 src).1

/-- A source's change leaves the other sources. -/
theorem setCondition_other (s : State) {src other : Source} (g : Grade) (h : other ≠ src) :
    (s.setCondition src g).holds.table.get other = s.holds.table.get other := by
  unfold State.setCondition
  split
  · rfl
  · rw [State.changeSource_holds]
    exact HoldTable.get_set_other _ _ h

theorem deliverEvent_other (s : State) {src other : Source} (g : Grade) (h : other ≠ src) :
    (s.deliverEvent src g).holds.table.get other = s.holds.table.get other := by
  unfold State.deliverEvent
  split
  · rfl
  · rw [State.changeSource_holds]
    exact HoldTable.get_set_other _ _ h

/-- What an event leaves of its source's record: the floor raised, and the latched grade derived again (R136). -/
theorem deliverEvent_record (s : State) (src : Source) (g : Grade) :
    (s.deliverEvent src g).holds.table.get src = { s.holds.table.get src with
      floor := (s.holds.table.get src).floor.max g
      latched := ((s.deliverEvent src g).holds.table.get src).latched } := by
  unfold State.deliverEvent
  split
  · next above => rw [max_of_le (by simpa [Grade.atLeast] using above)]
  · rw [State.changeSource_holds]
    dsimp only
    rw [HoldTable.get_set_same]
    rfl

/-- The source of an event is latched at the event's grade or above, and so is the held grade. -/
theorem deliverEvent_held {s : State} (h : HoldsDerived s) (src : Source) (g : Grade) :
    g.value ≤ (s.deliverEvent src g).holds.held.value := by
  obtain ⟨records, held⟩ := holdsDerived_deliverEvent h src g
  have latched : _ = latchOf _ _ := (records src).2
  have floor : ((s.deliverEvent src g).holds.table.get src).floor = (s.holds.table.get src).floor.max g := by
    rw [deliverEvent_record]
  have above : g.value ≤ ((s.deliverEvent src g).holds.table.get src).latched.value := by
    rw [latched, latchOf, floor]
    split
    all_goals
      rw [Grade.value_max, Grade.value_max]
      exact (Nat.le_max_right ..).trans (Nat.le_max_right ..)
  rw [held]
  exact above.trans (latched_le_heldGrade _ src)

/-- A condition that falls to NONE leaves the latched grade of a source that keeps its peak, and so sets nothing off. -/
theorem setCondition_none {s : State} (h : HoldsDerived s) {src : Source} (keeps : s.settings.auto.get src = false) :
    s.setCondition src .none = { s with holds := { s.holds with
      table := s.holds.table.set src { s.holds.table.get src with cond := .none } } } := by
  obtain ⟨-, latched⟩ := h.1 src
  rw [keeps, latchOf, if_neg Bool.false_ne_true] at latched
  unfold State.setCondition
  split
  · next clear =>
    have same : { s.holds.table.get src with cond := Grade.none } = s.holds.table.get src := by rw [← clear]
    rw [same, holdTable_set_get_self]
  · have record : (s.holds.table.get src).withCond .none = { s.holds.table.get src with cond := .none } := by
      rw [HoldRecord.withCond, max_none]
    have latch : latchOf false { s.holds.table.get src with cond := .none } = (s.holds.table.get src).latched :=
      latched.symm
    have held : (s.holds.table.set src { s.holds.table.get src with cond := .none }).heldGrade = s.holds.held := by
      rw [h.2]
      refine heldGrade_congr fun other => ?_
      by_cases e : other = src
      · subst e
        rw [HoldTable.get_set_same]
      · rw [HoldTable.get_set_other _ _ e]
    unfold State.changeSource
    dsimp only
    rw [record, keeps, latch, held, if_pos rfl, State.logLatch, if_neg (Nat.lt_irrefl _), if_neg (Nat.lt_irrefl _)]

/-! ## A reaction while the platforms are VACANT -/

/-- With both platforms VACANT nothing is assigned, so a reaction leaves the visits and the queues (R66). -/
theorem followed_vacant {s t : State} (k : Followed s t) (vacant : ∀ pf, (s.sequencers.get pf).current = none) :
    t = { s with holds := t.holds, unload := { s.unload with complete := t.unload.complete }
                 permit := { s.permit with park := t.permit.park }, events := t.events } := by
  have none (pf : Platform) : assignmentAwaited s pf = none := by
    unfold assignmentAwaited
    rw [vacant]
  have still : asked (asked s .a) .b = s := by rw [(asked_none (none .a)).1, (asked_none (none .b)).1]
  have visits : t.sequencers = s.sequencers ∧ t.queues = s.queues := by
    rcases k.parties with p | p
    · exact ⟨p.1, p.2.1⟩
    · obtain ⟨sequencers, queues, -⟩ := p
      rw [still] at sequencers queues
      exact ⟨sequencers, queues⟩
  obtain ⟨sequencers, queues⟩ := visits
  obtain ⟨r1, r2, r3, r4, r5, r6, r7, r8, r9, r10, r11, r12, r13, r14, r15, -, -⟩ := k.reach
  cases t
  simp only at *
  subst r1 r2 r3 r4 r5 r6 r7 r8 r9 r10 r11 r12 r13 sequencers queues
  rw [r14, r15]

/-! ## The away set (R50, R51) -/

theorem forall_platform {P : Platform → Prop} : (∀ pf, P pf) ↔ P .a ∧ P .b :=
  ⟨fun h => ⟨h .a, h .b⟩, fun ⟨a, b⟩ pf => by cases pf; exacts [a, b]⟩

/-- R50, clause 3: outside the window, or at a platform that is OFF. -/
theorem clearOf_iff (s : State) (k : Nat) (pf : Platform) :
    s.clearOf k pf = true ↔ s.position.points.roles.get pf = .off ∨
      s.phaseAt s.position.theta pf k < -(s.position.points.enter : Int) ∨
      (s.position.points.exit : Int) < s.phaseAt s.position.theta pf k := by
  have outside (x : Int) : s.position.points.inWindow x = false ↔
      x < -(s.position.points.enter : Int) ∨ (s.position.points.exit : Int) < x := by
    simp only [Points.inWindow, Bool.and_eq_false_iff, decide_eq_false_iff_not, not_le]
  rw [State.clearOf, Bool.or_eq_true, decide_eq_true_eq, Bool.not_eq_true', outside]

theorem isAway_iff (s : State) (k : Nat) (c : Cabin) : s.isAway k c = true ↔ AwayCabin s k c := by
  unfold AwayCabin
  rw [forall_platform, ← clearOf_iff, ← clearOf_iff]
  simp only [State.isAway, Bool.and_eq_true, Bool.or_eq_true, decide_eq_true_eq, Option.isNone_iff_eq_none, and_assoc]

theorem awaySet_eq_nil_iff (s : State) :
    s.awaySet = [] ↔ ∀ (k : Nat) (c : Cabin), s.cabins[k]? = some c → ¬AwayCabin s k c := by
  rw [State.awaySet, List.filter_eq_nil_iff]
  simp only [List.mem_range, ← isAway_iff]
  constructor
  · intro h k c hc
    simpa [hc] using h k (List.getElem?_eq_some_iff.mp hc).1
  · intro h k lt
    have hc : s.cabins[k]? = some s.cabins[k] := List.getElem?_eq_getElem lt
    simpa [hc] using h k _ hc

/-- What clause by clause R50 reads of a state. -/
theorem awayCabin_congr {s t : State} (position : t.position = s.position) (store : t.store = s.store) (k : Nat)
    (c : Cabin) : AwayCabin t k c ↔ AwayCabin s k c := by
  unfold AwayCabin State.phaseAt State.geometry
  rw [position, store]

/-! ## DOOR_AWAY's condition set or cleared -/

/-- A record with the grade BRAKE and the clock of `s`. -/
def brakeRecord (s : State) (kind : EventKind) (src : Option Source) (value : Int) : EventRecord :=
  { time := s.clock, kind := kind, cabin := none, platform := none, source := src, grade := some .brake
    value := value }

/-- The records of DOOR_AWAY's rise to BRAKE from `s` to `t`: HOLD_RAISED, and UNLOAD_COMPLETE where the rise completes
an unload (R138, R150). -/
def awayRecords (s t : State) : List EventRecord :=
  let old := (s.holds.table.get .doorAway).latched
  let raised : Bool := (t.holds.table.get .doorAway).latched ≠ old
  (if raised then [brakeRecord s .holdRaised (some .doorAway) old.value] else []) ++
  (if raised && s.holds.held ≠ .brake && s.unload.occupied = 0 && !s.unload.complete then
    [brakeRecord s .unloadComplete none 0] else [])

theorem eq_brake_of_le {g : Grade} (h : Grade.brake.value ≤ g.value) : g = .brake := by
  cases g <;> simp [Grade.value] at h ⊢

/-- What the records of DOOR_AWAY's rise read of the state before. -/
theorem awayRecords_congr {s s' t : State} (record : s'.holds.table.get .doorAway = s.holds.table.get .doorAway)
    (held : s'.holds.held = s.holds.held) (unload : s'.unload = s.unload) (clock : s'.clock = s.clock) :
    awayRecords s' t = awayRecords s t := by
  unfold awayRecords brakeRecord
  rw [record, held, unload, clock]

/-- Without a move of the latched grade there is no record. -/
theorem awayRecords_unraised {s t : State}
    (h : (t.holds.table.get .doorAway).latched = (s.holds.table.get .doorAway).latched) : awayRecords s t = [] := by
  simp [awayRecords, h]

theorem awayRecords_raised {s t : State}
    (h : (t.holds.table.get .doorAway).latched ≠ (s.holds.table.get .doorAway).latched) :
    awayRecords s t =
      [brakeRecord s .holdRaised (some .doorAway) (s.holds.table.get .doorAway).latched.value] ++
      if s.holds.held ≠ .brake && s.unload.occupied = 0 && !s.unload.complete then
        [brakeRecord s .unloadComplete none 0] else [] := by
  simp [awayRecords, h]

/-- DOOR_AWAY set is latched at BRAKE (R137). -/
theorem setAway_latched {s : State} (h : HoldsDerived s) :
    ((s.setCondition .doorAway .brake).holds.table.get .doorAway).latched = .brake := by
  rw [(setCondition_record h .doorAway .brake rfl).1]
  refine eq_brake_of_le ?_
  rw [latchedAt, Grade.value_max, Grade.value_max]
  exact (Nat.le_max_right ..).trans (Nat.le_max_left ..)

/-- A source latched at BRAKE makes the held grade BRAKE. -/
theorem held_brake {s : State} (h : HoldsDerived s) (src : Source) (brake : (s.holds.table.get src).latched = .brake) :
    s.holds.held = .brake := by
  rw [h.2]
  refine eq_brake_of_le ?_
  rw [← brake]
  exact latched_le_heldGrade _ src

/-- R137, R138: a change of a source in its order: the records, the move of the latch, the change of the held grade. -/
theorem changeSource_eq {s : State} {src : Source} {f : HoldRecord → HoldRecord} {x : Holds}
    (hx : (s.changeSource src f).holds = x) :
    s.changeSource src f =
      if s.holds.held = x.held then
        State.logLatch { s with holds := x } src (s.holds.table.get src).latched (x.table.get src).latched
      else
        (State.logLatch { s with holds := x } src (s.holds.table.get src).latched (x.table.get src).latched).heldChanged
          s.holds.held x.held := by
  rw [State.changeSource_holds] at hx
  subst hx
  simp only [State.changeSource, HoldTable.get_set_same]

/-- A latch that rises to BRAKE is recorded (R138). -/
theorem logLatch_raised (s : State) (src : Source) {old : Grade} (h : old ≠ .brake) :
    s.logLatch src old .brake = s.logHold .holdRaised src .brake old.value := by
  have lt : old.value < Grade.brake.value := by
    cases old
    case brake => exact absurd rfl h
    all_goals decide
  exact if_pos lt

/-- The record of DOOR_AWAY's rise, with the Hold Table at `x`, and what it leaves. -/
theorem raise_recorded (s : State) (x : Holds) (old : Grade) :
    let u := State.logHold { s with holds := x } .holdRaised .doorAway .brake old.value
    u = { s with holds := x, events := u.events } ∧
    Recorded s u [brakeRecord s .holdRaised (some .doorAway) old.value] :=
  ⟨append_eq_of_events rfl _, recorded_congr (s := { s with holds := x }) rfl rfl⟩

/-- A change of the held grade to BRAKE records no more than UNLOAD_COMPLETE (R150). -/
theorem heldChanged_brake_recorded (s : State) (old : Grade) :
    Recorded s (s.heldChanged old .brake) (unloadRecords s) := by
  have parked (u : State) : (u.parkOnChange old .brake).events = u.events := by
    unfold State.parkOnChange
    rw [if_neg nofun]
    split <;> rfl
  exact (parked _).trans (judgeUnload_eq s).2

/-- DOOR_AWAY's condition set or cleared makes the records of `awayRecords`: HOLD_RAISED where the latched grade rises,
and UNLOAD_COMPLETE where that rise completes an unload (R138, R150). -/
theorem setAway_recorded {s : State} (h : HoldsDerived s) (clear : Bool) :
    let t := s.setCondition .doorAway (if clear then .none else .brake)
    Recorded s t (awayRecords s t) := by
  cases clear with
  | true =>
    intro t
    have cleared : t = _ := setCondition_none h rfl
    rw [awayRecords_unraised (by rw [cleared, HoldTable.get_set_same]), cleared]
    rfl
  | false =>
    intro t
    have latched : (t.holds.table.get .doorAway).latched = .brake := setAway_latched h
    have held : t.holds.held = .brake := held_brake (holdsDerived_setCondition h _ _) .doorAway latched
    by_cases cond : (s.holds.table.get .doorAway).cond = .brake
    · have idle : t = s := if_pos cond
      rw [awayRecords_unraised (by rw [idle]), idle]
      rfl
    have change : t = s.changeSource .doorAway fun r => r.withCond .brake := if_neg cond
    have eq : t = _ := change.trans (changeSource_eq (congrArg State.holds change).symm)
    rw [held, latched] at eq
    by_cases old : (s.holds.table.get .doorAway).latched = .brake
    · rw [awayRecords_unraised (latched.trans old.symm), eq, old, if_pos (held_brake h _ old)]
      rfl
    rw [logLatch_raised _ _ old] at eq
    obtain ⟨frame, raised⟩ := raise_recorded s t.holds (s.holds.table.get .doorAway).latched
    generalize State.logHold _ _ _ _ _ = u at eq frame raised
    rw [awayRecords_raised (by rw [latched]; exact Ne.symm old)]
    by_cases before : s.holds.held = .brake
    · rw [if_pos before] at eq
      rw [if_neg (by simp [before]), List.append_nil, eq]
      exact raised
    · have complete : unloadRecords u = if s.holds.held ≠ .brake && s.unload.occupied = 0 && !s.unload.complete then
          [brakeRecord s .unloadComplete none 0] else [] := by
        simp only [unloadRecords, unloadWanted]
        rw [frame]
        simp [held, before, Grade.atLeast, Grade.value, brakeRecord]
      rw [if_neg before] at eq
      rw [← complete, eq]
      exact recorded_trans raised (heldChanged_brake_recorded u _)

/-! ## The stages of a warm restart -/

/-- The visits, the cabins and the queues ended, with DOOR_LATE's condition (R188, R85, R39, R102). -/
def idled (s : State) : State := s.restartBlocks.formDoorLate

/-- Then the away set judged, with DOOR_AWAY's condition (R58). -/
def awayJudged (s : State) : State := (idled s).judgeAway

/-- Then CLOSE commanded, the silence timer restarted, and RESTARTED recorded (R170, R188). -/
def silenced (s : State) (cause : RestartCause) : State :=
  State.logPlain (((awayJudged s).command .a .close).command .b .close).restartSilence .restarted (restartValue cause)

/-- Then RESTART's event at STOP (R154). -/
def struck (s : State) (cause : RestartCause) : State := (silenced s cause).deliverEvent .restart .stop

theorem warmRestart_eq (s : State) (cause : RestartCause) : s.warmRestart cause = (struck s cause).refresh := rfl

/-- DOOR_LATE's condition clears with the visits; its latch stays. -/
theorem idled_eq {s : State} (h : HoldsDerived s) :
    idled s = { s.restartBlocks with holds := { s.holds with
      table := s.holds.table.set .doorLate { s.holds.table.get .doorLate with cond := .none } } } :=
  setCondition_none (s := s.restartBlocks) (holdsDerived_congr h rfl rfl) rfl

theorem idled_vacant {s : State} (h : HoldsDerived s) (pf : Platform) :
    ((idled s).sequencers.get pf).current = none := by
  rw [idled_eq h]
  cases pf <;> rfl

theorem idled_holdsDerived {s : State} (h : HoldsDerived s) : HoldsDerived (idled s) :=
  holdsDerived_setCondition (s := s.restartBlocks) (holdsDerived_congr h rfl rfl) _ _

/-- The state of which DOOR_AWAY's condition is formed: its away set judged. -/
def withAway (u : State) : State := { u with loop := { u.loop with away := u.awaySet } }

theorem awayJudged_eq (s : State) :
    awayJudged s =
      (withAway (idled s)).setCondition .doorAway (if (idled s).awaySet.isEmpty then .none else .brake) := rfl

/-- What the judging of the away set reaches, with the visits ended. -/
theorem awayJudged_frame {s : State} (h : HoldsDerived s) :
    let a := awayJudged s
    a = { withAway (idled s) with
      holds := a.holds, unload := { (idled s).unload with complete := a.unload.complete }
      permit := { (idled s).permit with park := a.permit.park }, events := a.events } :=
  followed_vacant (followed_setCondition (withAway (idled s)) _ _) (idled_vacant h)

theorem awayJudged_holdsDerived {s : State} (h : HoldsDerived s) : HoldsDerived (awayJudged s) :=
  holdsDerived_setCondition (s := withAway (idled s)) (holdsDerived_congr (idled_holdsDerived h) rfl rfl) _ _

theorem idled_other {s : State} (h : HoldsDerived s) {src : Source} (ne : src ≠ .doorLate) :
    (idled s).holds.table.get src = s.holds.table.get src := by
  rw [idled_eq h]
  exact HoldTable.get_set_other _ _ ne

theorem awayJudged_recorded {s : State} (h : HoldsDerived s) :
    Recorded s (awayJudged s) (awayRecords s (awayJudged s)) := by
  have recorded := setAway_recorded (s := withAway (idled s)) (holdsDerived_congr (idled_holdsDerived h) rfl rfl)
    (idled s).awaySet.isEmpty
  have same : awayRecords (withAway (idled s)) (awayJudged s) = awayRecords s (awayJudged s) :=
    awayRecords_congr (idled_other h nofun) (by rw [withAway, idled_eq h]) (by rw [withAway, idled_eq h]; rfl)
      (by rw [withAway, idled_eq h]; rfl)
  rw [← same]
  exact recorded_congr recorded (by rw [withAway, idled_eq h]; rfl)

/-- The silence timer restarted, ahead of DRIVE_SILENT's condition (R170). -/
def rewound (s : State) : State :=
  { s with permit := { s.permit with silenceTimer := some s.settings.silenceTime, driveSilent := false } }

theorem rewound_holdsDerived {s : State} (h : HoldsDerived s) : HoldsDerived (rewound s) := holdsDerived_congr h rfl rfl

theorem restartSilence_rewound (s : State) : s.restartSilence = (rewound s).setCondition .driveSilent .none := rfl

/-- DRIVE_SILENT's condition clears; its latch stays. -/
theorem restartSilence_eq {s : State} (h : HoldsDerived s) :
    s.restartSilence = { rewound s with holds := { s.holds with
      table := s.holds.table.set .driveSilent { s.holds.table.get .driveSilent with cond := .none } } } := by
  rw [restartSilence_rewound, setCondition_none (rewound_holdsDerived h) rfl]
  rfl

theorem restartSilence_holdsDerived {s : State} (h : HoldsDerived s) : HoldsDerived s.restartSilence := by
  rw [restartSilence_rewound]
  exact holdsDerived_setCondition (rewound_holdsDerived h) _ _

/-- Both platforms commanded to CLOSE. -/
def closed (a : State) : State := (a.command .a .close).command .b .close

theorem closed_holdsDerived {a : State} (h : HoldsDerived a) : HoldsDerived (closed a) := holdsDerived_congr h rfl rfl

theorem silenced_eq {s : State} (h : HoldsDerived s) (cause : RestartCause) :
    let a := awayJudged s
    silenced s cause = { a with
      output := (closed a).output
      permit := { a.permit with silenceTimer := some a.settings.silenceTime, driveSilent := false }
      holds := { a.holds with
        table := a.holds.table.set .driveSilent { a.holds.table.get .driveSilent with cond := .none } }
      events := (a.append (plainRecord a .restarted (restartValue cause))).events } := by
  have derived := closed_holdsDerived (awayJudged_holdsDerived h)
  show State.logPlain (closed (awayJudged s)).restartSilence _ _ = _
  generalize awayJudged s = a at derived ⊢
  rw [restartSilence_eq derived, State.logPlain, append_eq_of_events (s := a)]
  · rfl
  · rfl

theorem silenced_holdsDerived {s : State} (h : HoldsDerived s) (cause : RestartCause) :
    HoldsDerived (silenced s cause) := by
  have derived := restartSilence_holdsDerived (closed_holdsDerived (awayJudged_holdsDerived h))
  exact holdsDerived_congr derived (State.append_holds _ _) (State.append_reaction _ _).store

/-- What RESTART's event reaches, with the visits ended. -/
theorem struck_frame {s : State} (h : HoldsDerived s) (cause : RestartCause) :
    let d := struck s cause
    d = { silenced s cause with
      holds := d.holds, unload := { (silenced s cause).unload with complete := d.unload.complete }
      permit := { (silenced s cause).permit with park := d.permit.park }, events := d.events } := by
  refine followed_vacant (followed_deliverEvent (silenced s cause) _ _) fun pf => ?_
  rw [silenced_eq h]
  dsimp only
  rw [awayJudged_frame h]
  exact idled_vacant h pf

/-- A warm restart ahead of the figures: the blocks that it names, and what the hold sources set off (R188). -/
theorem struck_eq {s : State} (h : HoldsDerived s) (cause : RestartCause) :
    let d := struck s cause
    d = { s with
      phase := .running
      ports := s.ports.hunting
      sequencers := { a := Sequencer.atPowerOn, b := Sequencer.atPowerOn }
      queues := { a := Queue.empty, b := Queue.empty }
      cabins := s.cabins.map Cabin.warmRestart
      loop := { s.loop with away := (idled s).awaySet }
      output := (closed s).output
      permit := { s.permit with silenceTimer := some s.settings.silenceTime, driveSilent := false
                                park := d.permit.park }
      holds := d.holds, unload := { s.unload with complete := d.unload.complete }, events := d.events } := by
  dsimp only
  refine (struck_frame h cause).trans ?_
  generalize struck s cause = d
  rw [silenced_eq h]
  dsimp only
  rw [awayJudged_frame h]
  generalize (awayJudged s).holds = x, (awayJudged s).unload.complete = y, (awayJudged s).permit.park = z,
    (awayJudged s).events = w
  generalize away : (idled s).awaySet = set
  unfold withAway
  rw [away, idled_eq h]
  rfl

/-- RESTARTED comes after the records of the away set's judging, and ahead of those of RESTART's event (R58, R188). -/
theorem struck_recorded {s : State} (h : HoldsDerived s) (cause : RestartCause) :
    ∃ more : List EventRecord, Recorded s (struck s cause)
      (awayRecords s (awayJudged s) ++ plainRecord s .restarted (restartValue cause) :: more) := by
  obtain ⟨more, event⟩ := (State.deliverEvent_reaction (silenced s cause) .restart .stop).events
  have restarted : Recorded (awayJudged s) (silenced s cause) [plainRecord s .restarted (restartValue cause)] := by
    have clock : (awayJudged s).clock = s.clock := by
      rw [awayJudged_frame h, withAway, idled_eq h]
      rfl
    rw [silenced_eq h]
    unfold plainRecord
    rw [← clock]
    rfl
  have records := recorded_trans (recorded_trans (awayJudged_recorded h) restarted) event
  rw [List.append_assoc] at records
  exact ⟨more, records⟩

/-- The cabin's part of a warm restart leaves all but its gate and service (R39). -/
theorem warmRestart_kept (c : Cabin) :
    let d := c.warmRestart
    d.inVisit = none ∧ d.occupancy = c.occupancy ∧ d.occupancyUnknown = c.occupancyUnknown ∧ d.boardedAt = c.boardedAt ∧
    d.parties = c.parties ∧ d.door = c.door ∧ d.kind = c.kind ∧ d.capacity = c.capacity ∧ d.autoHold = c.autoHold ∧
    (c.inVisit = none → d = c) := by
  unfold Cabin.warmRestart
  rcases visit : c.inVisit with _ | pf
  · exact ⟨visit, rfl, rfl, rfl, rfl, rfl, rfl, rfl, rfl, fun _ => rfl⟩
  · rw [leaveVisit_eq, takePendingGate_eq]
    dsimp only [Option.isSome_some, if_true]
    refine ⟨rfl, ?_⟩
    rw [if_pos rfl]
    dsimp only
    split <;> exact ⟨rfl, rfl, rfl, rfl, rfl, rfl, rfl, rfl, nofun⟩

/-- The cabin's part of a warm restart for a cabin in visit: steps 3 to 6 of R29 (R39). -/
theorem warmRestart_visited {c : Cabin} (visit : c.inVisit ≠ none) :
    c.warmRestart = { c.takePendingGate with
      service := if askedService c = .withdrawPending ∧ c.knownEmpty then .withdrawn else askedService c
      pendingGate := none, pendingService := none, inVisit := none } := by
  have gate : c.takePendingGate.pendingGate = none := by
    rw [takePendingGate_eq]
    split
    · assumption
    all_goals rfl
  unfold Cabin.warmRestart
  rw [if_pos ((inVisit_isSome_iff c).mpr visit), leaveVisit_eq, ← gate]

/-! ## The hold sources after a warm restart -/

theorem awayJudged_other (s : State) {src : Source} (h : src ≠ .doorAway) :
    (awayJudged s).holds.table.get src = (idled s).holds.table.get src := by
  rw [awayJudged_eq]
  exact setCondition_other _ _ h

theorem silenced_other {s : State} (h : HoldsDerived s) (cause : RestartCause) {src : Source}
    (ne : src ≠ .driveSilent) :
    (silenced s cause).holds.table.get src = (awayJudged s).holds.table.get src := by
  rw [silenced_eq h]
  exact HoldTable.get_set_other _ _ ne

theorem struck_other (s : State) (cause : RestartCause) {src : Source} (h : src ≠ .restart) :
    (struck s cause).holds.table.get src = (silenced s cause).holds.table.get src := deliverEvent_other _ _ h

/-- A warm restart touches no source but RESTART, DOOR_LATE, DRIVE_SILENT and DOOR_AWAY. -/
theorem silenced_kept {s : State} (h : HoldsDerived s) (cause : RestartCause) {src : Source}
    (ne : src ∉ [.doorLate, .driveSilent, .doorAway]) :
    (silenced s cause).holds.table.get src = s.holds.table.get src := by
  simp only [List.mem_cons, List.not_mem_nil, or_false, not_or] at ne
  obtain ⟨late, silent, away⟩ := ne
  rw [silenced_other h cause silent, awayJudged_other s away, idled_other h late]

theorem struck_doorLate {s : State} (h : HoldsDerived s) (cause : RestartCause) :
    ((struck s cause).holds.table.get .doorLate).cond = .none := by
  rw [struck_other (src := .doorLate) s cause nofun, silenced_other (src := .doorLate) h cause nofun,
    awayJudged_other (src := .doorLate) s nofun, idled_eq h]
  rfl

theorem struck_driveSilent {s : State} (h : HoldsDerived s) (cause : RestartCause) :
    ((struck s cause).holds.table.get .driveSilent).cond = .none := by
  rw [struck_other (src := .driveSilent) s cause nofun, silenced_eq h]
  rfl

/-- RESTART's event holds STOP at least (R154). -/
theorem struck_stopped {s : State} (h : HoldsDerived s) (cause : RestartCause) :
    (struck s cause).holds.held = .stop ∨ (struck s cause).holds.held = .brake := by
  have stop : Grade.stop.value ≤ (struck s cause).holds.held.value :=
    deliverEvent_held (silenced_holdsDerived h cause) .restart .stop
  generalize (struck s cause).holds.held = g at stop ⊢
  cases g <;> simp [Grade.value] at stop ⊢

/-! ## The requests and the row -/

theorem exec_warmRestart {s : State} {cause : RestartCause}
    (h : s.phase = .running ∨ (s.phase = .restartDue ∧ cause = .request)) :
    exec (.warmRestart cause) s = .next (s.warmRestart cause) := by
  show execWarmRestart cause s = _
  unfold execWarmRestart
  rcases h with run | ⟨due, rfl⟩
  · rw [run]
    exact State.running_of run _
  · rw [due]

/-- At STOP and BRAKE the ceiling is formed as 0 (R159). -/
theorem ceilingNow_of_stopped {s : State} (h : s.holds.held = .stop ∨ s.holds.held = .brake) : s.ceilingNow = 0 :=
  (State.refresh_formed s).stopped h

/-- The frame of a warm restart, its figures formed: the ceiling is 0 (R154, R159). -/
theorem warmRestart_frame {s : State} (h : HoldsDerived s) (cause : RestartCause) :
    let t := s.warmRestart cause
    t = { s with
      phase := .running
      ports := s.ports.hunting
      sequencers := { a := Sequencer.atPowerOn, b := Sequencer.atPowerOn }
      queues := { a := Queue.empty, b := Queue.empty }
      cabins := t.cabins
      loop := { s.loop with away := t.loop.away }
      output := { s.output with image := t.output.image }
      permit := { s.permit with silenceTimer := some s.settings.silenceTime, driveSilent := false
                                park := t.permit.park, ceiling := 0 }
      holds := t.holds, unload := { s.unload with complete := t.unload.complete }, events := t.events
      brakeDemand := t.brakeDemand } := by
  rw [warmRestart_eq]
  have still : (struck s cause).ceilingNow = 0 := ceilingNow_of_stopped (struck_stopped h cause)
  have eq := struck_eq h cause
  generalize struck s cause = d at eq still ⊢
  unfold State.refresh
  dsimp only
  rw [still]
  generalize d.formLamps = image, d.brakeWanted = brake
  dsimp only at eq
  rw [eq]
  rfl

/-- Forming the lamps leaves what the actuators are commanded. -/
theorem refresh_actuator (s : State) (pf : Platform) :
    (s.refresh.output.image.get pf).actuator = (s.output.image.get pf).actuator ∧
    (s.refresh.output.image.get pf).reclosePending = (s.output.image.get pf).reclosePending := by
  cases pf <;> exact ⟨rfl, rfl⟩

theorem warmRestart_image {s : State} (h : HoldsDerived s) (cause : RestartCause) (pf : Platform) :
    ((s.warmRestart cause).output.image.get pf).actuator = .close ∧
    ((s.warmRestart cause).output.image.get pf).reclosePending = false := by
  have output : (struck s cause).output = (closed s).output := by rw [struck_eq h]
  obtain ⟨actuator, pending⟩ := refresh_actuator (struck s cause) pf
  rw [warmRestart_eq, actuator, pending, output]
  cases pf <;> exact ⟨rfl, rfl⟩

theorem warmRestart_cabins {s : State} (h : HoldsDerived s) (cause : RestartCause) :
    (s.warmRestart cause).cabins = s.cabins.map Cabin.warmRestart := by
  rw [warmRestart_eq, State.refresh_cabins, struck_eq h]

/-- The away set of a warm restart is that of the cabins as it leaves them (R58). -/
theorem warmRestart_away {s : State} (h : HoldsDerived s) (cause : RestartCause) :
    let t := s.warmRestart cause
    t.loop.away = [] ↔ ∀ (k : Nat) (c : Cabin), t.cabins[k]? = some c → ¬AwayCabin t k c := by
  have away : (s.warmRestart cause).loop.away = (idled s).awaySet := by
    rw [warmRestart_eq, State.refresh_loop, struck_eq h]
  have cabins : (s.warmRestart cause).cabins = (idled s).cabins := by
    rw [warmRestart_cabins h, idled_eq h]
    rfl
  have position : (s.warmRestart cause).position = (idled s).position := by
    rw [warmRestart_frame h, idled_eq h]
    rfl
  have store : (s.warmRestart cause).store = (idled s).store := by
    rw [warmRestart_frame h, idled_eq h]
    rfl
  dsimp only
  simp only [away, cabins, awaySet_eq_nil_iff, awayCabin_congr position store]

theorem warmRestart_holds (s : State) (cause : RestartCause) :
    (s.warmRestart cause).holds = (struck s cause).holds := by
  rw [warmRestart_eq, State.refresh_holds]

theorem warmRestart_events (s : State) (cause : RestartCause) :
    (s.warmRestart cause).events = (struck s cause).events := by
  rw [warmRestart_eq, State.refresh_events]

theorem warmRestart_recorded {s : State} (h : HoldsDerived s) (cause : RestartCause) :
    ∃ more : List EventRecord, Recorded s (s.warmRestart cause)
      (awayRecords s (s.warmRestart cause) ++ plainRecord s .restarted (restartValue cause) :: more) := by
  obtain ⟨more, recorded⟩ := struck_recorded h cause
  have door : (s.warmRestart cause).holds.table.get .doorAway = (awayJudged s).holds.table.get .doorAway := by
    rw [warmRestart_holds, struck_other (src := .doorAway) s cause nofun,
      silenced_other (src := .doorAway) h cause nofun]
  have same : awayRecords s (s.warmRestart cause) = awayRecords s (awayJudged s) := by
    unfold awayRecords
    rw [door]
  rw [same]
  exact ⟨more, (warmRestart_events s cause).trans recorded⟩

/-- RESTART's record after its event at STOP (R154). -/
theorem warmRestart_restart {s : State} (h : HoldsDerived s) (cause : RestartCause) :
    (s.warmRestart cause).holds.table.get .restart = { s.holds.table.get .restart with
      floor := (s.holds.table.get .restart).floor.max .stop
      latched := ((s.warmRestart cause).holds.table.get .restart).latched } := by
  rw [warmRestart_holds, ← silenced_kept (src := .restart) h cause (by decide)]
  exact deliverEvent_record (silenced s cause) .restart .stop

theorem warmRestart_kept_source {s : State} (h : HoldsDerived s) (cause : RestartCause) {src : Source}
    (ne : src ∉ [.restart, .doorLate, .driveSilent, .doorAway]) :
    (s.warmRestart cause).holds.table.get src = s.holds.table.get src := by
  simp only [List.mem_cons, List.not_mem_nil, or_false, not_or] at ne
  obtain ⟨restart, late, silent, away⟩ := ne
  rw [warmRestart_holds, struck_other s cause restart]
  exact silenced_kept h cause (by simp [late, silent, away])

/-- Settles O59: the frame is `warmRestart_frame`; the stages give the records, the away set and the sources. -/
theorem warmRestartKeepsWhatItNames : Obligations.WarmRestartKeepsWhatItNames := by
  unfold Obligations.WarmRestartKeepsWhatItNames
  refine ⟨fun s ready => ⟨_, State.request_ready ready _ rfl, read_of rfl⟩, fun s cause phase h => ?_⟩
  refine ⟨s.warmRestart cause, exec_warmRestart phase, State.refresh_formed _, warmRestart_frame h cause, ?image,
    ?cabins, ?records, ?away, ?restart, ?late, ?silent, ?kept⟩
  case image => exact warmRestart_image h cause
  case cabins =>
    intro k c hc
    obtain ⟨free, occupancy, unknown, boardedAt, parties, door, kind, capacity, autoHold, idle⟩ := warmRestart_kept c
    refine ⟨c.warmRestart, by rw [warmRestart_cabins h, List.getElem?_map, hc]; rfl, free, occupancy, unknown,
      boardedAt, parties, door, kind, capacity, autoHold, idle, ?_⟩
    intro gated empty asked visit
    rw [warmRestart_visited visit, takePendingGate_eq]
    dsimp only [gated]
    rcases c.pendingGate with _ | _ | _ | _ <;> rfl
  case records => exact warmRestart_recorded h cause
  case away => exact warmRestart_away h cause
  case restart => exact warmRestart_restart h cause
  case late => rw [warmRestart_holds, struck_doorLate h]
  case silent => rw [warmRestart_holds, struck_driveSilent h]
  case kept => exact fun src ne => warmRestart_kept_source h cause ne

end Sys2Proof.CabinTable
end

section
/-! What a step can do, said once for every invariant: a step is a chain of effects, each a named operation of the model
with the guards under which it is taken. -/

namespace Sys2Proof.StatusLoop

open Machine

/-! ## The owners of requests -/

/-- What the owner of a request may leave of the state, the reply aside (R175). -/
inductive Answered (s : State) : State → Prop
  | kept : Answered s s
  | gate (k : Nat) (g : GateSetting) : Answered s (s.modifyCabin k fun c => c.takeGate g)
  | service (k : Nat) (a : ServiceAction) : Answered s (s.modifyCabin k fun c => c.takeService a)
  | configured (k : Nat) {c : Cabin} (x : CabinKind) (capacity autoHold : Nat) (cabin : s.cabins[k]? = some c)
      (free : c.inVisit.isSome = false) (room : (!c.occupancyUnknown && x.clampCapacity capacity < c.occupancy) = false) :
      Answered s (s.modifyCabin k fun c => c.configure x capacity autoHold)
  | declared (k count : Nat) {c : Cabin} (records : List (Nat × Nat)) (cabin : s.cabins[k]? = some c)
      (fits : declareFits c count records = true) (fresh : s.declareDuplicates k records = false)
      (free : c.inVisit.isSome = false) :
      Answered s (s.writeCabin k fun c =>
        c.declare count (records.map fun x => { tag := x.1, count := x.2 }) s.rideCompleted)
  | alighted (pf : Platform) {v : Visit} {c : Cabin} (count : Nat) (visit : (s.sequencers.get pf).current = some v)
      (cabin : s.cabins[v.cabin]? = some c) (most : count ≤ v.alightLimit c) : Answered s (s.alight pf v count)
  | boarded (pf : Platform) {v : Visit} {c : Cabin} {e : Assigned} (tag count : Nat)
      (visit : (s.sequencers.get pf).current = some v) (cabin : s.cabins[v.cabin]? = some c)
      (party : (v.assigned.find? fun e => e.party.tag = tag) = some e) (most : count ≤ e.party.size)
      (room : c.occupancy - e.boarded + count ≤ c.capacity) :
      Answered s (s.board pf v tag count (c.occupancy - e.boarded + count))
  | dispatched (pf : Platform) {v : Visit} (visit : (s.sequencers.get pf).current = some v) (opened : v.state = .opened) :
      Answered s (s.beginClosing pf v).refresh
  | queued (pf : Platform) (e : Party) (free : (s.queues.get pf).freePlaces ≠ 0) (fresh : s.tagInUse e.tag = false) :
      Answered s (s.addParty pf e)
  | unqueued (pf : Platform) (tag : Nat) (here : s.queueOf tag = some pf) : Answered s (s.cancelQueued pf tag)
  | unassigned (pf : Platform) (tag : Nat) {e : Assigned} (here : s.assignedOf tag = some (pf, e)) (ashore : e.boarded = 0) :
      Answered s (s.cancelAssigned pf tag)
  | edited (x : Bank) : Answered s (s.editStandby x)
  | swapAsked : Answered s
      { s with plans := { s.plans.setStandby { s.plans.standby with ready := true } with swapPending := true } }
  | stopRequested (pf : Platform) (on : Bool) : Answered s (s.stopRequest pf on)
  | operatorHeld (g : Grade) : Answered s (s.operatorHold g)
  | released (src : Source) (due : releaseResult (s.holds.table.get src) s.position.v = .accepted) :
      Answered s (s.release src)
  | locked : Answered s { s with store := { s.store with lock := true } }
  | stored (i : Item) {value v : Nat} (judged : s.judgeWrite i value = .ok v) : Answered s (s.storeItem i v).refresh
  | saving (idle : s.store.saving.isSome = false) : Answered s s.beginSave
  | taken (count : Nat) : Answered s { s with events := { records := s.events.records.drop count, rollover := false } }
  | reported (d : DriveRecord) : Answered s (s.driveReport d)
  | advanced (n : Nat) {r : ParkRecord} (held : s.holds.held = .park) (park : s.permit.park = some r)
      (parked : r.state = .parked) : Answered s (s.advance r n)

/-- An owner that leaves of every state what `Answered` allows. -/
def Owns (own : State → Answer) : Prop := ∀ s : State, Answered s (own s).state

theorem owns_refuse (r : Result) : Owns fun s => s.refuse r := fun _ => .kept

theorem owns_read (f : State → List Byte) : Owns fun s => s.accept (f s) := fun _ => .kept

theorem owns_atPlatform {own : State → Platform → Answer} (h : ∀ pf, Owns fun s => own s pf) (p : Port) :
    Owns fun s => s.atPlatform p own := by
  intro s
  dsimp only
  unfold State.atPlatform
  split
  · exact h _ s
  · exact .kept

/-! ### The requests that only read -/

theorem owns_cabinRead (cabin : Nat) : Owns (ownCabinRead cabin) := by
  intro s
  unfold ownCabinRead
  split <;> exact .kept

theorem owns_berthQuery (platform : Nat) : Owns (ownBerthQuery platform) := by
  intro s
  unfold ownBerthQuery
  split <;> exact .kept

theorem owns_queueQuery (platform : Nat) : Owns (ownQueueQuery platform) := by
  intro s
  unfold ownQueueQuery
  split <;> exact .kept

theorem owns_planRead (bank first : Nat) : Owns (ownPlanRead bank first) := by
  intro s
  unfold ownPlanRead
  split <;> exact .kept

theorem owns_configRead (code : Nat) : Owns (ownConfigRead code) := by
  intro s
  unfold ownConfigRead
  split <;> exact .kept

theorem owns_holdRead (source : Nat) : Owns (ownHoldRead source) := by
  intro s
  unfold ownHoldRead
  split
  · exact .kept
  · split <;> exact .kept

/-! ### The requests to the Cabin Table -/

theorem owns_cabinHold (cabin setting : Nat) : Owns (ownCabinHold cabin setting) := by
  intro s
  unfold ownCabinHold
  split
  · exact .gate _ _
  · exact .kept

theorem owns_cabinService (cabin action : Nat) : Owns (ownCabinService cabin action) := by
  intro s
  unfold ownCabinService
  split
  · exact .service _ _
  · exact .kept

theorem owns_cabinWrite (cabin kind capacity autoHold : Nat) : Owns (ownCabinWrite cabin kind capacity autoHold) := by
  intro s
  unfold ownCabinWrite
  split
  next c k hc _ =>
    split
    · exact .kept
    split
    · exact .kept
    split
    · exact .kept
    · next free room => exact .configured cabin k capacity autoHold hc (eq_false_of_ne_true free) (eq_false_of_ne_true room)
  · exact .kept

theorem owns_occupancyDeclare (cabin count : Nat) (records : List (Nat × Nat)) :
    Owns (ownOccupancyDeclare cabin count records) := by
  intro s
  unfold ownOccupancyDeclare
  split
  · exact .kept
  next c hc =>
    split
    · exact .kept
    next fits =>
    split
    · exact .kept
    next fresh =>
    split
    · exact .kept
    · next free =>
      exact .declared cabin count records hc (by simpa using fits) (eq_false_of_ne_true fresh) (eq_false_of_ne_true free)

/-! ### The requests of a platform console -/

theorem owns_alightCount (visit count : Nat) (pf : Platform) : Owns fun s => ownAlightCount visit count s pf := by
  intro s
  dsimp only
  unfold ownAlightCount
  split
  · exact .kept
  next v hv =>
    split
    · exact .kept
    next c hc =>
      split
      · exact .kept
      split
      · exact .kept
      split
      · exact .kept
      · next most => exact .alighted pf count hv hc (Nat.not_lt.mp most)

theorem owns_boardCount (visit tag count : Nat) (pf : Platform) : Owns fun s => ownBoardCount visit tag count s pf := by
  intro s
  dsimp only
  unfold ownBoardCount
  split
  · exact .kept
  next v hv =>
    split
    · exact .kept
    next c hc =>
      split
      · exact .kept
      split
      · exact .kept
      split
      · exact .kept
      next e he =>
        split
        · exact .kept
        next most =>
        split
        · exact .kept
        · next room => exact .boarded pf tag count hv hc he (Nat.not_lt.mp most) (Nat.not_lt.mp room)

theorem owns_dispatch (visit : Nat) (pf : Platform) : Owns fun s => ownDispatch visit s pf := by
  intro s
  dsimp only
  unfold ownDispatch
  split
  · exact .kept
  next v hv =>
    split
    · exact .kept
    split
    · exact .kept
    · next opened => exact .dispatched pf hv (not_not.mp opened)

theorem owns_partyAdd (tag size accessible priv : Nat) (pf : Platform) :
    Owns fun s => ownPartyAdd tag size accessible priv s pf := by
  intro s
  dsimp only
  unfold ownPartyAdd
  dsimp only
  split
  · exact .kept
  split
  · exact .kept
  next fresh =>
  split
  · exact .kept
  split
  · exact .kept
  next free =>
  split
  · exact .kept
  · exact .queued pf _ free (eq_false_of_ne_true fresh)

theorem owns_partyCancel (p : Port) (tag : Nat) : Owns (ownPartyCancel p tag) := by
  intro s
  unfold ownPartyCancel
  split
  · exact .kept
  split
  next pf here =>
    split
    · exact .unqueued pf tag here
    · exact .kept
  next pf e _ here =>
    split
    · exact .kept
    next ashore =>
    split
    · exact .unassigned pf tag here (Nat.eq_zero_of_not_pos ashore)
    · exact .kept
  · split <;> exact .kept

theorem owns_platformStop (action : Nat) (pf : Platform) : Owns fun s => ownPlatformStop action s pf := by
  intro s
  dsimp only
  unfold ownPlatformStop
  split
  · exact .stopRequested pf _
  · exact .kept

/-! ### The requests of the control room and of the drive -/

theorem owns_entrySet (cabin platform directive tag : Nat) : Owns (ownEntrySet cabin platform directive tag) := by
  intro s
  unfold ownEntrySet
  split
  · dsimp only
    split
    · exact .kept
    split
    · exact .kept
    split
    · exact .kept
    · exact .edited _
  · exact .kept

theorem owns_entryRemove (cabin platform : Nat) : Owns (ownEntryRemove cabin platform) := by
  intro s
  unfold ownEntryRemove
  split
  · dsimp only
    split
    · exact .kept
    split
    · exact .kept
    split
    · exact .kept
    · exact .edited _
  · exact .kept

theorem owns_listClear : Owns ownListClear := by
  intro s
  unfold ownListClear
  split
  · exact .kept
  · exact .edited _

theorem owns_settings (mode revolutions speed stopOnMiss : Nat) :
    Owns (ownSettings mode revolutions speed stopOnMiss) := by
  intro s
  unfold ownSettings
  split
  · split
    · exact .kept
    · exact .edited _
  · exact .kept

theorem owns_planSwap : Owns ownPlanSwap := by
  intro s
  unfold ownPlanSwap
  split
  · exact .kept
  · exact .swapAsked

theorem owns_operatorHold (grade : Nat) : Owns (ownOperatorHold grade) := by
  intro s
  unfold ownOperatorHold
  split
  · exact .operatorHeld _
  · exact .kept

theorem owns_holdRelease (source : Nat) : Owns (ownHoldRelease source) := by
  intro s
  unfold ownHoldRelease
  split
  · dsimp only
    split
    · next due => exact .released _ due
    · exact .kept
  · exact .kept

theorem owns_configWrite (code value : Nat) : Owns (ownConfigWrite code value) := by
  intro s
  unfold ownConfigWrite
  split
  · exact .kept
  · split
    · exact .kept
    · next judged => exact .stored _ judged

theorem owns_configSave : Owns ownConfigSave := by
  intro s
  unfold ownConfigSave
  split
  · exact .kept
  · next idle => exact .saving (eq_false_of_ne_true idle)

theorem owns_eventTake (count : Nat) : Owns (ownEventTake count) := by
  intro s
  unfold ownEventTake
  split
  · exact .kept
  · exact .taken count

theorem owns_driveReport (speed position driveState brakeReleased : Nat) :
    Owns (ownDriveReport speed position driveState brakeReleased) := by
  intro s
  unfold ownDriveReport
  split
  · exact .kept
  · split
    · exact .kept
    · exact .reported _

theorem owns_parkAdvance (count : Nat) : Owns (ownParkAdvance count) := by
  intro s
  unfold ownParkAdvance
  split
  · exact .kept
  split
  · exact .kept
  next held =>
  split
  · exact .kept
  next r park =>
    split
    · exact .kept
    next parked =>
    split
    · exact .kept
    · exact .advanced count (not_not.mp held) park (not_not.mp parked)

/-! ### The owner of a frame by its bytes (R175) -/

theorem owns_planEdit {payload : List Byte} {own : State → Answer} (h : planEditOwner payload = some own) : Owns own := by
  unfold planEditOwner at h
  split at h
  · split at h
    · obtain rfl := Option.some.inj h
      exact owns_listClear
    · split at h
      · cases h
      · obtain rfl := Option.some.inj h
        exact owns_refuse _
  · split at h
    · obtain rfl := Option.some.inj h
      exact owns_entryRemove _ _
    · cases h
  · split at h
    · obtain rfl := Option.some.inj h
      exact owns_entrySet _ _ _ _
    · split at h
      · obtain rfl := Option.some.inj h
        exact owns_settings _ _ _ _
      · cases h
  · cases h

theorem owns_declare {payload : List Byte} {own : State → Answer} (h : declareOwner payload = some own) : Owns own := by
  unfold declareOwner at h
  split at h
  · split at h
    · split at h
      · obtain rfl := Option.some.inj h
        exact owns_occupancyDeclare _ _ _
      · cases h
    · cases h
  · cases h

theorem owns_empty {kind : Nat} {own : State → Answer} (h : emptyOwner kind = some own) : Owns own := by
  unfold emptyOwner at h
  split at h
  case h_6 => cases h
  all_goals obtain rfl := Option.some.inj h
  · exact owns_read _
  · exact owns_configSave
  · exact fun _ => .locked
  · exact owns_planSwap
  · exact owns_read _

theorem owns_oneByte {p : Port} {kind x : Nat} {own : State → Answer} (h : oneByteOwner p kind x = some own) :
    Owns own := by
  unfold oneByteOwner at h
  split at h
  case h_11 => cases h
  all_goals obtain rfl := Option.some.inj h
  · exact owns_cabinRead _
  · exact owns_berthQuery _
  · exact owns_queueQuery _
  · exact owns_atPlatform (owns_dispatch _) p
  · exact owns_atPlatform (owns_platformStop _) p
  · exact owns_operatorHold _
  · exact owns_holdRelease _
  · exact owns_holdRead _
  · exact owns_parkAdvance _
  · exact owns_eventTake _

theorem owns_twoByte {p : Port} {kind : Nat} {x y : Byte} {own : State → Answer}
    (h : twoByteOwner p kind x y = some own) : Owns own := by
  unfold twoByteOwner at h
  split at h
  case h_7 => cases h
  all_goals obtain rfl := Option.some.inj h
  · exact owns_partyCancel _ _
  · exact owns_atPlatform (owns_alightCount _ _) p
  · exact owns_cabinHold _ _
  · exact owns_configRead _
  · exact owns_cabinService _ _
  · exact owns_planRead _ _

theorem owns_long {p : Port} {kind : Nat} {payload : List Byte} {own : State → Answer}
    (h : longOwner p kind payload = some own) : Owns own := by
  unfold longOwner at h
  split at h
  case h_6 => cases h
  all_goals obtain rfl := Option.some.inj h
  · exact owns_driveReport _ _ _ _
  · exact owns_atPlatform (owns_partyAdd _ _ _ _) p
  · exact owns_atPlatform (owns_boardCount _ _ _) p
  · exact owns_configWrite _ _
  · exact owns_cabinWrite _ _ _ _

theorem owns_ownerOf {p : Port} {kind : Nat} {payload : List Byte} {own : State → Answer}
    (h : ownerOf p kind payload = some own) : Owns own := by
  unfold ownerOf at h
  split at h
  · exact owns_declare h
  split at h
  · exact owns_planEdit h
  split at h
  · exact owns_empty h
  · exact owns_oneByte h
  · exact owns_twoByte h
  · exact owns_long h

/-! ## The effects of a step -/

/-- One named change of the whole state, with the guard under which a step makes it. -/
inductive Effect (s : State) : State → Prop
  | answered {t : State} (h : Answered s t) : Effect s t
  | port (p : Port) (x : PortState) : Effect s (s.setPort p x)
  | queue (rest : List Instr) : Effect s (s.withPending rest)
  | restartDue (running : s.phase = .running) : Effect s { s with phase := .restartDue }
  | millisecond (running : s.phase = .running) : Effect s s.millisecond
  | forwardTick : Effect s s.forwardTick.refresh
  | reverseTick : Effect s s.reverseTick.refresh
  | indexEdge : Effect s s.takenEdge.refresh
  | windowEnd : Effect s s.windowEnd.refresh
  | pulse (k : Sensor) : Effect s (s.pulse k)
  | scanStart : Effect s s.startScan
  | scanEnd (pattern : Byte) (contacts : List Bool) : Effect s (s.endScan pattern contacts).refresh
  | actuatorExpiry (pf : Platform) : Effect s (s.expireActuator pf).refresh
  | blinkToggle : Effect s (s.mapOutput Output.toggle)
  | sequenceStart : Effect s (s.mapOutput Output.startIfDue)
  | sequenceEnd : Effect s (s.mapOutput Output.endSequence)
  | refreshExpiry : Effect s (s.mapOutput Output.refreshDue)
  | lineTaken (pf : Platform) (lineOpen : Bool) : Effect s (s.takeLine pf lineOpen)
  | driveSilence : Effect s s.driveSilence
  | saveDone (passed : Bool) : Effect s (s.endSave passed)
  | warmRestart (cause : RestartCause) : Effect s (s.warmRestart cause)
  | shut (phase : Phase) (still : phase = .off ∨ phase = .heldInReset) : Effect s (s.shut phase)
  | powerOn (lineAOpen lineBOpen : Bool) (rate : Rate) : Effect s (s.powerOn lineAOpen lineBOpen rate)

/-- A chain of effects. -/
abbrev Effects : State → State → Prop := Relation.ReflTransGen Effect

/-- After a warm restart the part runs (R188). -/
theorem warmRestart_phase (s : State) (cause : RestartCause) : (s.warmRestart cause).phase = .running := by
  have silence (u : State) : u.restartSilence.phase = u.phase := by
    unfold State.restartSilence
    rw [(State.setCondition_reaction _ _ _).phase]
  unfold State.warmRestart
  dsimp only
  rw [State.refresh_phase, (State.deliverEvent_reaction _ _ _).phase, (State.logPlain_reaction _ _ _).phase, silence,
    State.command_phase, State.command_phase]
  unfold State.judgeAway
  dsimp only
  rw [(State.setCondition_reaction _ _ _).phase]
  exact (State.formDoorLate_reaction _).phase

/-- A command that only a running part takes: its effects, after the warm restart where one is due (R188). -/
theorem effects_whenRunning {act : State → State} (h : ∀ s : State, s.phase = .running → Effects s (act s)) (s : State) :
    Effects s (s.whenRunning act) := by
  unfold State.whenRunning
  split
  · next running => exact h s running
  · exact .head (.warmRestart .request) (h _ (warmRestart_phase s _))
  · exact .refl
  · exact .refl

/-! ### The link -/

/-- A request taken: what its owner leaves, then the reply on its port. -/
theorem effects_take {own : State → Answer} (h : Owns own) (s : State) (p : Port) (kind : Nat) :
    Effects s (s.take p kind own) := by
  have replied (a : Answer) (ha : Answered s a.state) : Effects s (State.reply p kind a) :=
    .tail (.single (.answered ha)) (.port p _)
  unfold State.take
  split
  · exact .refl
  · refine replied _ ?_
    split
    · exact h s
    · exact .kept

theorem effects_route (s : State) (p : Port) (kind : Byte) (payload : List Byte) : Effects s (s.route p kind payload) := by
  refine effects_take (fun u => ?_) s p kind.toNat
  split
  · next own => exact owns_ownerOf own u
  · exact .kept

theorem effects_endFrame (s : State) (p : Port) (kind length : Byte) (got : List Byte) :
    Effects s (s.endFrame p kind length got) := by
  unfold State.endFrame
  dsimp only
  split
  · exact .head (.port p .hunt) (effects_route _ _ _ _)
  · exact .single (.port p .hunt)

theorem effects_receive (s : State) (p : Port) (byte : Byte) : Effects s (s.receive p byte) := by
  unfold State.receive
  split
  · split
    · exact .single (.port _ _)
    · exact .refl
  · exact .single (.port _ _)
  · split <;> exact .single (.port _ _)
  · dsimp only
    split
    · exact effects_endFrame _ _ _ _ _
    · exact .single (.port _ _)
  · exact .refl

theorem effects_receiveAll (s : State) (p : Port) (bytes : List Byte) : Effects s (s.receiveAll p bytes) := by
  unfold State.receiveAll
  induction bytes generalizing s with
  | nil => exact .refl
  | cons byte rest ih => exact (effects_receive s p byte).trans (ih _)

theorem effects_discardFrame (s : State) (p : Port) : Effects s (s.discardFrame p) := by
  unfold State.discardFrame
  split
  · exact .refl
  · exact .single (.port _ _)
  · exact .single (.port _ _)
  · exact .refl

theorem effects_endReply {s : State} (running : s.phase = .running) (p : Port) : Effects s (s.endReply p) := by
  unfold State.endReply
  split
  · dsimp only
    split
    · exact .tail (.single (.port p .hunt)) (.restartDue running)
    · exact .single (.port p .hunt)
  · exact .refl

/-! ### The commands -/

theorem effects_running {act : State → State} {s t : State} (e : s.running act = .next t)
    (h : ∀ s : State, s.phase = .running → Effects s (act s)) : Effects s t := by
  obtain rfl := Host.Outcome.next.inj e
  exact effects_whenRunning h s

theorem effects_request {own : State → Answer} {s t : State} {p : Port} {kind : Nat}
    (e : s.request p kind own = .next t) (h : Owns own) : Effects s t :=
  effects_running e fun s _ => effects_take h s p kind

/-- A row whose effect is always made. -/
theorem effects_row {act : State → State} {s t : State} (e : s.running act = .next t) (h : ∀ s, Effect s (act s)) :
    Effects s t := effects_running e fun s _ => .single (h s)

/-- A row whose effect is made where a condition holds. -/
theorem effects_guarded {act : State → State} {s t : State} {due : State → Prop} [DecidablePred due]
    (e : (s.running fun s => if due s then act s else s) = .next t) (h : ∀ s, Effect s (act s)) : Effects s t := by
  refine effects_running e fun s _ => ?_
  split
  · exact .single (h s)
  · exact .refl

theorem effects_frame {s t : State} {p : Port} {bytes : List Byte}
    (e : (s.running fun s => (s.receiveAll p bytes).discardFrame p) = .next t) : Effects s t :=
  effects_running e fun s _ => (effects_receiveAll s p bytes).trans (effects_discardFrame _ p)

theorem effects_warmRestart {s t : State} {cause : RestartCause} (e : execWarmRestart cause s = .next t) :
    Effects s t := by
  have row (e : (s.running fun s => s.warmRestart cause) = .next t) : Effects s t :=
    effects_row e fun _ => .warmRestart cause
  unfold execWarmRestart at e
  split at e
  · have e := Host.Outcome.next.inj e
    exact e ▸ .single (.warmRestart .request)
  · exact row e

/-- A row that a part without supply does not take. -/
theorem effects_supplied {u s t : State} (e : (Host.Outcome.next (if s.phase = .off then s else u) : Outcome) = .next t)
    (h : Effect s u) : Effects s t := by
  obtain rfl := Host.Outcome.next.inj e
  split
  · exact .refl
  · exact .single h

theorem effects_shut {s t : State} {phase : Phase} (e : (Host.Outcome.next (s.shut phase) : Outcome) = .next t)
    (still : phase = .off ∨ phase = .heldInReset) : Effects s t := by
  obtain rfl := Host.Outcome.next.inj e
  exact .single (.shut phase still)

/-- Every command is a chain of effects. -/
theorem effects_exec {i : Instr} {s t : State} (e : exec i s = .next t) : Effects s t := by
  cases i with
  | statusQuery => exact effects_request e (owns_read _)
  | cabinRead => exact effects_request e (owns_cabinRead _)
  | driveReport => exact effects_request e (owns_driveReport _ _ _ _)
  | berthQuery => exact effects_request e (owns_berthQuery _)
  | queueQuery => exact effects_request e (owns_queueQuery _)
  | partyAdd => exact effects_request e (owns_atPlatform (owns_partyAdd _ _ _ _) _)
  | partyCancel => exact effects_request e (owns_partyCancel _ _)
  | alightCount => exact effects_request e (owns_atPlatform (owns_alightCount _ _) _)
  | boardCount => exact effects_request e (owns_atPlatform (owns_boardCount _ _ _) _)
  | dispatch => exact effects_request e (owns_atPlatform (owns_dispatch _) _)
  | cabinHold => exact effects_request e (owns_cabinHold _ _)
  | platformStop => exact effects_request e (owns_atPlatform (owns_platformStop _) _)
  | configWrite => exact effects_request e (owns_configWrite _ _)
  | configRead => exact effects_request e (owns_configRead _)
  | configSave => exact effects_request e owns_configSave
  | configLock => exact effects_request e fun _ => .locked
  | cabinWrite => exact effects_request e (owns_cabinWrite _ _ _ _)
  | cabinService => exact effects_request e (owns_cabinService _ _)
  | occupancyDeclare => exact effects_request e (owns_occupancyDeclare _ _ _)
  | entrySet => exact effects_request e (owns_entrySet _ _ _ _)
  | entryRemove => exact effects_request e (owns_entryRemove _ _)
  | listClear => exact effects_request e owns_listClear
  | settings => exact effects_request e (owns_settings _ _ _ _)
  | planSwap => exact effects_request e owns_planSwap
  | planRead => exact effects_request e (owns_planRead _ _)
  | operatorHold => exact effects_request e (owns_operatorHold _)
  | holdRelease => exact effects_request e (owns_holdRelease _)
  | holdRead => exact effects_request e (owns_holdRead _)
  | parkAdvance => exact effects_request e (owns_parkAdvance _)
  | eventTake => exact effects_request e (owns_eventTake _)
  | restart => exact effects_request e (owns_read _)
  | unknownKindRequest port kind payload => exact effects_running e fun s _ => effects_route s port kind payload
  | crcWrongDiscard port bytes => exact effects_running e fun s _ => effects_receiveAll s port bytes
  | frameGapTimeout => exact effects_frame e
  | framingError => exact effects_frame e
  | replyEnd port => exact effects_running e fun s running => effects_endReply running port
  | forwardTick => exact effects_row e fun _ => .forwardTick
  | reverseTick => exact effects_row e fun _ => .reverseTick
  | indexEdge => exact effects_guarded e fun _ => .indexEdge
  | windowEnd => exact effects_row e fun _ => .windowEnd
  | anemometerPulse sensor => exact effects_row e fun _ => .pulse sensor
  | scanStart => exact effects_row e fun _ => .scanStart
  | scanEnd pattern contacts => exact effects_guarded e fun _ => .scanEnd pattern contacts
  | actuatorTimerExpiry platform => exact effects_guarded e fun _ => .actuatorExpiry platform
  | blinkToggle => exact effects_row e fun _ => .blinkToggle
  | sequenceStart => exact effects_row e fun _ => .sequenceStart
  | sequenceEnd => exact effects_row e fun _ => .sequenceEnd
  | refreshExpiry => exact effects_row e fun _ => .refreshExpiry
  | stopLineTaken platform lineOpen => exact effects_row e fun _ => .lineTaken platform lineOpen
  | driveSilenceExpiry => exact effects_row e fun _ => .driveSilence
  | saveDone passed => exact effects_row e fun _ => .saveDone passed
  | warmRestart => exact effects_warmRestart e
  | supplyOn => exact effects_shut e (.inr rfl)
  | restartLineHeld => exact effects_supplied e (.shut _ (.inr rfl))
  | powerOnComplete lineAOpen lineBOpen => exact effects_supplied e (.powerOn lineAOpen lineBOpen _)
  | supplyLoss => exact effects_shut e (.inl rfl)

/-- Every step is a chain of effects. -/
theorem effects_step {s t : State} (e : step s = .next t) : Effects s t := by
  unfold step at e
  split at e
  · exact .head (.queue _) (effects_exec e)
  · obtain rfl := Host.Outcome.next.inj e
    exact effects_whenRunning (fun s running => .single (.millisecond running)) s

/-- What every effect keeps, every step keeps. -/
theorem step_keeps {P : State → Prop} (h : ∀ s t : State, Effect s t → P s → P t) {s t : State} (e : step s = .next t)
    (hs : P s) : P t := by
  have chain := effects_step e
  clear e
  induction chain with
  | refl => exact hs
  | tail _ effect ih => exact h _ _ effect ih

end Sys2Proof.StatusLoop
end

section
/-! The lamps, the ceiling and the brake demand: R53, R148, R160. -/

namespace Sys2Proof.StatusLoop

open Machine CabinTable

/-! ## What the figures do not read -/

/-- A state that shows and forms the figures that a formed state shows and forms. -/
theorem formed_of_kept {s t : State} (h : Formed s) (image : t.output.image = s.output.image)
    (lamps : t.formLamps = s.formLamps) (ceiling : t.permit.ceiling = s.permit.ceiling)
    (now : t.ceilingNow = s.ceilingNow) (brake : t.brakeDemand = s.brakeDemand)
    (wanted : t.brakeWanted = s.brakeWanted) : Formed t := by
  have shown : s.formLamps = s.output.image := congrArg (fun t : State => t.output.image) h
  refine formed_of_figures ?_ ?_ ?_
  · rw [image, lamps, shown]
  · rw [ceiling, now, h.ceiling]
  · rw [brake, wanted, h.brakeDemand]

/-- A record appended leaves the figures formed. -/
theorem formed_append {s : State} (h : Formed s) (r : EventRecord) : Formed (s.append r) := by
  obtain ⟨e, eq⟩ := s.append_eq r
  rw [eq]
  exact formed_of_kept h rfl rfl rfl rfl rfl rfl

/-- An occupancy write, with the count that follows it, leaves the figures formed. -/
theorem formed_writeCabin {s : State} (h : Formed s) (k : Nat) (f : Cabin → Cabin) : Formed (s.writeCabin k f) := by
  unfold State.writeCabin State.recount
  rw [(judgeUnload_eq _).1]
  exact formed_of_kept h rfl rfl rfl rfl rfl rfl

/-- Of the plans the figures read the active bank alone (R159). -/
theorem formed_plans {s : State} (h : Formed s) {x : Plans} (active : x.active = s.plans.active) :
    Formed { s with plans := x } := by
  refine formed_of_kept h rfl rfl rfl ?_ rfl rfl
  simp only [State.ceilingNow, active]
  rfl

/-- The lamps are no part of what the output chain changes (R56). -/
theorem formed_output {s : State} (h : Formed s) {x : Output}
    (lamps : ∀ pf, (x.image.get pf).lamps = (s.output.image.get pf).lamps) : Formed { s with output := x } := by
  refine formed_of_figures ?_ h.ceiling h.brakeDemand
  have a : x.image.a.lamps = lampsFor s.holds.held s.sequencers.a.current := (lamps .a).trans (h.lamps .a)
  have b : x.image.b.lamps = lampsFor s.holds.held s.sequencers.b.current := (lamps .b).trans (h.lamps .b)
  simp only [State.formLamps, ← a, ← b]

theorem startSequence_lamps (x : Output) (pf : Platform) :
    (x.startSequence.image.get pf).lamps = (x.image.get pf).lamps := by
  have start (u : ImageUnit) : u.afterStart.lamps = u.lamps := by
    unfold ImageUnit.afterStart
    split <;> rfl
  cases pf <;> exact start _

theorem startIfDue_lamps (x : Output) (pf : Platform) :
    (x.startIfDue.image.get pf).lamps = (x.image.get pf).lamps := by
  unfold Output.startIfDue
  split
  · exact startSequence_lamps x pf
  · rfl

theorem endSequence_lamps (x : Output) (pf : Platform) :
    (x.endSequence.image.get pf).lamps = (x.image.get pf).lamps := by
  unfold Output.endSequence
  split
  · exact startIfDue_lamps _ pf
  · rfl

theorem refreshDue_lamps (x : Output) (pf : Platform) :
    (x.refreshDue.image.get pf).lamps = (x.image.get pf).lamps := by
  unfold Output.refreshDue
  split
  · rfl
  · exact startSequence_lamps x pf

/-! ## Every effect keeps the figures formed -/

theorem formed_cancelAssigned {s : State} (h : Formed s) (pf : Platform) (tag : Nat) :
    Formed (s.cancelAssigned pf tag) := by
  unfold State.cancelAssigned
  rcases hv : (s.sequencers.get pf).current with _ | v
  · exact formed_of_kept h rfl rfl rfl rfl rfl rfl
  · exact formed_of_sameFace (w := { v with assigned := v.assigned.eraseP _ }) h hv ⟨rfl, rfl, rfl⟩ rfl rfl rfl rfl rfl
      rfl rfl rfl rfl

theorem formed_answered {s t : State} (a : Answered s t) (h : Formed s) : Formed t := by
  cases a with
  | kept => exact h
  | gate | service | configured | queued | unqueued | locked | saving | taken =>
    exact formed_of_kept h rfl rfl rfl rfl rfl rfl
  | declared => exact formed_writeCabin h _ _
  | unassigned => exact formed_cancelAssigned h _ _
  | edited => exact formed_plans h (Plans.active_setStandby _ _)
  | swapAsked => exact formed_plans h (Plans.active_setStandby _ _)
  | alighted | boarded | dispatched | stopRequested | operatorHeld | released | stored | reported | advanced =>
    exact State.refresh_formed _

theorem formed_driveSilence {s : State} (h : Formed s) : Formed s.driveSilence := by
  unfold State.driveSilence
  split
  · exact State.refresh_formed _
  · exact h

theorem formed_endSave {s : State} (h : Formed s) (passed : Bool) : Formed (s.endSave passed) := by
  unfold State.endSave
  split
  · exact h
  · refine formed_append ?_ _
    exact formed_of_kept h rfl rfl rfl rfl rfl rfl

/-- Without supply and held in reset the brake is demanded (R148). -/
theorem formed_shut {s : State} (h : Formed s) {phase : Phase} (still : phase = .off ∨ phase = .heldInReset) :
    Formed (s.shut phase) := by
  refine formed_of_figures (congrArg (fun t : State => t.output.image) h).symm h.ceiling ?_
  rcases still with rfl | rfl <;> rfl

/-- The warm restart that becomes due leaves the brake demand to the held grade (R148). -/
theorem formed_restartDue {s : State} (h : Formed s) (running : s.phase = .running) :
    Formed { s with phase := .restartDue } := by
  refine formed_of_kept h rfl rfl rfl rfl rfl ?_
  simp only [State.brakeWanted, running]

theorem formed_effect (s t : State) (e : Effect s t) (h : Formed s) : Formed t := by
  cases e with
  | answered a => exact formed_answered a h
  | port p x => exact h.setPort p x
  | queue rest => exact h.withPending rest
  | restartDue running => exact formed_restartDue h running
  | millisecond | pulse | scanStart => exact formed_of_kept h rfl rfl rfl rfl rfl rfl
  | forwardTick | reverseTick | indexEdge | windowEnd | scanEnd | actuatorExpiry | lineTaken | warmRestart =>
    exact State.refresh_formed _
  | blinkToggle => exact formed_output h fun _ => rfl
  | sequenceStart => exact formed_output h (startIfDue_lamps _)
  | sequenceEnd => exact formed_output h (endSequence_lamps _)
  | refreshExpiry => exact formed_output h (refreshDue_lamps _)
  | driveSilence => exact formed_driveSilence h
  | saveDone passed => exact formed_endSave h passed
  | shut _ still => exact formed_shut h still
  | powerOn => rw [powerOn_eq]; exact State.refresh_formed _

/-- R148: with the figures formed a running part demands the brake exactly at BRAKE. -/
theorem brakeDemand_of_formed {t : State} (h : Formed t) (phase : t.phase = .running ∨ t.phase = .restartDue) :
    t.brakeDemand = decide (t.holds.held = .brake) := by
  rw [h.brakeDemand]
  rcases phase with phase | phase <;> simp only [State.brakeWanted, phase]

/-- Settles O8: every effect keeps the figures formed. -/
theorem figuresStayFormed : Obligations.FiguresStayFormed := by
  unfold Obligations.FiguresStayFormed
  intro s t h e
  have formed : Formed t := step_keeps formed_effect e h
  exact ⟨formed, brakeDemand_of_formed formed⟩

/-! ## The lamps (Table 3-8) -/

theorem atLeast_stop_iff (g : Grade) : g.atLeast .stop = true ↔ g ∈ [.stop, .brake] := by cases g <;> decide

theorem lampsFor_late {v : Visit} (late : v.late = true) (held : Grade) :
    lampsFor held (some v) = { green := .off, amber := .blinkB, red := .blinkA } := by
  simp only [lampsFor, late, if_true]

/-- The second row: a held grade of STOP or BRAKE, with no late visit. -/
theorem lampsFor_stopped {held : Grade} (stopped : held.atLeast .stop = true) {visit : Option Visit}
    (late : ∀ v, visit = some v → v.late = false) :
    lampsFor held visit = { green := .off, amber := .off, red := .on } := by
  rcases visit with _ | v
  · simp only [lampsFor, stopped, if_true]
  · simp only [lampsFor, late v rfl, stopped, Bool.false_eq_true, if_false, if_true]

/-- The rows below: the lamps of a visit by its state. -/
theorem lampsFor_visit {held : Grade} (free : held.atLeast .stop = false) {v : Visit} (late : v.late = false) :
    lampsFor held (some v) = match v.state, v.boardingOffered with
      | .opening, true | .opened, true => { green := .on, amber := .off, red := .off }
      | .opening, false | .opened, false => { green := .off, amber := .blinkA, red := .off }
      | .closing, _ => { green := .blinkA, amber := .off, red := .off }
      | .passing, _ => { green := .off, amber := .on, red := .off }
      | .secured, _ => { green := .off, amber := .off, red := .off } := by
  simp only [lampsFor, late, free, Bool.false_eq_true, if_false]
  cases v.state <;> cases v.boardingOffered <;> rfl

theorem lampsFor_vacant {held : Grade} (free : held.atLeast .stop = false) :
    lampsFor held none = { green := .off, amber := .off, red := .off } := by
  simp only [lampsFor, free, Bool.false_eq_true, if_false, Lamps.dark]

/-- Settles O17: in a formed state the lamps are those of `lampsFor`, whose rows are the lemmas above. -/
theorem lampsFollowTheirTable : Obligations.LampsFollowTheirTable := by
  unfold Obligations.LampsFollowTheirTable
  intro s pf h lamps visit shown late stopped inState
  have eq : lamps = lampsFor s.holds.held visit := h.lamps pf
  refine ⟨?late, ?stopped, fun notLate notStopped => ?free⟩
  case late =>
    rintro ⟨v, hv, late⟩
    exact eq.trans (hv ▸ lampsFor_late late _)
  case stopped =>
    intro notLate stopped
    refine eq.trans (lampsFor_stopped ((atLeast_stop_iff _).mpr stopped) fun v hv => ?_)
    exact eq_false_of_ne_true fun late => notLate ⟨v, hv, late⟩
  case free =>
    have free : s.holds.held.atLeast .stop = false := eq_false_of_ne_true fun h => notStopped ((atLeast_stop_iff _).mp h)
    have row (v : Visit) (hv : visit = some v) :=
      (eq.trans (congrArg _ hv)).trans
        (lampsFor_visit free (eq_false_of_ne_true fun late => notLate ⟨v, hv, late⟩))
    refine ⟨?_, ?_, ?_, ?_, ?_⟩
    · rintro (⟨v, hv, state, offered⟩ | ⟨v, hv, state, offered⟩)
      all_goals exact (row v hv).trans (by rw [state, offered])
    · rintro (⟨v, hv, state, offered⟩ | ⟨v, hv, state, offered⟩)
      all_goals exact (row v hv).trans (by rw [state, offered])
    · rintro ⟨v, hv, state⟩
      exact (row v hv).trans (by rw [state])
    · rintro ⟨v, hv, state⟩
      exact (row v hv).trans (by rw [state])
    · rintro (hv | ⟨v, hv, state⟩)
      · exact eq.trans (hv ▸ lampsFor_vacant free)
      · exact (row v hv).trans (by rw [state])

end Sys2Proof.StatusLoop
end

section
/-! The output chain (R52, R54 to R56), the pulses, scan starts and blink toggles (R119, R40, R52), the expiry of an
actuator timer (R65, R73), and the state right after reset. -/

namespace Sys2Proof.StatusLoop

open Machine CabinTable

/-! ## The output chain -/

/-- R52: a lamp is lit in ON, and in the blink code of the phase. -/
theorem lit_eq (l : LampCode) (phase : BlinkPhase) :
    l.lit phase = (l = .on || (l = .blinkA && phase = .a) || (l = .blinkB && phase = .b)) := by
  cases l <;> cases phase <;> rfl

/-- A row that maps the output chain of a running part. -/
theorem exec_mapOutput {s : State} (running : s.phase = .running) {f : Output → Output} {y : Output}
    (h : f s.output = y) : s.running (fun s => s.mapOutput f) = .next { s with output := y } := by
  rw [State.running_of running, State.mapOutput, h]

/-- Settles O57: each row maps the output chain, the wind or the loop alone, by the equations of its operation. -/
theorem outputChainAndCounters : Obligations.OutputChainAndCounters := by
  unfold Obligations.OutputChainAndCounters
  refine ⟨fun s running => ?chain, fun s running => ⟨fun k => ?pulse, ?scan, ?blink⟩⟩
  case chain =>
    intro x lit content now reclosed started ended becomes
    have shown (u : ImageUnit) : u.content x.blink = content u := by
      simp only [ImageUnit.content, lit_eq]
      rfl
    have contentNow (y : Output) (image : y.image = x.image) (blink : y.blink = x.blink) : y.content = now := by
      unfold Output.content
      rw [image, blink, shown, shown]
    have start (y : Output) (image : y.image = x.image) (blink : y.blink = x.blink) :
        y.startSequence = started y := by
      unfold Output.startSequence
      rw [contentNow y image blink, image]
      rfl
    refine ⟨exec_mapOutput running ?_, exec_mapOutput running ?_, exec_mapOutput running ?_⟩
    · unfold Output.startIfDue
      rw [contentNow _ rfl rfl, start _ rfl rfl]
      simp only [Bool.not_eq_true']
      rfl
    · unfold Output.refreshDue
      rw [start _ rfl rfl]
      show _ = if s.output.inProgress = false then _ else _
      cases s.output.inProgress <;> rfl
    · have begun : Output.startIfDue ended = if now ≠ x.sent then started ended else ended := by
        unfold Output.startIfDue
        rw [contentNow ended rfl rfl, start ended rfl rfl]
        simp only [ended, Bool.not_false, and_true]
      unfold Output.endSequence
      rw [← begun]
      show _ = if s.output.inProgress = false then _ else _
      cases s.output.inProgress <;> rfl
  case pulse => exact State.running_of running _
  case scan =>
    refine ⟨s.startScan, State.running_of running _, rfl, fun idle => ?_, fun busy => ?_⟩
    · show some (s.loop.scan.getD _) = _
      rw [idle]
      rfl
    · obtain ⟨x, hx⟩ := Option.ne_none_iff_exists'.mp busy
      show some (s.loop.scan.getD _) = _
      rw [hx]
      rfl
  case blink => exact State.running_of running _

/-! ## The expiry of an actuator timer -/

/-- A platform's current visit and its actuator timer written. -/
def visited (s : State) (pf : Platform) (v : Visit) (timer : Option Nat) : State :=
  { s with sequencers := s.sequencers.set pf { s.sequencers.get pf with current := some v, actuatorTimer := timer } }

theorem setVisit_setTimer (s : State) (pf : Platform) (v : Visit) (timer : Option Nat) :
    (s.setVisit pf v).setTimer pf timer = visited s pf v timer := by
  simp only [State.setVisit, State.setTimer, State.setSequencer, visited, PerPlatform.get_set_same, set_set_same]

theorem setVisit_startTimer (s : State) (pf : Platform) (v : Visit) :
    (s.setVisit pf v).startTimer pf = visited s pf v (some s.settings.actuatorTime) := setVisit_setTimer s pf v _

theorem visited_visited (s : State) (pf : Platform) (v w : Visit) (x y : Option Nat) :
    visited (visited s pf v x) pf w y = visited s pf w y := by
  simp only [visited, PerPlatform.get_set_same, set_set_same]

theorem command_command (s : State) (pf : Platform) (c d : ActuatorCode) :
    (s.command pf c).command pf d = s.command pf d := by
  simp only [State.command, PerPlatform.get_set_same, set_set_same]

/-- A visit of the same face, with the timer as it may be, leaves the figures formed. -/
theorem formed_visited {s : State} (h : Formed s) {pf : Platform} {v w : Visit}
    (hv : (s.sequencers.get pf).current = some v) (face : SameFace v w) (timer : Option Nat) :
    Formed (visited s pf w timer) := by
  refine formed_of_same h rfl rfl rfl rfl rfl rfl rfl rfl (fun x => ?_) (fun x => ?_)
  all_goals
    unfold visited
    dsimp only
    by_cases e : x = pf
    · subst e
      rw [PerPlatform.get_set_same]
      simp only [Sequencer.working, hv, face.lamps, face.working]
    · rw [PerPlatform.get_set_other _ _ e]

/-- A timer of a platform that is VACANT, stopped. -/
theorem formed_setTimer {s : State} (h : Formed s) (pf : Platform) (timer : Option Nat) : Formed (s.setTimer pf timer) := by
  refine formed_of_same h rfl rfl rfl rfl rfl rfl rfl rfl (fun x => ?_) (fun x => ?_)
  all_goals
    rw [State.setTimer_sequencers]
    by_cases e : x = pf
    · subst e
      simp only [PerPlatform.get_set_same, Sequencer.working]
    · rw [PerPlatform.get_set_other _ _ e]

/-- The test of the door in CLOSING, by its cases (R70, R77, R80). -/
theorem testLatched_eq {s : State} {pf : Platform} {v : Visit} (closing : v.state = .closing) :
    s.testLatched pf v =
      if s.doorOf v.cabin = .latched then
        if v.late || v.positionLost then s.endVisit pf v
        else visited (s.command pf .close) pf { v with state := .secured } none
      else s := by
  unfold State.testLatched
  rw [setVisit_setTimer]
  simp only [closing, true_and]

/-- A visit enters CLOSING: CLOSE commanded and the timer started, then the test of its door (R65, R69, R70). -/
theorem beginClosing_eq (s : State) (pf : Platform) (v : Visit) :
    let w : Visit := { v with state := .closing, retries := 0 }
    let u := visited (s.command pf .close) pf w (some s.settings.actuatorTime)
    s.beginClosing pf v =
      if s.doorOf v.cabin = .latched then
        if v.late || v.positionLost then u.endVisit pf w
        else visited (s.command pf .close) pf { w with state := .secured } none
      else u := by
  intro w u
  have entered : s.beginClosing pf v = u.testLatched pf w := by
    show State.testLatched (((s.command pf .close).setVisit pf w).startTimer pf) pf w = _
    rw [setVisit_startTimer]
    rfl
  have secured : visited (u.command pf .close) pf { w with state := .secured } none =
      visited (s.command pf .close) pf { w with state := .secured } none := by
    have commute : u.command pf .close = visited ((s.command pf .close).command pf .close) pf w
      (some s.settings.actuatorTime) := rfl
    rw [commute, command_command, visited_visited]
  rw [entered, testLatched_eq rfl, secured]
  rfl

/-- Settles O51: an expiry in OPENING is `beginClosing_eq`, in CLOSING a re-close or the end of its timer. -/
theorem actuatorTimerExpires : Obligations.ActuatorTimerExpires := by
  unfold Obligations.ActuatorTimerExpires
  intro pf s running formed q unit after restarted
  refine ⟨_, State.running_of running _, fun stopped => ?stopped, fun runs vacant => ?vacant,
    fun v runs current => ?visit⟩
  case stopped =>
    rw [show (s.sequencers.get pf).actuatorTimer = none from stopped]
    rfl
  case vacant =>
    rw [if_pos (Option.isSome_iff_ne_none.mpr runs)]
    obtain ⟨n, hn⟩ := Option.ne_none_iff_exists'.mp runs
    have expired : s.expireActuator pf = s.setTimer pf none := by
      unfold State.expireActuator
      rw [show (s.sequencers.get pf).actuatorTimer = some n from hn, show (s.sequencers.get pf).current = none from vacant]
    rw [expired]
    exact formed_setTimer formed pf none
  case visit =>
    intro shut w
    rw [if_pos (Option.isSome_iff_ne_none.mpr runs)]
    obtain ⟨n, hn⟩ := Option.ne_none_iff_exists'.mp runs
    have current : (s.sequencers.get pf).current = some v := current
    have unchanged : withUnit s pf unit = s := by
      unfold withUnit
      rw [set_get_self]
    have kept (w : Visit) (timer : Option Nat) : after unit w timer = visited s pf w timer :=
      congrArg (fun u => visited u pf w timer) unchanged
    have still (timer : Option Nat) : s.setTimer pf timer = after unit v timer := by
      rw [kept, ← setVisit_setTimer, State.setVisit, ← current]
      unfold State.setSequencer
      rw [set_get_self]
    unfold State.expireActuator
    simp only [show (s.sequencers.get pf).actuatorTimer = some n from hn, current]
    refine ⟨fun state door => ?_, fun state door late lost => ?_, fun state door ended => ?_, fun state retries => ?_,
      fun state retries => ?_, fun state => ?_⟩
    · simp only [state]
      rw [beginClosing_eq, if_neg door]
      rfl
    · simp only [state]
      rw [beginClosing_eq, if_pos door, if_neg (by simp [late, lost])]
      rfl
    · simp only [state]
      rw [beginClosing_eq, if_pos door, if_pos (by simpa using ended)]
      rfl
    · simp only [state]
      rw [if_pos retries, setVisit_startTimer]
      rfl
    · simp only [state]
      rw [if_neg (Nat.not_lt.mpr retries), setVisit_setTimer, kept]
      refine formed_visited formed current ?_ none
      exact ⟨state.symm, rfl, rfl⟩
    · have quiet : (s.setTimer pf none).refresh = after unit v none := by
        rw [formed_setTimer formed pf none, still]
      simp only [List.mem_cons, List.not_mem_nil, or_false] at state
      rcases state with state | state | state <;> simp only [state] <;> exact quiet

/-! ## The state right after reset -/

theorem reset_awayJudged : AwayJudged State.reset := by
  refine ⟨List.Pairwise.nil, fun k => ⟨nofun, fun ⟨c, hc, away⟩ => ?_⟩⟩
  obtain ⟨-, verified, -⟩ := away
  cases verified

theorem reset_holdsDerived : HoldsDerived State.reset := by
  refine ⟨fun src => ?_, by decide⟩
  show RecordDerived _ ((HoldTable.atPowerOn _ _).get src)
  rw [holdTable_atPowerOn_get]
  split
  · exact recordDerived_struck _ _
  · exact recordDerived_standing _ _

theorem reset_wheelSound : WheelSound State.reset :=
  ⟨by decide, by decide, fun _ => rfl, rfl, rfl, fun pf v hv => by cases pf <;> cases hv⟩

/-- Settles O15. -/
theorem resetStateIsSound : Obligations.ResetStateIsSound := by
  unfold Obligations.ResetStateIsSound
  refine ⟨rfl, reset_holdsDerived, ⟨by decide, by decide⟩, fun src => by cases src <;> rfl, ⟨rfl, by decide⟩,
    ⟨rfl, by decide⟩, reset_wheelSound, by unfold ParkKept; decide, by unfold EventsBounded; decide, reset_awayJudged, ?_⟩
  exact ⟨fun c hc => (by rcases hc with hc | hc <;> cases hc), fun j hj => by cases hj⟩

end Sys2Proof.StatusLoop
end

section
/-! R136: each condition grade is the one its owner gives. While an owner's figure has changed and its condition is still
to follow, `OwnedBut` leaves out its source. -/

namespace Sys2Proof.StatusLoop

open Machine CabinTable

/-! ## Owned conditions, some sources aside -/

/-- Every source but those of the list has the condition grade its owner gives it. -/
def OwnedBut (but : List Source) (s : State) : Prop :=
  ∀ src ∉ but, (s.holds.table.get src).cond = ownedGrade s src

theorem ownedBut_nil_iff (s : State) : OwnedBut [] s ↔ ConditionsOwned s :=
  ⟨fun h src => h src List.not_mem_nil, fun h src _ => h src⟩

theorem OwnedBut.weaken {but : List Source} {s : State} (h : OwnedBut but s) (src : Source) : OwnedBut (src :: but) s :=
  fun other out => h other fun mem => out (List.mem_cons_of_mem src mem)

/-- A change after which the sources still in the statement have their conditions and owners' grades as before. -/
theorem OwnedBut.congr {but more : List Source} {s t : State} (h : OwnedBut but s) (holds : t.holds = s.holds)
    (sub : ∀ src ∉ more, src ∉ but) (grades : ∀ src ∉ more, ownedGrade t src = ownedGrade s src) : OwnedBut more t := by
  intro src out
  rw [holds, grades src out]
  exact h src (sub src out)

/-- A change that no owner's grade reads. -/
theorem OwnedBut.keep {but : List Source} {s t : State} (h : OwnedBut but s) (holds : t.holds = s.holds)
    (grades : ∀ src, ownedGrade t src = ownedGrade s src) : OwnedBut but t :=
  h.congr holds (fun _ out => out) fun src _ => grades src

/-- A change that the owner of one source alone reads. -/
theorem OwnedBut.open {but : List Source} {s t : State} (h : OwnedBut but s) (src : Source) (holds : t.holds = s.holds)
    (grades : ∀ other, other ≠ src → ownedGrade t other = ownedGrade s other) : OwnedBut (src :: but) t :=
  h.congr holds (fun _ out mem => out (List.mem_cons_of_mem src mem))
    fun _ out => grades _ fun e => out (e ▸ List.mem_cons_self)

/-- OPERATOR's owner is its own condition; every other owner's figure is out of a reaction's reach. -/
theorem ownedGrade_reaction {s t : State} (r : Reaction s t) {src : Source} (ne : src ≠ .operator) :
    ownedGrade t src = ownedGrade s src := by
  have late (pf : Platform) : (t.sequencers.get pf).doorLate = (s.sequencers.get pf).doorLate := by
    have visits := congrArg Sequencer.doorLate (r.visits pf)
    exact visits
  have lateA : t.sequencers.a.doorLate = s.sequencers.a.doorLate := late .a
  have lateB : t.sequencers.b.doorLate = s.sequencers.b.doorLate := late .b
  have silent : t.permit.driveSilent = s.permit.driveSilent := by rw [r.permit]
  have fault : t.permit.driveFault = s.permit.driveFault := by rw [r.permit]
  cases src with
  | operator => exact absurd rfl ne
  | _ =>
    simp only [ownedGrade, State.holding, State.programmed, State.settings, r.wind, r.position, r.loop, r.stops, r.plans,
      r.store, lateA, lateB, silent, fault] <;> rfl

/-- A reaction that changes no source. -/
theorem OwnedBut.reaction {but : List Source} {s t : State} (h : OwnedBut but s) (r : Reaction s t)
    (holds : t.holds = s.holds) : OwnedBut but t := by
  refine h.keep holds fun src => ?_
  by_cases e : src = .operator
  · subst e
    simp only [ownedGrade, holds]
  · exact ownedGrade_reaction r e

/-- A change of one source, whose condition comes to what its owner gives. -/
theorem OwnedBut.changeSource {but : List Source} {s : State} {src : Source} (h : OwnedBut (src :: but) s)
    {f : HoldRecord → HoldRecord}
    (e : src ≠ .operator → src ∉ but → (f (s.holds.table.get src)).cond = ownedGrade s src) :
    OwnedBut but (s.changeSource src f) := by
  intro other out
  by_cases operator : other = .operator
  · subst operator
    rfl
  rw [ownedGrade_reaction (State.changeSource_reaction s src f) operator, State.changeSource_holds]
  by_cases same : other = src
  · subst same
    dsimp only
    rw [HoldTable.get_set_same]
    exact e operator out
  · dsimp only
    rw [HoldTable.get_set_other _ _ same]
    exact h other (by simp [same, out])

theorem OwnedBut.setCondition {but : List Source} {s : State} {src : Source} (h : OwnedBut (src :: but) s) {g : Grade}
    (e : src ≠ .operator → g = ownedGrade s src) : OwnedBut but (s.setCondition src g) := by
  unfold State.setCondition
  split
  · next same =>
    intro other out
    by_cases operator : other = .operator
    · subst operator
      rfl
    by_cases here : other = src
    · subst here
      exact same.trans (e operator)
    · exact h other (by simp [here, out])
  · exact h.changeSource fun ne _ => e ne

/-- A change of a source that leaves its condition. -/
theorem OwnedBut.keepCondition {but : List Source} {s : State} (h : OwnedBut but s) (src : Source)
    {f : HoldRecord → HoldRecord} (cond : ∀ r, (f r).cond = r.cond) : OwnedBut but (s.changeSource src f) :=
  (h.weaken src).changeSource fun _ out => (cond _).trans (h src out)

theorem OwnedBut.deliverEvent {but : List Source} {s : State} (h : OwnedBut but s) (src : Source) (g : Grade) :
    OwnedBut but (s.deliverEvent src g) := by
  unfold State.deliverEvent
  split
  · exact h
  · exact h.keepCondition src fun _ => rfl

theorem OwnedBut.formDoorLate {but : List Source} {s : State} (h : OwnedBut (.doorLate :: but) s) :
    OwnedBut but s.formDoorLate := h.setCondition fun _ => rfl

theorem OwnedBut.formPosition {but : List Source} {s : State} (h : OwnedBut (.position :: but) s) :
    OwnedBut but s.formPosition := h.setCondition fun _ => rfl

/-- A source with a programmed grade, its condition formed as it holds. -/
theorem OwnedBut.formProgrammed {but : List Source} {s : State} {src : Source} (h : OwnedBut (src :: but) s)
    {on : Bool} (holding : s.holding src = on) (owned : ownedGrade s src = if s.holding src then s.programmed src else .none) :
    OwnedBut but (s.formProgrammed src on) := by
  refine h.setCondition fun _ => ?_
  rw [owned, holding]

/-- The away set judged again, and DOOR_AWAY's condition with it. -/
theorem OwnedBut.judgeAway {but : List Source} {s : State} (h : OwnedBut but s) : OwnedBut but s.judgeAway := by
  have judged : OwnedBut (.doorAway :: but) { s with loop := { s.loop with away := s.awaySet } } := by
    refine h.open .doorAway rfl fun other ne => ?_
    cases other with
    | doorAway => exact absurd rfl ne
    | _ => rfl
  exact judged.setCondition fun _ => rfl

theorem OwnedBut.append {but : List Source} {s : State} (h : OwnedBut but s) (r : EventRecord) : OwnedBut but (s.append r) :=
  h.reaction (s.append_reaction r) (s.append_holds r)

theorem OwnedBut.assignIfDue {but : List Source} {s : State} (h : OwnedBut but s) (pf : Platform) :
    OwnedBut but (s.assignIfDue pf) := h.reaction (s.assignIfDue_reaction pf) (s.assignIfDue_holds pf)

theorem OwnedBut.parkedTest {but : List Source} {s : State} (h : OwnedBut but s) : OwnedBut but s.parkedTest :=
  h.reaction s.parkedTest_reaction s.parkedTest_holds

theorem OwnedBut.refresh {but : List Source} {s : State} (h : OwnedBut but s) : OwnedBut but s.refresh :=
  h.keep rfl fun _ => rfl

/-! ## The visits -/

theorem OwnedBut.setSequencer {but : List Source} {s : State} (h : OwnedBut but s) {pf : Platform} {q : Sequencer}
    (late : q.doorLate = (s.sequencers.get pf).doorLate) : OwnedBut but (s.setSequencer pf q) := by
  refine h.keep rfl fun src => ?_
  cases src with
  | doorLate =>
    have late : q.doorLate = _ := late
    cases pf <;> simp only [ownedGrade, State.setSequencer, PerPlatform.set, late] <;> rfl
  | _ => rfl

theorem OwnedBut.visited {but : List Source} {s : State} (h : OwnedBut but s) (pf : Platform) (v : Visit)
    (timer : Option Nat) : OwnedBut but (visited s pf v timer) := h.setSequencer rfl

theorem OwnedBut.setVisit {but : List Source} {s : State} (h : OwnedBut but s) (pf : Platform) (v : Visit) :
    OwnedBut but (s.setVisit pf v) := h.setSequencer rfl

theorem OwnedBut.setTimer {but : List Source} {s : State} (h : OwnedBut but s) (pf : Platform) (timer : Option Nat) :
    OwnedBut but (s.setTimer pf timer) := h.setSequencer rfl

theorem OwnedBut.command {but : List Source} {s : State} (h : OwnedBut but s) (pf : Platform) (code : ActuatorCode) :
    OwnedBut but (s.command pf code) := h.keep rfl fun _ => rfl

/-- A Sequencer replaced, its DOOR_LATE condition with it. -/
theorem OwnedBut.openLate {but : List Source} {s : State} (h : OwnedBut but s) (pf : Platform) (q : Sequencer) :
    OwnedBut (.doorLate :: but) (s.setSequencer pf q) := by
  refine h.open .doorLate rfl fun other ne => ?_
  cases other with
  | doorLate => exact absurd rfl ne
  | _ => rfl

theorem OwnedBut.endVisit {but : List Source} {s : State} (h : OwnedBut but s) (pf : Platform) (v : Visit) :
    OwnedBut but (s.endVisit pf v) := by
  have ended (t : State) (q : Sequencer) (e : t = s.setSequencer pf q) : OwnedBut (.doorLate :: but) t :=
    e ▸ h.openLate pf q
  rw [endVisit_eq]
  split
  · refine OwnedBut.formDoorLate ?_
    exact (h.openLate pf _).keep (s := s.setSequencer pf _) rfl fun _ => rfl
  · next late =>
    refine (h.setSequencer (pf := pf) ?_).keep (s := s.setSequencer pf _) rfl fun _ => rfl
    simp only [late]
    rfl

theorem OwnedBut.testLatched {but : List Source} {s : State} (h : OwnedBut but s) (pf : Platform) (v : Visit) :
    OwnedBut but (s.testLatched pf v) := by
  unfold State.testLatched
  split
  · split
    · exact h.endVisit pf v
    · exact ((h.command pf _).setVisit pf _).setTimer pf _
  · exact h

theorem OwnedBut.beginClosing {but : List Source} {s : State} (h : OwnedBut but s) (pf : Platform) (v : Visit) :
    OwnedBut but (s.beginClosing pf v) := (((h.command pf _).setVisit pf _).setTimer pf _).testLatched pf _

theorem OwnedBut.testOpen {but : List Source} {s : State} (h : OwnedBut but s) (pf : Platform) (v : Visit) :
    OwnedBut but (s.testOpen pf v) := by
  unfold State.testOpen
  split
  · exact ((h.setVisit pf _).setTimer pf _).assignIfDue pf
  · exact h

theorem OwnedBut.createVisit {but : List Source} {s : State} (h : OwnedBut but s) (pf : Platform) (k : Nat) (c : Cabin) :
    OwnedBut but (s.createVisit pf k c) := by
  unfold State.createVisit
  dsimp only
  split
  · exact h.setSequencer rfl
  · have written : OwnedBut but (s.setSequencer pf { s.sequencers.get pf with
        current := some (s.newVisit pf k c), visitNumber := (s.newVisit pf k c).number }) := h.setSequencer rfl
    refine OwnedBut.testOpen (OwnedBut.append (OwnedBut.setTimer ?_ pf _) _) pf _
    exact written.keep rfl fun _ => rfl

theorem OwnedBut.takeEnter {but : List Source} {s : State} (h : OwnedBut but s) (pf : Platform) (k : Nat) :
    OwnedBut but (s.takeEnter pf k) := by
  unfold State.takeEnter State.missBerth
  split
  · split
    · exact h
    · dsimp only
      split
      · exact (h.append _).deliverEvent _ _
      · exact h.append _
  · split
    · exact h.createVisit pf k _
    · exact h

theorem OwnedBut.takeClose {but : List Source} {s : State} (h : OwnedBut but s) (pf : Platform) (k : Nat) :
    OwnedBut but (s.takeClose pf k) := by
  unfold State.takeClose
  split
  · split
    · exact h.beginClosing pf _
    · exact h
  · exact h

theorem OwnedBut.makeLate {but : List Source} {s : State} (h : OwnedBut but s) (pf : Platform) (v : Visit) :
    OwnedBut but (s.makeLate pf v) := (h.openLate pf _).formDoorLate

theorem OwnedBut.takeExit {but : List Source} {s : State} (h : OwnedBut but s) (pf : Platform) (k : Nat) :
    OwnedBut but (s.takeExit pf k) := by
  unfold State.takeExit
  split
  · split
    · exact h
    · dsimp only
      split
      · exact h.endVisit pf _
      · exact h.endVisit pf _
      · exact h.makeLate pf _
      · exact (h.makeLate pf _).beginClosing pf _
      · exact (h.makeLate pf _).beginClosing pf _
  · exact h

theorem OwnedBut.takeRetreat {but : List Source} {s : State} (h : OwnedBut but s) (pf : Platform) (k : Nat) :
    OwnedBut but (s.takeRetreat pf k) := by
  unfold State.takeRetreat
  split
  · split
    · exact h
    split
    · exact h.endVisit pf _
    split
    · exact (h.command pf _).endVisit pf _
    · exact h
  · exact h

theorem OwnedBut.losePosition {but : List Source} {s : State} (h : OwnedBut but s) (pf : Platform) :
    OwnedBut but (s.losePosition pf) := by
  unfold State.losePosition
  split
  · dsimp only
    split
    · exact h.endVisit pf _
    · exact h.setVisit pf _
  · exact h

theorem OwnedBut.feedBack {but : List Source} {s : State} (h : OwnedBut but s) (pf : Platform) (door : DoorState) :
    OwnedBut but (s.feedBack pf door) := by
  unfold State.feedBack
  split
  · split
    · exact h.testOpen pf _
    · exact h.testLatched pf _
    · split
      · exact (h.setVisit pf _).setTimer pf _
      · exact h
    · exact h
    · exact h
  · exact h

theorem OwnedBut.expireActuator {but : List Source} {s : State} (h : OwnedBut but s) (pf : Platform) :
    OwnedBut but (s.expireActuator pf) := by
  have reclosed : OwnedBut but (s.reclose pf) := h.keep rfl fun _ => rfl
  unfold State.expireActuator
  split
  · split
    · exact h.beginClosing pf _
    · split
      · exact (reclosed.setVisit pf _).setTimer pf _
      · exact (h.setVisit pf _).setTimer pf _
    · exact h.setTimer pf _
    · exact h.setTimer pf _
    · exact h.setTimer pf _
  · exact h.setTimer pf _
  · exact h

/-! ## The wheel -/

theorem OwnedBut.handCrossings {but : List Source} {s : State} (h : OwnedBut but s) (before after : Nat) (pf : Platform) :
    OwnedBut but (s.handCrossings before after pf) := by
  have taken (s : State) (h : OwnedBut but s) (x : Nat × Crossing) : OwnedBut but (s.takeCrossing pf x) := by
    unfold State.takeCrossing
    split
    · exact h.takeEnter pf _
    · exact h.takeClose pf _
    · exact h.takeExit pf _
  exact List.foldlRecOn (motive := OwnedBut but) _ _ h fun s h x _ => taken s h x

theorem OwnedBut.handRetreats {but : List Source} {s : State} (h : OwnedBut but s) (before after : Nat) (pf : Platform) :
    OwnedBut but (s.handRetreats before after pf) :=
  List.foldlRecOn (motive := OwnedBut but) _ _ h fun _ h k _ => h.takeRetreat pf k

theorem OwnedBut.overshootTest {but : List Source} {s : State} (h : OwnedBut but s) : OwnedBut but s.overshootTest := by
  unfold State.overshootTest
  split
  · exact h.deliverEvent _ _
  · exact h

theorem OwnedBut.unparkTest {but : List Source} {s : State} (h : OwnedBut but s) : OwnedBut but s.unparkTest := by
  refine h.reaction s.unparkTest_reaction ?_
  unfold State.unparkTest
  split
  · rfl
  · split <;> rfl

theorem OwnedBut.parkTests {but : List Source} {s : State} (h : OwnedBut but s) : OwnedBut but s.parkTests :=
  h.unparkTest.parkedTest.overshootTest

theorem OwnedBut.movedTests {but : List Source} {s : State} (h : OwnedBut but s) (moved : Bool) :
    OwnedBut but (s.movedTests moved) := by
  cases moved
  · exact h
  · exact h.parkedTest.overshootTest

/-- A change of the position that leaves the verified flag and the DISAGREE condition. -/
theorem OwnedBut.position {but : List Source} {s : State} (h : OwnedBut but s) {x : Position}
    (verified : x.verified = s.position.verified) (disagree : x.disagree = s.position.disagree) :
    OwnedBut but { s with position := x } := by
  refine h.keep rfl fun src => ?_
  cases src with
  | position => simp only [ownedGrade, verified]
  | disagree => simp only [ownedGrade, State.holding, disagree]; rfl
  | _ => rfl

/-- The verified flag written, POSITION's condition to follow. -/
theorem OwnedBut.openPosition {but : List Source} {s : State} (h : OwnedBut but s) {x : Position}
    (disagree : x.disagree = s.position.disagree) : OwnedBut (.position :: but) { s with position := x } := by
  refine h.open .position rfl fun other ne => ?_
  cases other with
  | position => exact absurd rfl ne
  | disagree => simp only [ownedGrade, State.holding, disagree]; rfl
  | _ => rfl

theorem OwnedBut.forwardTick {but : List Source} {s : State} (h : OwnedBut but s) : OwnedBut but s.forwardTick := by
  have moved : OwnedBut but { s with position := s.position.forward s.geometry } := h.position rfl rfl
  unfold State.forwardTick
  dsimp only
  refine OwnedBut.judgeAway (OwnedBut.parkTests ?_)
  exact ((moved.handCrossings _ _ .a).handCrossings _ _ .b).position rfl rfl

theorem OwnedBut.reverseTest {but : List Source} {s : State} (h : OwnedBut but s) : OwnedBut but s.reverseTest := by
  unfold State.reverseTest
  split
  · refine OwnedBut.deliverEvent ?_ _ _
    exact h.position rfl rfl
  · exact h

theorem OwnedBut.reverseTick {but : List Source} {s : State} (h : OwnedBut but s) : OwnedBut but s.reverseTick := by
  have moved : OwnedBut but { s with position := s.position.backward s.geometry } := h.position rfl rfl
  unfold State.reverseTick
  dsimp only
  exact ((moved.reverseTest.handRetreats _ _ .a).handRetreats _ _ .b).parkTests.judgeAway

/-! ### The plan banks at a revolution boundary -/

theorem planEnd_setActive (x : Plans) (k : Bank) : (x.setActive k).planEnd = x.planEnd := by
  unfold Plans.setActive
  split <;> rfl

/-- A change of the plans that leaves the PLAN_END condition. -/
theorem OwnedBut.plans {but : List Source} {s : State} (h : OwnedBut but s) {x : Plans}
    (planEnd : x.planEnd = s.plans.planEnd) : OwnedBut but { s with plans := x } := by
  refine h.keep rfl fun src => ?_
  cases src with
  | planEnd => simp only [ownedGrade, State.holding, planEnd]; rfl
  | _ => rfl

/-- The PLAN_END condition written, its source's condition to follow. -/
theorem OwnedBut.openPlans {but : List Source} {s : State} (h : OwnedBut but s) (x : Plans) :
    OwnedBut (.planEnd :: but) { s with plans := x } := by
  refine h.open .planEnd rfl fun other ne => ?_
  cases other with
  | planEnd => exact absurd rfl ne
  | _ => rfl

theorem OwnedBut.planBoundary {but : List Source} {s : State} (h : OwnedBut but s) : OwnedBut but s.planBoundary := by
  have counted : OwnedBut but
      (if s.plans.planEnd then s else { s with plans := s.plans.setActive s.plans.active.countRevolution }) := by
    split
    · exact h
    · exact h.plans (planEnd_setActive _ _)
  unfold State.planBoundary
  dsimp only
  generalize (if s.plans.planEnd then s else _ : State) = u at counted ⊢
  split
  · refine ((counted.openPlans u.plans.swapped).formProgrammed ?_ rfl).append _
    show u.plans.swapped.planEnd = false
    unfold Plans.swapped
    dsimp only
    rw [planEnd_setActive]
  · split
    · exact ((counted.openPlans { u.plans with planEnd := true }).append _).formProgrammed
        (by rw [State.holding, (State.append_reaction _ _).plans]) rfl
    · exact counted

theorem OwnedBut.boundary {but : List Source} {s : State} (h : OwnedBut but s) : OwnedBut but s.boundary := by
  refine OwnedBut.planBoundary ?_
  exact h.position rfl rfl

theorem OwnedBut.setPark {but : List Source} {s : State} (h : OwnedBut but s) (r : Option ParkRecord) :
    OwnedBut but (s.setPark r) := h.keep rfl fun _ => rfl

theorem OwnedBut.takenEdge {but : List Source} {s : State} (h : OwnedBut but s) : OwnedBut but s.takenEdge := by
  unfold State.takenEdge
  split
  · dsimp only
    split
    · unfold State.goodEdge
      dsimp only
      have corrected (d : Int) : OwnedBut but (((s.correct d).logPlain .index d).shiftTarget d) := by
        have moved : OwnedBut but (s.correct d) := h.position rfl rfl
        have logged : OwnedBut but ((s.correct d).logPlain .index d) := moved.append _
        unfold State.shiftTarget
        split
        · exact logged
        · split
          · exact logged.setPark _
          · exact logged
      refine OwnedBut.judgeAway (OwnedBut.movedTests (OwnedBut.boundary ?_) _)
      split
      · exact ((corrected _).handCrossings _ _ .a).handCrossings _ _ .b
      · exact corrected _
    · unfold State.badEdge
      dsimp only
      refine OwnedBut.judgeAway (OwnedBut.boundary (OwnedBut.losePosition (OwnedBut.losePosition ?_ .a) .b))
      have lost := (h.openPosition (x := { s.position with theta := 0, verified := false, stillCrossed := [] }) rfl).append
        (plainRecord s .indexMismatch (signedMod s.position.theta s.geometry.p))
      refine lost.changeSource fun _ _ => ?_
      rw [ownedGrade, (State.append_reaction _ _).position]
      rfl
  · unfold State.verifyEdge
    dsimp only
    refine OwnedBut.judgeAway (OwnedBut.movedTests (OwnedBut.formPosition ?_) _)
    have logged := (h.openPosition (x := { s.position with theta := 0, verified := true, stillCrossed := [] }) rfl).append
      (plainRecord s .index 0)
    unfold State.retarget
    split
    · exact logged
    · split
      · exact logged.setPark _
      · exact logged

/-! ## The wind -/

/-- A change of the wind that leaves the class and the sensor condition. -/
theorem OwnedBut.wind {but : List Source} {s : State} (h : OwnedBut but s) {x : Wind}
    (windClass : x.windClass = s.wind.windClass) (condition : x.sensorCondition = s.wind.sensorCondition) :
    OwnedBut but { s with wind := x } := by
  refine h.keep rfl fun src => ?_
  cases src with
  | wind => simp only [ownedGrade, windClass]
  | windSensor => simp only [ownedGrade, State.holding, condition]; rfl
  | _ => rfl

theorem OwnedBut.logSensor {but : List Source} {s : State} (h : OwnedBut but s) (k : Sensor) (c : SensorChange) :
    OwnedBut but (s.logSensor k c) := by
  cases c with
  | same => exact h
  | stalled => exact h.append _
  | overran => exact h.append _
  | recovered => exact h.append _

theorem combine_windClass (w : Wind) : w.combine.windClass = w.windClass := by
  unfold Wind.combine
  dsimp only
  split <;> rfl

theorem OwnedBut.judgeClass {but : List Source} {s : State} (h : OwnedBut but s) : OwnedBut but s.judgeClass := by
  unfold State.judgeClass State.changeClass
  dsimp only
  split
  · next same => exact h.wind same.symm rfl
  · have opened : OwnedBut (.wind :: but) { s with wind :=
        { s.wind with windClass := (s.wind.classStep s.settings.classes).windClass
                      quietTimer := (s.wind.classStep s.settings.classes).quietTimer } } := by
      refine h.open .wind rfl fun other ne => ?_
      cases other with
      | wind => exact absurd rfl ne
      | _ => rfl
    refine (opened.append _).setCondition fun _ => ?_
    rw [ownedGrade, (State.append_reaction _ _).wind]

theorem OwnedBut.windowEnd {but : List Source} {s : State} (h : OwnedBut but s) : OwnedBut but s.windowEnd := by
  have shifted : OwnedBut but { s with position := s.position.closeWindow } := h.position rfl rfl
  have parked := shifted.parkedTest
  unfold State.windowEnd State.windWindow
  generalize State.parkedTest _ = u at parked ⊢
  have closed : OwnedBut but { u with wind := u.wind.closeWindows u.settings.factors } := parked.wind rfl rfl
  dsimp only
  generalize ({ u with wind := _ } : State) = w at closed ⊢
  have tested : OwnedBut but w.testSensors := by
    refine OwnedBut.logSensor (OwnedBut.logSensor ?_ _ _) _ _
    exact closed.wind rfl rfl
  generalize w.testSensors = x at tested ⊢
  refine OwnedBut.judgeClass (OwnedBut.formProgrammed ?_ rfl rfl)
  refine tested.open .windSensor rfl fun other ne => ?_
  cases other with
  | windSensor => exact absurd rfl ne
  | wind => exact congrArg WindClass.grade (combine_windClass x.wind)
  | _ => rfl

end Sys2Proof.StatusLoop
end

section
/-! What the feedback of a scan reaches (R65, R70, R72): the frame of a Sequencer's move, and the records of the contact
conflicts that begin (R47). -/

namespace Sys2Proof.StatusLoop

open Machine CabinTable

/-! ## The reach of a Sequencer's move -/

/-- The end of a visit leaves the cabin's door state (R29, R35). -/
theorem visitEnd_door (c : Cabin) (offered boarded : Bool) : (c.visitEnd offered boarded).door = c.door := by
  unfold Cabin.visitEnd
  rw [leaveVisit_eq, takePendingGate_eq]
  dsimp only
  split <;> rfl

/-- The state `t` differs from `s` at most in the visits, the cabins apart from their doors, the queues, the output image,
and what a reaction reaches. -/
structure Fed (s t : State) : Prop where
  phase : t.phase = s.phase
  position : t.position = s.position
  loop : t.loop = s.loop
  plans : t.plans = s.plans
  wind : t.wind = s.wind
  stops : t.stops = s.stops
  ports : t.ports = s.ports
  store : t.store = s.store
  clock : t.clock = s.clock
  pending : t.pending = s.pending
  length : t.cabins.length = s.cabins.length
  doors : ∀ k : Nat, (t.cabins[k]?).map Cabin.door = (s.cabins[k]?).map Cabin.door

theorem Fed.refl (s : State) : Fed s s :=
  ⟨rfl, rfl, rfl, rfl, rfl, rfl, rfl, rfl, rfl, rfl, rfl, fun _ => rfl⟩

theorem Fed.trans {s t u : State} (h : Fed s t) (k : Fed t u) : Fed s u :=
  ⟨k.phase.trans h.phase, k.position.trans h.position, k.loop.trans h.loop, k.plans.trans h.plans, k.wind.trans h.wind,
   k.stops.trans h.stops, k.ports.trans h.ports, k.store.trans h.store, k.clock.trans h.clock,
   k.pending.trans h.pending, k.length.trans h.length, fun i => (k.doors i).trans (h.doors i)⟩

theorem doorOf_eq (s : State) (k : Nat) : s.doorOf k = ((s.cabins[k]?).map Cabin.door).getD .unknown := by
  unfold State.doorOf
  split <;> simp [*]

theorem Fed.doorOf {s t : State} (h : Fed s t) (k : Nat) : t.doorOf k = s.doorOf k := by
  rw [doorOf_eq, doorOf_eq, h.doors]

theorem Fed.of_reaction {s t : State} (r : Reaction s t) : Fed s t :=
  ⟨r.phase, r.position, r.loop, r.plans, r.wind, r.stops, r.ports, r.store, r.clock, r.pending,
   congrArg List.length r.cabins, fun k => congrArg (fun x : List Cabin => (x[k]?).map Cabin.door) r.cabins⟩

theorem fed_visited (s : State) (pf : Platform) (v : Visit) (timer : Option Nat) : Fed s (visited s pf v timer) :=
  ⟨rfl, rfl, rfl, rfl, rfl, rfl, rfl, rfl, rfl, rfl, rfl, fun _ => rfl⟩

theorem fed_command (s : State) (pf : Platform) (code : ActuatorCode) : Fed s (s.command pf code) :=
  ⟨rfl, rfl, rfl, rfl, rfl, rfl, rfl, rfl, rfl, rfl, rfl, fun _ => rfl⟩

/-- The cabin's part of the end of a visit leaves the number of cabins and their doors. -/
theorem endInCabin_doors (s : State) (v : Visit) :
    (s.endInCabin v).cabins.length = s.cabins.length ∧
    ∀ k : Nat, ((s.endInCabin v).cabins[k]?).map Cabin.door = (s.cabins[k]?).map Cabin.door := by
  unfold State.endInCabin
  split
  · exact ⟨rfl, fun _ => rfl⟩
  · refine ⟨List.length_modify .., fun k => ?_⟩
    rw [State.modifyCabin_cabins, List.getElem?_modify]
    rcases s.cabins[k]? with _ | c
    · rfl
    · by_cases e : v.cabin = k
      · simp [e, visitEnd_door]
      · simp [e]

theorem fed_endedVisit (s : State) (pf : Platform) (v : Visit) : Fed s (endedVisit s pf v) :=
  ⟨rfl, rfl, rfl, rfl, rfl, rfl, rfl, rfl, rfl, rfl, (endInCabin_doors s v).1, (endInCabin_doors s v).2⟩

theorem fed_endVisit (s : State) (pf : Platform) (v : Visit) : Fed s (s.endVisit pf v) := by
  rw [endVisit_eq]
  split
  · exact (fed_endedVisit s pf v).trans (.of_reaction (State.formDoorLate_reaction _))
  · exact fed_endedVisit s pf v

theorem fed_testLatched (s : State) (pf : Platform) (v : Visit) : Fed s (s.testLatched pf v) := by
  unfold State.testLatched
  rw [setVisit_setTimer]
  split
  · split
    · exact fed_endVisit s pf v
    · exact (fed_command s pf .close).trans (fed_visited _ pf _ none)
  · exact .refl s

theorem fed_testOpen (s : State) (pf : Platform) (v : Visit) : Fed s (s.testOpen pf v) := by
  unfold State.testOpen
  rw [setVisit_setTimer]
  split
  · exact (fed_visited s pf _ none).trans (.of_reaction (State.assignIfDue_reaction _ pf))
  · exact .refl s

theorem fed_feedBack (s : State) (pf : Platform) (door : DoorState) : Fed s (s.feedBack pf door) := by
  unfold State.feedBack
  split
  · split
    · exact fed_testOpen s pf _
    · exact fed_testLatched s pf _
    · split
      · rw [setVisit_startTimer]
        exact fed_visited s pf _ _
      · exact .refl s
    · exact .refl s
    · exact .refl s
  · exact .refl s

/-! ## Contact conflicts -/

/-- A CONTACT_CONFLICT record (R47). -/
def conflictRecord (clock : Word) (k : Option Nat) (pf : Option Platform) (value : Int) : EventRecord :=
  { time := clock, kind := .contactConflict, cabin := k, platform := pf, source := none, grade := none, value := value }

/-- The conflict of cabin `k`, where it begins between two accepted states. -/
def cabinConflict (clock : Word) (before after : Loop) (k : Nat) : List EventRecord :=
  if ((after.cabins[k]?.map LoopCabin.conflict).getD false && !(before.cabins[k]?.map LoopCabin.conflict).getD false)
  then [conflictRecord clock (some k) none 0] else []

/-- The conflict of a berth, where it begins. -/
def berthConflict (clock : Word) (before after : Loop) (pf : Platform) : List EventRecord :=
  if (after.berths.get pf).conflict && !(before.berths.get pf).conflict then [conflictRecord clock none (some pf) 1]
  else []

/-- The records of the conflicts that begin, cabins in order, then A and B (R47, log 7). -/
def begunConflicts (clock : Word) (before after : Loop) : List EventRecord :=
  (List.range after.cabins.length).flatMap (cabinConflict clock before after) ++ berthConflict clock before after .a ++
    berthConflict clock before after .b

theorem appends_clock (s : State) (xs : List EventRecord) : (xs.foldl State.append s).clock = s.clock := by
  rw [appends_eq]

/-- The conflicts that begin are recorded with one clock, and nothing else changes (R47). -/
theorem logConflicts_eq (s : State) (before after : Loop) :
    s.logConflicts before after = (begunConflicts s.clock before after).foldl State.append s := by
  have cabin (u : State) (k : Nat) :
      (if ((after.cabins[k]?.map LoopCabin.conflict).getD false && !(before.cabins[k]?.map LoopCabin.conflict).getD false)
        then u.logConflict (some k) none 0 else u) = (cabinConflict u.clock before after k).foldl State.append u := by
    unfold cabinConflict
    split <;> rfl
  have berth (u : State) (pf : Platform) :
      (if (after.berths.get pf).conflict && !(before.berths.get pf).conflict then u.logConflict none (some pf) 1 else u) =
        (berthConflict u.clock before after pf).foldl State.append u := by
    unfold berthConflict
    split <;> rfl
  have cabins (ks : List Nat) (u : State) :
      ks.foldl (fun u k => (cabinConflict u.clock before after k).foldl State.append u) u =
        (ks.flatMap (cabinConflict u.clock before after)).foldl State.append u := by
    induction ks generalizing u with
    | nil => rfl
    | cons k rest ih => rw [List.foldl_cons, ih, appends_clock, List.flatMap_cons, List.foldl_append]
  unfold State.logConflicts begunConflicts
  simp only [cabin, berth, cabins, appends_clock, List.foldl_append]

/-- New accepted contacts, step by step: the doors written, the conflicts recorded, A's visit, B's. -/
theorem takeContacts_eq (s : State) (after : Loop) :
    s.takeContacts after =
      ((((begunConflicts s.clock s.loop after).foldl State.append (State.writeDoors { s with loop := after })).feedBack .a
        (s.visitDoor .a)).feedBack .b (s.visitDoor .b)) := by
  unfold State.takeContacts
  dsimp only
  rw [logConflicts_eq]
  rfl

theorem takeContacts_loop (s : State) (after : Loop) : (s.takeContacts after).loop = after := by
  rw [takeContacts_eq, (fed_feedBack _ _ _).loop, (fed_feedBack _ _ _).loop, appends_eq]
  rfl

end Sys2Proof.StatusLoop
end

section
/-! R136 for the scans, the requests, the timers and the restarts: with `OwnedBut`, every effect keeps each condition grade
the one its owner gives. -/

namespace Sys2Proof.StatusLoop

open Machine CabinTable

/-! ## The Status Loop -/

theorem OwnedBut.appends {but : List Source} {s : State} (h : OwnedBut but s) (xs : List EventRecord) :
    OwnedBut but (xs.foldl State.append s) :=
  List.foldlRecOn (motive := OwnedBut but) _ _ h fun _ h r _ => h.append r

/-- A change of the loop that leaves the away set, LOOP_FAULT's condition to follow. -/
theorem OwnedBut.openLoop {but : List Source} {s : State} (h : OwnedBut but s) {x : Loop} (away : x.away = s.loop.away) :
    OwnedBut (.loopFault :: but) { s with loop := x } := by
  refine h.open .loopFault rfl fun other ne => ?_
  cases other with
  | loopFault => exact absurd rfl ne
  | doorAway => simp only [ownedGrade, away]
  | _ => rfl

/-- A change of the loop that leaves the away set and the LOOP_FAULT condition. -/
theorem OwnedBut.loop {but : List Source} {s : State} (h : OwnedBut but s) {x : Loop} (away : x.away = s.loop.away)
    (fault : x.loopFault = s.loop.loopFault) : OwnedBut but { s with loop := x } := by
  refine h.keep rfl fun src => ?_
  cases src with
  | loopFault => simp only [ownedGrade, State.holding, fault]; rfl
  | doorAway => simp only [ownedGrade, away]
  | _ => rfl

theorem OwnedBut.takeContacts {but : List Source} {s : State} {after : Loop} (h : OwnedBut but { s with loop := after }) :
    OwnedBut but (s.takeContacts after) := by
  have written : OwnedBut but (State.writeDoors { s with loop := after }) := h.keep rfl fun _ => rfl
  rw [takeContacts_eq]
  exact ((written.appends _).feedBack _ _).feedBack _ _

theorem OwnedBut.clearLoopFault {but : List Source} {s : State} (h : OwnedBut but s) : OwnedBut but s.clearLoopFault := by
  unfold State.clearLoopFault
  split
  · refine ((h.openLoop (x := { s.loop with loopFault := false }) rfl).append _).formProgrammed ?_ rfl
    rw [State.holding, (State.append_reaction _ _).loop]
  · exact h

theorem OwnedBut.goodScan {but : List Source} {s : State} (h : OwnedBut but s) (stale : Bool) (r : Readings) :
    OwnedBut but (s.goodScan stale r) := by
  have counted : OwnedBut but { s.clearLoopFault with loop := { s.clearLoopFault.loop with failedCount := 0 } } :=
    h.clearLoopFault.loop rfl rfl
  unfold State.goodScan
  dsimp only
  split
  · exact counted
  · refine OwnedBut.takeContacts ?_
    exact h.clearLoopFault.loop rfl rfl

theorem OwnedBut.failedScan {but : List Source} {s : State} (h : OwnedBut but s) : OwnedBut but s.failedScan := by
  have counted : OwnedBut but { s with loop := { s.loop with failedCount := min 32767 (s.loop.failedCount + 1) } } :=
    h.loop rfl rfl
  unfold State.failedScan
  dsimp only
  split
  · refine OwnedBut.formProgrammed (OwnedBut.takeContacts ?_) ?_ rfl
    · exact (counted.append _).openLoop rfl
    · rw [State.holding, takeContacts_loop]
      rfl
  · exact counted

theorem OwnedBut.endScan {but : List Source} {s : State} (h : OwnedBut but s) (pattern : Byte) (contacts : List Bool) :
    OwnedBut but (s.endScan pattern contacts) := by
  have ended : OwnedBut but { s with loop := { s.loop with scan := none } } := h.loop rfl rfl
  unfold State.endScan
  split
  · exact h
  · dsimp only
    refine OwnedBut.judgeAway ?_
    split
    · exact ended.goodScan _ _
    · exact ended.failedScan

/-! ## The configuration -/

/-- Only the item of a programmed grade writes one. -/
theorem programmed_write (x : Settings) {i : Item} (v : Nat) (other : ∀ src, i ≠ .programmed src) :
    (x.write i v).programmed = x.programmed := by
  cases i with
  | programmed src => exact absurd rfl (other src)
  | permit k => cases k <;> rfl
  | _ => rfl

/-- New settings with the programmed grades as they were. -/
theorem OwnedBut.settings {but : List Source} {s : State} (h : OwnedBut but s) {x : Settings}
    (programmed : x.programmed = s.settings.programmed) : OwnedBut but (s.setSettings x) := by
  have grade (src : Source) : (s.setSettings x).programmed src = s.programmed src :=
    congrArg (fun y : Programmed => y.get src) programmed
  refine h.keep rfl fun src => ?_
  cases src <;> simp only [ownedGrade, grade] <;> rfl

theorem programmed_get_set_other (x : Programmed) {src other : Source} (g : Grade) (ne : other ≠ src) :
    (x.set src g).get other = x.get other := by
  cases src with
  | windSensor | platformStopA | platformStopB | loopFault | disagree | planEnd | berthMiss =>
    cases other <;> simp_all [Programmed.set, Programmed.get]
  | _ => rfl

/-- One programmed grade written, its source's condition to follow. -/
theorem OwnedBut.openProgrammed {but : List Source} {s : State} (h : OwnedBut but s) (src : Source) (v : Nat) :
    OwnedBut (src :: but) (s.setSettings (s.settings.write (.programmed src) v)) := by
  refine h.open src rfl fun other ne => ?_
  have grade : (s.setSettings (s.settings.write (.programmed src) v)).programmed other = s.programmed other :=
    programmed_get_set_other _ _ ne
  cases other <;> simp only [ownedGrade, grade] <;> rfl

/-- A source whose grade is programmed has no other owner (Table 8-2). -/
theorem ownedGrade_programmed (s : State) {src : Source} (ranged : src.programmedRange.isSome = true) :
    ownedGrade s src = if s.holding src then s.programmed src else .none := by
  cases src with
  | windSensor | platformStopA | platformStopB | loopFault | disagree | planEnd | berthMiss => rfl
  | _ => cases ranged

theorem OwnedBut.recount {but : List Source} {s : State} (h : OwnedBut but s) : OwnedBut but s.recount := by
  have counted : OwnedBut but { s with unload := { s.unload with occupied := occupiedCount s.cabins } } :=
    h.keep rfl fun _ => rfl
  exact counted.reaction (State.judgeUnload_reaction _) (State.judgeUnload_holds _)

theorem OwnedBut.resize {but : List Source} {s : State} (h : OwnedBut but s) (n : Nat) : OwnedBut but (s.resize n) := by
  unfold State.resize
  refine OwnedBut.recount ?_
  exact h.keep rfl fun src => by cases src <;> rfl

theorem OwnedBut.loseGeometry {but : List Source} {s : State} (h : OwnedBut but s) : OwnedBut but s.loseGeometry := by
  have lost : OwnedBut (.position :: .disagree :: but) { s with position :=
      { s.position with theta := 0, verified := false, disagreementRun := 0, agreementRun := 0, disagree := false
                        stillCrossed := [] } } := by
    refine h.congr rfl (fun _ out mem => out (by simp [mem])) fun src out => ?_
    cases src with
    | position => simp at out
    | disagree => simp at out
    | _ => rfl
  refine (lost.formPosition.formProgrammed ?_ rfl).judgeAway
  unfold State.formPosition
  rw [State.holding, (State.setCondition_reaction _ _ _).position]

/-- A write that is not refused stores the value as judged (R181). -/
theorem judge_of_judgeWrite {s : State} {i : Item} {value v : Nat} (judged : s.judgeWrite i value = .ok v) :
    s.settings.judge i value = some v := by
  unfold State.judgeWrite at judged
  split at judged
  · cases judged
  split at judged
  · cases judged
  split at judged
  · cases judged
  split at judged
  · next value' ok =>
    cases judged
    exact ok
  · cases judged

/-- A grade is written only to a source of Table 8-2 that has one. -/
theorem ranged_of_judge {x : Settings} {src : Source} {value v : Nat} (judged : x.judge (.programmed src) value = some v) :
    src.programmedRange.isSome = true := by
  cases range : src.programmedRange with
  | some _ => rfl
  | none => simp [Settings.judge, range] at judged

theorem OwnedBut.storeItem {but : List Source} {s : State} (h : OwnedBut but s) {i : Item} {value v : Nat}
    (judged : s.judgeWrite i value = .ok v) : OwnedBut but (s.storeItem i v) := by
  have stored (other : ∀ src, i ≠ .programmed src) : OwnedBut but (s.setSettings (s.settings.write i v)) :=
    h.settings (programmed_write s.settings v other)
  unfold State.storeItem
  split
  · exact h
  · cases i with
    | n => exact ((stored fun _ => Item.noConfusion).resize _).loseGeometry
    | p => exact (stored fun _ => Item.noConfusion).loseGeometry
    | auto src =>
      exact (stored fun _ => Item.noConfusion).keepCondition src (f := fun r => r.switchAuto _) fun _ => rfl
    | programmed src =>
      refine (h.openProgrammed src v).formProgrammed rfl (ownedGrade_programmed _ ?_)
      exact ranged_of_judge (judge_of_judgeWrite judged)
    | _ => exact stored fun _ => Item.noConfusion

/-! ## The requests and the lines -/

/-- The DRIVE_SILENT condition written, its source's condition to follow. -/
theorem OwnedBut.openSilence {but : List Source} {s : State} (h : OwnedBut but s) (timer : Option Nat) (silent : Bool) :
    OwnedBut (.driveSilent :: but)
      { s with permit := { s.permit with silenceTimer := timer, driveSilent := silent } } := by
  refine h.open .driveSilent rfl fun other ne => ?_
  cases other with
  | driveSilent => exact absurd rfl ne
  | _ => rfl

theorem OwnedBut.restartSilence {but : List Source} {s : State} (h : OwnedBut but s) : OwnedBut but s.restartSilence :=
  (h.openSilence (some s.settings.silenceTime) false).setCondition fun _ => rfl

theorem OwnedBut.formDriveFault {but : List Source} {s : State} (h : OwnedBut but s) (fault : Bool) :
    OwnedBut but (s.formDriveFault fault) := by
  have judged : OwnedBut (.driveFault :: but) { s with permit := { s.permit with driveFault := fault } } := by
    refine h.open .driveFault rfl fun other ne => ?_
    cases other with
    | driveFault => exact absurd rfl ne
    | _ => rfl
  exact judged.setCondition fun _ => rfl

theorem crossChecked_verified (x : Position) (disagrees : Bool) : (x.crossChecked disagrees).verified = x.verified := by
  unfold Position.crossChecked
  split <;> rfl

theorem OwnedBut.crossCheck {but : List Source} {s : State} (h : OwnedBut but s) : OwnedBut but s.crossCheck := by
  unfold State.crossCheck
  split
  · exact h
  · split
    · have checked (disagrees : Bool) :
          OwnedBut (.disagree :: but) { s with position := s.position.crossChecked disagrees } := by
        refine h.open .disagree rfl fun other ne => ?_
        cases other with
        | disagree => exact absurd rfl ne
        | position => simp only [ownedGrade, crossChecked_verified]
        | _ => rfl
      exact (checked _).formProgrammed rfl rfl
    · exact h

theorem OwnedBut.driveReport {but : List Source} {s : State} (h : OwnedBut but s) (d : DriveRecord) :
    OwnedBut but (s.driveReport d) := by
  have taken : OwnedBut but { s with permit := { s.permit with drive := d, sinceReport := 0 } } := h.keep rfl fun _ => rfl
  exact ((taken.restartSilence.formDriveFault _).crossCheck).refresh

/-- The figures of a platform's stop condition written, and the condition formed again (R146). -/
theorem OwnedBut.formStop {but : List Source} {s : State} (h : OwnedBut but s) (pf : Platform) (x : StopLine) :
    OwnedBut but (State.formStop { s with stops := s.stops.set pf x } pf) := by
  cases pf with
  | a =>
    have written : OwnedBut (.platformStopA :: but) { s with stops := s.stops.set .a x } := by
      refine h.open .platformStopA rfl fun other ne => ?_
      cases other with
      | platformStopA => exact absurd rfl ne
      | _ => rfl
    exact written.formProgrammed rfl rfl
  | b =>
    have written : OwnedBut (.platformStopB :: but) { s with stops := s.stops.set .b x } := by
      refine h.open .platformStopB rfl fun other ne => ?_
      cases other with
      | platformStopB => exact absurd rfl ne
      | _ => rfl
    exact written.formProgrammed rfl rfl

theorem OwnedBut.operatorHold {but : List Source} {s : State} (h : OwnedBut but s) (g : Grade) :
    OwnedBut but (s.operatorHold g) :=
  ((h.weaken .operator).setCondition fun ne => absurd rfl ne).refresh

theorem OwnedBut.writeCabin {but : List Source} {s : State} (h : OwnedBut but s) (k : Nat) (f : Cabin → Cabin) :
    OwnedBut but (s.writeCabin k f) := by
  have written : OwnedBut but (s.modifyCabin k f) := h.keep rfl fun _ => rfl
  exact written.recount

theorem planEnd_setStandby (x : Plans) (k : Bank) : (x.setStandby k).planEnd = x.planEnd := by
  unfold Plans.setStandby
  split <;> rfl

theorem OwnedBut.answered {s t : State} (h : OwnedBut [] s) (a : Answered s t) : OwnedBut [] t := by
  cases a with
  | kept => exact h
  | gate | service | configured => exact h.keep rfl fun _ => rfl
  | declared => exact h.writeCabin _ _
  | alighted pf => exact (((h.setVisit pf _).writeCabin _ _).assignIfDue pf).refresh
  | boarded pf => exact ((h.setVisit pf _).writeCabin _ _).refresh
  | dispatched pf => exact (h.beginClosing pf _).refresh
  | queued | unqueued => exact h.keep rfl fun _ => rfl
  | unassigned pf =>
    unfold State.cancelAssigned
    split
    · exact (h.setVisit pf _).keep rfl fun _ => rfl
    · exact h
  | edited | swapAsked => exact h.plans (planEnd_setStandby _ _)
  | stopRequested pf => exact (h.formStop pf _).refresh
  | operatorHeld g => exact h.operatorHold g
  | released src => exact (h.keepCondition src (f := HoldRecord.released) fun _ => rfl).refresh
  | locked | saving | taken => exact h.keep rfl fun _ => rfl
  | stored i judged => exact (h.storeItem judged).refresh
  | reported d => exact h.driveReport d
  | advanced n => exact (h.setPark _).refresh

/-! ## Timers and restarts -/

theorem OwnedBut.warmRestart {s : State} (h : OwnedBut [] s) (cause : RestartCause) : OwnedBut [] (s.warmRestart cause) := by
  have struck : OwnedBut [.doorLate] s.restartBlocks := by
    refine h.open .doorLate rfl fun other ne => ?_
    cases other with
    | doorLate => exact absurd rfl ne
    | _ => rfl
  unfold State.warmRestart
  dsimp only
  exact (((((struck.formDoorLate.judgeAway).command _ _).command _ _).restartSilence.append _).deliverEvent _ _).refresh

theorem ownedBut_powerOn (s : State) (openA openB : Bool) (rate : Rate) : OwnedBut [] (s.powerOn openA openB rate) := by
  have started (x : Settings) (cabins : List Cabin) : OwnedBut [] (s.started x cabins openA openB rate) := by
    intro src _
    cases src <;> cases openA <;> cases openB <;> rfl
  unfold State.powerOn
  split
  · exact (started _ _).refresh
  · exact ((started _ _).append _).refresh

theorem OwnedBut.endSave {but : List Source} {s : State} (h : OwnedBut but s) (passed : Bool) :
    OwnedBut but (s.endSave passed) := by
  unfold State.endSave
  split
  · exact h
  · refine OwnedBut.append ?_ _
    exact h.keep rfl fun _ => rfl

theorem OwnedBut.driveSilence {but : List Source} {s : State} (h : OwnedBut but s) : OwnedBut but s.driveSilence := by
  unfold State.driveSilence
  split
  · exact ((h.openSilence none true).setCondition fun _ => rfl).refresh
  · exact h

theorem OwnedBut.effect {s t : State} (h : OwnedBut [] s) (e : Effect s t) : OwnedBut [] t := by
  cases e with
  | answered a => exact h.answered a
  | port | queue | restartDue | millisecond | pulse | scanStart => exact h.keep rfl fun src => by cases src <;> rfl
  | blinkToggle | sequenceStart | sequenceEnd | refreshExpiry | shut => exact h.keep rfl fun src => by cases src <;> rfl
  | forwardTick => exact h.forwardTick.refresh
  | reverseTick => exact h.reverseTick.refresh
  | indexEdge => exact h.takenEdge.refresh
  | windowEnd => exact h.windowEnd.refresh
  | scanEnd pattern contacts => exact (h.endScan pattern contacts).refresh
  | actuatorExpiry pf => exact (h.expireActuator pf).refresh
  | lineTaken pf => exact (h.formStop pf _).refresh
  | driveSilence => exact h.driveSilence
  | saveDone passed => exact h.endSave passed
  | warmRestart cause => exact h.warmRestart cause
  | powerOn openA openB rate => exact ownedBut_powerOn s openA openB rate

/-- Every effect keeps each condition grade its owner's (R136). -/
theorem owned_effect {s t : State} (e : Effect s t) (h : ConditionsOwned s) : ConditionsOwned t :=
  (ownedBut_nil_iff t).mp (((ownedBut_nil_iff s).mpr h).effect e)

end Sys2Proof.StatusLoop
end

section
/-! R50, R51: the away set is the one the state judges, after every effect. What the judging reads is named once,
`awayReads`; an effect either leaves it or judges the set again. -/

namespace Sys2Proof.StatusLoop

open Machine CabinTable

/-! ## What the judging reads -/

/-- Clauses 1 and 4 of R50: what the away set reads of a cabin's record. -/
def mayBeAway (c : Cabin) : Bool := (c.door = .closed || c.door = .opened) && c.inVisit.isNone

/-- The away set that stands, and what its judging reads (R50). -/
def awayReads (s : State) : List Nat × (Bool × Nat × Points) × (Nat × Nat) × List Bool :=
  (s.loop.away, (s.position.verified, s.position.theta, s.position.points), (s.geometry.p, s.geometry.pitch),
    s.cabins.map mayBeAway)

theorem isAway_eq (s : State) (k : Nat) (c : Cabin) :
    s.isAway k c = (mayBeAway c && (s.position.verified && s.clearOf k .a && s.clearOf k .b)) := by
  unfold State.isAway mayBeAway
  simp only [Bool.and_assoc, Bool.and_comm, Bool.and_left_comm]

theorem awaySet_congr {s t : State} (h : awayReads t = awayReads s) : t.awaySet = s.awaySet := by
  simp only [awayReads, Prod.mk.injEq] at h
  obtain ⟨-, ⟨verified, theta, points⟩, ⟨p, pitch⟩, cabins⟩ := h
  have clear (k : Nat) (pf : Platform) : t.clearOf k pf = s.clearOf k pf := by
    unfold State.clearOf State.phaseAt
    rw [theta, points, p, pitch]
  have length : t.cabins.length = s.cabins.length := by simpa using congrArg List.length cabins
  have judged (u : State) (k : Nat) : ((u.cabins[k]?).map (u.isAway k)).getD false =
      (((u.cabins.map mayBeAway)[k]?).getD false && (u.position.verified && u.clearOf k .a && u.clearOf k .b)) := by
    rw [List.getElem?_map]
    cases u.cabins[k]? with
    | none => rfl
    | some c => exact isAway_eq u k c
  unfold State.awaySet
  rw [length]
  refine List.filter_congr fun k _ => ?_
  rw [judged, judged, cabins, verified, clear, clear]

/-- The away set stands as R50 and R51 judge it exactly when it is the set of its judging: an ascending list is given by
its members. -/
theorem awayJudged_iff (s : State) : AwayJudged s ↔ s.loop.away = s.awaySet := by
  have ascending : s.awaySet.Pairwise (· < ·) := List.pairwise_lt_range.filter _
  have members (k : Nat) : k ∈ s.awaySet ↔ ∃ c, s.cabins[k]? = some c ∧ AwayCabin s k c := by
    simp only [State.awaySet, List.mem_filter, List.mem_range, ← isAway_iff]
    constructor
    · rintro ⟨lt, away⟩
      have hc : s.cabins[k]? = some s.cabins[k] := List.getElem?_eq_getElem lt
      exact ⟨_, hc, by simpa [hc] using away⟩
    · rintro ⟨c, hc, away⟩
      exact ⟨(List.getElem?_eq_some_iff.mp hc).1, by simpa [hc] using away⟩
  constructor
  · rintro ⟨sorted, mem⟩
    refine List.Perm.eq_of_pairwise' sorted ascending ?_
    exact (List.perm_ext_iff_of_nodup (sorted.imp ne_of_lt) (ascending.imp ne_of_lt)).mpr fun k =>
      (mem k).trans (members k).symm
  · intro e
    unfold AwayJudged
    rw [e]
    exact ⟨ascending, members⟩

theorem awayJudged_congr {s t : State} (h : awayReads t = awayReads s) (judged : AwayJudged s) : AwayJudged t := by
  rw [awayJudged_iff] at judged ⊢
  rw [awaySet_congr h, ← judged]
  exact congrArg Prod.fst h

/-! ## What leaves it -/

theorem awayReads_reaction {s t : State} (r : Reaction s t) : awayReads t = awayReads s := by
  unfold awayReads State.geometry
  rw [r.loop, r.position, r.store, r.cabins]

theorem awayJudged_reaction {s t : State} (r : Reaction s t) (h : AwayJudged s) : AwayJudged t :=
  awayJudged_congr (awayReads_reaction r) h

theorem awayJudged_refresh {s : State} (h : AwayJudged s) : AwayJudged s.refresh := awayJudged_congr (s := s) rfl h

/-- After the judging the set stands as judged. -/
theorem awayJudged_judgeAway (s : State) : AwayJudged s.judgeAway := by
  unfold State.judgeAway
  refine awayJudged_reaction (State.setCondition_reaction _ _ _) ?_
  rw [awayJudged_iff]
  rfl

theorem map_modifyCabin {α : Type} {s : State} {k : Nat} {f : Cabin → Cabin} {g : Cabin → α}
    (same : ∀ c, s.cabins[k]? = some c → g (f c) = g c) : (s.modifyCabin k f).cabins.map g = s.cabins.map g := by
  refine List.ext_getElem? fun i => ?_
  rw [State.modifyCabin_cabins, List.getElem?_map, List.getElem?_map, List.getElem?_modify]
  cases hc : s.cabins[i]? with
  | none => rfl
  | some c =>
    by_cases e : k = i
    · subst e
      simp [same c hc]
    · simp [e]

/-- A cabin changed apart from its door and its visit. -/
theorem awayReads_modifyCabin (s : State) (k : Nat) {f : Cabin → Cabin}
    (same : ∀ c, s.cabins[k]? = some c → mayBeAway (f c) = mayBeAway c) :
    awayReads (s.modifyCabin k f) = awayReads s := by
  unfold awayReads
  rw [map_modifyCabin same]
  rfl

theorem awayReads_recount (s : State) : awayReads s.recount = awayReads s :=
  awayReads_reaction (s := { s with unload := { s.unload with occupied := occupiedCount s.cabins } })
    (State.judgeUnload_reaction _)

theorem awayReads_writeCabin (s : State) (k : Nat) {f : Cabin → Cabin}
    (same : ∀ c, s.cabins[k]? = some c → mayBeAway (f c) = mayBeAway c) : awayReads (s.writeCabin k f) = awayReads s :=
  (awayReads_recount _).trans (awayReads_modifyCabin s k same)

/-- A visit that ends with its cabin's door latched. -/
theorem awayReads_endVisit {s : State} (pf : Platform) {v : Visit} (latched : s.doorOf v.cabin = .latched) :
    awayReads (s.endVisit pf v) = awayReads s := by
  have cabins : (s.endInCabin v).cabins.map mayBeAway = s.cabins.map mayBeAway := by
    unfold State.endInCabin
    split
    · rfl
    · refine map_modifyCabin fun c hc => ?_
      have door : c.door = .latched := by
        unfold State.doorOf at latched
        rwa [hc] at latched
      simp [mayBeAway, visitEnd_door, door]
  have ended : awayReads (endedVisit s pf v) = awayReads s := by
    unfold awayReads
    exact congrArg (fun flags => (s.loop.away, (s.position.verified, s.position.theta, s.position.points),
      (s.geometry.p, s.geometry.pitch), flags)) cabins
  rw [endVisit_eq]
  split
  · exact (awayReads_reaction (State.formDoorLate_reaction _)).trans ended
  · exact ended

/-- CLOSING ends a visit only with its door latched (R70, R77, R80). -/
theorem awayReads_beginClosing (s : State) (pf : Platform) (v : Visit) :
    awayReads (s.beginClosing pf v) = awayReads s := by
  rw [beginClosing_eq]
  split
  · next latched =>
    split
    · exact (awayReads_endVisit (s := visited (s.command pf .close) pf _ _) (v := { v with state := .closing, retries := 0 })
        pf latched).trans rfl
    · rfl
  · rfl

theorem awayReads_expireActuator (s : State) (pf : Platform) : awayReads (s.expireActuator pf) = awayReads s := by
  unfold State.expireActuator
  split
  · split
    · exact awayReads_beginClosing s pf _
    · split <;> rfl
    · rfl
    · rfl
    · rfl
  · rfl
  · rfl

/-! ## The configuration -/

/-- Only the items N and P write the two. -/
theorem wheel_write (x : Settings) {i : Item} (v : Nat) (n : i ≠ .n) (p : i ≠ .p) :
    (x.write i v).geometry.p = x.geometry.p ∧ (x.write i v).geometry.pitch = x.geometry.pitch := by
  cases i with
  | n => exact absurd rfl n
  | p => exact absurd rfl p
  | permit k => cases k <;> exact ⟨rfl, rfl⟩
  | park =>
    unfold Settings.write Geometry.withItem
    cases Platform.ofCode v <;> exact ⟨rfl, rfl⟩
  | role pf =>
    unfold Settings.write Geometry.withItem
    cases Role.ofCode v <;> exact ⟨rfl, rfl⟩
  | _ => exact ⟨rfl, rfl⟩

theorem awayReads_setSettings {s : State} {x : Settings} (p : x.geometry.p = s.geometry.p)
    (pitch : x.geometry.pitch = s.geometry.pitch) : awayReads (s.setSettings x) = awayReads s := by
  show (_, _, (x.geometry.p, x.geometry.pitch), _) = (_, _, (s.geometry.p, s.geometry.pitch), _)
  rw [p, pitch]
  rfl

theorem awayJudged_storeItem {s : State} (h : AwayJudged s) (i : Item) (v : Nat) : AwayJudged (s.storeItem i v) := by
  have stored (n : i ≠ .n) (p : i ≠ .p) : AwayJudged (s.setSettings (s.settings.write i v)) :=
    let ⟨keptP, pitch⟩ := wheel_write s.settings v n p
    awayJudged_congr (awayReads_setSettings keptP pitch) h
  unfold State.storeItem
  split
  · exact h
  · cases i with
    | n => exact awayJudged_judgeAway _
    | p => exact awayJudged_judgeAway _
    | auto src => exact awayJudged_reaction (State.changeSource_reaction _ src fun r => r.switchAuto _) (stored nofun nofun)
    | programmed src => exact awayJudged_reaction (State.formProgrammed_reaction _ src _) (stored nofun nofun)
    | _ => exact stored nofun nofun

/-! ## The effects -/

theorem mayBeAway_congr {c d : Cabin} (door : d.door = c.door) (visit : d.inVisit = c.inVisit) :
    mayBeAway d = mayBeAway c := by
  unfold mayBeAway
  rw [door, visit]

theorem applyService_door (c : Cabin) (a : ServiceAction) : (c.applyService a).door = c.door := by
  cases a with
  | restore => rfl
  | withdraw =>
    unfold Cabin.applyService
    cases c.service <;> rfl

/-- The figures of a stop condition written, and the condition formed (R146, R147). -/
theorem awayJudged_formStop {s : State} (pf : Platform) (x : StopLine) (h : AwayJudged s) :
    AwayJudged (State.formStop { s with stops := s.stops.set pf x } pf) := by
  have written : AwayJudged { s with stops := s.stops.set pf x } := awayJudged_congr (s := s) rfl h
  exact awayJudged_reaction (State.formStop_reaction _ pf) written

theorem awayJudged_restartSilence {s : State} (h : AwayJudged s) : AwayJudged s.restartSilence := by
  have written : AwayJudged
      { s with permit := { s.permit with silenceTimer := some s.settings.silenceTime, driveSilent := false } } :=
    awayJudged_congr (s := s) rfl h
  exact awayJudged_reaction (State.setCondition_reaction _ _ _) written

theorem awayReads_crossCheck (s : State) : awayReads s.crossCheck = awayReads s := by
  unfold State.crossCheck
  split
  · rfl
  · split
    · refine (awayReads_reaction (State.formProgrammed_reaction _ _ _)).trans ?_
      unfold Position.crossChecked
      split <;> rfl
    · rfl

/-- The steps of a drive report ahead of the cross-check (R155, R157). -/
theorem awayJudged_driveFields {s : State} (d : DriveRecord) (fault : Bool) (h : AwayJudged s) :
    AwayJudged ((s.takeDriveRecord d).formDriveFault fault) := by
  have taken : AwayJudged { s with permit := { s.permit with drive := d, sinceReport := 0 } } :=
    awayJudged_congr (s := s) rfl h
  have restarted := awayJudged_restartSilence taken
  unfold State.takeDriveRecord State.formDriveFault
  generalize State.restartSilence _ = u at restarted ⊢
  have written : AwayJudged { u with permit := { u.permit with driveFault := fault } } :=
    awayJudged_congr (s := u) rfl restarted
  exact awayJudged_reaction (State.setCondition_reaction _ _ _) written

theorem awayJudged_answered {s t : State} (a : Answered s t) (h : AwayJudged s) : AwayJudged t := by
  cases a with
  | kept => exact h
  | gate k g =>
    refine awayJudged_congr (awayReads_modifyCabin s k fun c _ => mayBeAway_congr ?_ (takeGate_inVisit c g)) h
    unfold Cabin.takeGate Cabin.applyGate
    split
    · rfl
    · cases g <;> rfl
  | service k a =>
    refine awayJudged_congr (awayReads_modifyCabin s k fun c _ => mayBeAway_congr ?_ (takeService_inVisit c a)) h
    unfold Cabin.takeService
    split
    · rfl
    · exact applyService_door c a
  | configured k => exact awayJudged_congr (awayReads_modifyCabin s k fun c _ => rfl) h
  | declared k count =>
    refine awayJudged_congr (awayReads_writeCabin s k fun c _ => ?_) h
    unfold Cabin.declare
    split <;> rfl
  | alighted pf count =>
    refine awayJudged_congr ((awayReads_reaction (State.assignIfDue_reaction _ pf)).trans ?_) h
    refine awayReads_writeCabin (s.setVisit pf _) _ fun c _ => ?_
    unfold Cabin.alightTo
    split <;> rfl
  | boarded pf tag count =>
    refine awayJudged_congr (awayReads_writeCabin (s.setVisit pf _) _ fun c _ => ?_) h
    unfold Cabin.boardTo
    split <;> rfl
  | dispatched pf => exact awayJudged_congr (awayReads_beginClosing s pf _) h
  | queued | unqueued | edited | swapAsked | locked | saving | taken => exact awayJudged_congr (s := s) rfl h
  | unassigned pf =>
    refine awayJudged_congr ?_ h
    unfold State.cancelAssigned
    split <;> rfl
  | stopRequested pf =>
    exact awayJudged_refresh (awayJudged_formStop pf _ h)
  | operatorHeld g => exact awayJudged_refresh (awayJudged_reaction (State.setCondition_reaction _ _ _) h)
  | released src =>
    exact awayJudged_refresh (awayJudged_reaction (State.changeSource_reaction s src HoldRecord.released) h)
  | stored i => exact awayJudged_refresh (awayJudged_storeItem h i _)
  | reported d => exact awayJudged_refresh (awayJudged_congr (awayReads_crossCheck _) (awayJudged_driveFields d _ h))
  | advanced n => exact awayJudged_congr (s := s) rfl h

theorem awayJudged_warmRestart (s : State) (cause : RestartCause) : AwayJudged (s.warmRestart cause) := by
  unfold State.warmRestart
  dsimp only
  have judged := awayJudged_judgeAway s.restartBlocks.formDoorLate
  generalize State.judgeAway _ = u at judged ⊢
  have closed : AwayJudged ((u.command .a .close).command .b .close) := awayJudged_congr (s := u) rfl judged
  have recorded := awayJudged_reaction (State.logPlain_reaction _ .restarted (restartValue cause))
    (awayJudged_restartSilence closed)
  exact awayJudged_refresh (awayJudged_reaction (State.deliverEvent_reaction _ .restart .stop) recorded)

/-- At a power-on no door is known, and the away set is empty (R187). -/
theorem awayJudged_powerOn (s : State) (openA openB : Bool) (rate : Rate) : AwayJudged (s.powerOn openA openB rate) := by
  have started (x : Settings) (cabins : List Cabin) : AwayJudged (s.started x cabins openA openB rate) := by
    refine (awayJudged_iff _).mpr ((awaySet_eq_nil_iff _).mpr ?_).symm
    rintro k c hc ⟨-, verified, -⟩
    cases verified
  unfold State.powerOn
  split
  · exact awayJudged_refresh (started _ _)
  · exact awayJudged_refresh (awayJudged_reaction (State.logPlain_reaction _ _ _) (started _ _))

theorem awayJudged_takenEdge (s : State) : AwayJudged s.takenEdge := by
  unfold State.takenEdge
  split
  · dsimp only
    split
    · exact awayJudged_judgeAway _
    · exact awayJudged_judgeAway _
  · exact awayJudged_judgeAway _

theorem awayJudged_endScan {s : State} (h : AwayJudged s) (pattern : Byte) (contacts : List Bool) :
    AwayJudged (s.endScan pattern contacts) := by
  unfold State.endScan
  split
  · exact h
  · exact awayJudged_judgeAway _

/-- The window's end shifts the tick counts; the wind and its sources are apart (R12, R119). -/
theorem awayReads_windowEnd (s : State) : awayReads s.windowEnd = awayReads s := by
  have logged (u : State) (k : Sensor) (c : SensorChange) : awayReads (u.logSensor k c) = awayReads u := by
    cases c with
    | same => rfl
    | stalled | overran | recovered => exact awayReads_reaction (State.append_reaction _ _)
  have parked : awayReads (State.parkedTest { s with position := s.position.closeWindow }) = awayReads s :=
    (awayReads_reaction (State.parkedTest_reaction _)).trans rfl
  unfold State.windowEnd State.windWindow
  generalize State.parkedTest _ = u at parked ⊢
  dsimp only
  have closed : awayReads { u with wind := u.wind.closeWindows u.settings.factors } = awayReads u := rfl
  generalize ({ u with wind := _ } : State) = w at closed ⊢
  have tested : awayReads w.testSensors = awayReads w := (logged _ _ _).trans ((logged _ _ _).trans rfl)
  generalize w.testSensors = x at tested ⊢
  have formed : awayReads (State.formProgrammed { x with wind := x.wind.combine } .windSensor x.wind.combine.sensorCondition)
      = awayReads x := (awayReads_reaction (State.formProgrammed_reaction _ _ _)).trans rfl
  generalize State.formProgrammed _ _ _ = y at formed ⊢
  have judged : awayReads y.judgeClass = awayReads y := by
    unfold State.judgeClass State.changeClass
    dsimp only
    split
    · rfl
    · exact (awayReads_reaction ((State.append_reaction _ _).trans (State.setCondition_reaction _ _ _))).trans rfl
  rw [judged, formed, tested, closed, parked]

theorem awayJudged_effect {s t : State} (e : Effect s t) (h : AwayJudged s) : AwayJudged t := by
  cases e with
  | answered a => exact awayJudged_answered a h
  | port | queue | restartDue | millisecond | pulse | scanStart => exact awayJudged_congr (s := s) rfl h
  | blinkToggle | sequenceStart | sequenceEnd | refreshExpiry | shut => exact awayJudged_congr (s := s) rfl h
  | forwardTick | reverseTick => exact awayJudged_refresh (awayJudged_judgeAway _)
  | indexEdge => exact awayJudged_refresh (awayJudged_takenEdge s)
  | windowEnd => exact awayJudged_refresh (awayJudged_congr (awayReads_windowEnd s) h)
  | scanEnd pattern contacts => exact awayJudged_refresh (awayJudged_endScan h pattern contacts)
  | actuatorExpiry pf => exact awayJudged_refresh (awayJudged_congr (awayReads_expireActuator s pf) h)
  | lineTaken pf => exact awayJudged_refresh (awayJudged_formStop pf _ h)
  | driveSilence =>
    unfold State.driveSilence
    split
    · have silent : AwayJudged { s with permit := { s.permit with silenceTimer := none, driveSilent := true } } :=
        awayJudged_congr (s := s) rfl h
      exact awayJudged_refresh (awayJudged_reaction (State.setCondition_reaction _ _ _) silent)
    · exact h
  | saveDone passed =>
    unfold State.endSave
    split
    · exact h
    · refine awayJudged_reaction (State.logPlain_reaction _ _ _) ?_
      exact awayJudged_congr (s := s) rfl h
  | warmRestart cause => exact awayJudged_warmRestart s cause
  | powerOn openA openB rate => exact awayJudged_powerOn s openA openB rate

/-! ## Every step -/

/-- Settles O11: every effect of a step keeps both, the conditions through `OwnedBut`, the away set through `awayReads`. -/
theorem conditionsStayOwned : Obligations.ConditionsStayOwned := by
  unfold Obligations.ConditionsStayOwned
  refine fun s t => ⟨fun owned e => ?_, fun judged e => step_keeps (fun _ _ => awayJudged_effect) e judged⟩
  have kept : ConditionsOwned t := step_keeps (fun _ _ => owned_effect) e owned
  exact ⟨kept, kept .powerOn, kept .restart, kept .reverse, kept .berthMiss, kept .parkOvershoot, kept .windSensor,
    kept .platformStopA, kept .platformStopB, kept .loopFault, kept .disagree, kept .planEnd⟩

end Sys2Proof.StatusLoop
end

section
/-! A scan that has failed (R41, R43, R44): every contact unknown, the SECURED visits opened to CLOSING again (R72), and what
LOOP_FAULT and the away set set off. -/

namespace Sys2Proof.StatusLoop

open Machine CabinTable

/-! ## The visits with every contact unknown -/

/-- A Sequencer whose cabin's door, in the state `before` the change, comes to be unknown: a SECURED visit with the door
LATCHED returns to CLOSING (R72). -/
def reopened (q : Sequencer) (before : Nat → DoorState) (actuatorTime : Nat) : Sequencer :=
  match q.current with
  | none => q
  | some v =>
    if v.state = .secured ∧ before v.cabin = .latched then
      { q with current := some { v with state := .closing }, actuatorTimer := some actuatorTime }
    else q

theorem feedBack_unknown {s : State} {pf : Platform} {before : Nat → DoorState} {door : DoorState}
    (doors : ∀ k, s.doorOf k = .unknown) (position : (s.loop.berths.get pf).position = .unknown)
    (was : ∀ v, (s.sequencers.get pf).current = some v → before v.cabin = door) :
    s.feedBack pf door = { s with
      sequencers := s.sequencers.set pf (reopened (s.sequencers.get pf) before s.settings.actuatorTime) } := by
  have still : ({ s with sequencers := s.sequencers.set pf (s.sequencers.get pf) } : State) = s := by rw [set_get_self]
  unfold State.feedBack reopened
  cases visit : (s.sequencers.get pf).current with
  | none => exact still.symm
  | some v =>
    have shut : s.doorOf v.cabin ≠ .latched := by simp [doors]
    cases state : v.state with
    | opening =>
      have apart : s.testOpen pf v = s := if_neg (by simp [position])
      simpa [apart, state] using still.symm
    | closing =>
      have apart : s.testLatched pf v = s := if_neg (by simp [shut])
      simpa [apart, state] using still.symm
    | secured =>
      simp only [setVisit_startTimer, was v visit, state, shut, true_and, not_false_eq_true, and_true, ne_eq]
      by_cases latched : door = .latched
      · rw [if_pos latched, if_pos latched]
        rfl
      · rw [if_neg latched, if_neg latched]
        exact still.symm
    | passing => simpa [state] using still.symm
    | opened => simpa [state] using still.symm

/-! ## The contacts with every one unknown -/

theorem fail_conflict (x : Loop) (k : Nat) : ((x.fail.cabins[k]?).map LoopCabin.conflict).getD false = false := by
  show (((x.cabins.map fun _ => LoopCabin.unreported)[k]?).map LoopCabin.conflict).getD false = false
  rw [List.getElem?_map]
  cases x.cabins[k]? <;> rfl

/-- No conflict begins (R47). -/
theorem begunConflicts_fail (clock : Word) (x : Loop) : begunConflicts clock x x.fail = [] := by
  have cabin (k : Nat) : cabinConflict clock x x.fail k = [] := by
    unfold cabinConflict
    rw [fail_conflict]
    rfl
  have berth (pf : Platform) : berthConflict clock x x.fail pf = [] := by
    unfold berthConflict
    cases pf <;> rfl
  unfold begunConflicts
  rw [berth, berth, List.append_nil, List.append_nil, List.flatMap_eq_nil_iff]
  exact fun k _ => cabin k

/-- The cabins with every door unknown (R44, R46). -/
def darkened (cabins : List Cabin) : List Cabin := cabins.map fun c => { c with door := .unknown }

/-- Every contact and every door unknown, the visits as they stand. -/
def contactsLost (s : State) : State := { s with loop := s.loop.fail, cabins := darkened s.cabins }

theorem writeDoors_fail (s : State) : State.writeDoors { s with loop := s.loop.fail } = contactsLost s := by
  have door (k : Nat) : ((s.loop.fail.cabins[k]?).map LoopCabin.door).getD .unknown = .unknown := by
    show (((s.loop.cabins.map fun _ => LoopCabin.unreported)[k]?).map LoopCabin.door).getD .unknown = .unknown
    rw [List.getElem?_map]
    cases s.loop.cabins[k]? <;> rfl
  have cabins : (s.cabins.mapIdx fun k c =>
      { c with door := ((s.loop.fail.cabins[k]?).map LoopCabin.door).getD .unknown }) = darkened s.cabins := by
    refine List.ext_getElem? fun k => ?_
    rw [List.getElem?_mapIdx, darkened, List.getElem?_map]
    simp only [door]
  unfold State.writeDoors contactsLost
  rw [cabins]

theorem doorOf_darkened {s t : State} (cabins : t.cabins = darkened s.cabins) (k : Nat) : t.doorOf k = .unknown := by
  rw [doorOf_eq, cabins, darkened, List.getElem?_map]
  cases s.cabins[k]? <;> rfl

theorem visitDoor_eq {s : State} {pf : Platform} {v : Visit} (visit : (s.sequencers.get pf).current = some v) :
    s.visitDoor pf = s.doorOf v.cabin := by
  unfold State.visitDoor
  rw [visit]

/-- The contacts of a loop that has failed, taken (R44, R46, R72). -/
theorem takeContacts_fail (s : State) :
    s.takeContacts s.loop.fail = { contactsLost s with
      sequencers := { a := reopened s.sequencers.a s.doorOf s.settings.actuatorTime
                      b := reopened s.sequencers.b s.doorOf s.settings.actuatorTime } } := by
  have fed (u : State) (pf : Platform) (loop : u.loop = s.loop.fail) (cabins : u.cabins = darkened s.cabins)
      (store : u.store = s.store) (current : u.sequencers.get pf = s.sequencers.get pf) :
      u.feedBack pf (s.visitDoor pf) = { u with
        sequencers := u.sequencers.set pf (reopened (s.sequencers.get pf) s.doorOf s.settings.actuatorTime) } := by
    have position : (u.loop.berths.get pf).position = .unknown := by
      rw [loop]
      cases pf <;> rfl
    have settings : u.settings = s.settings := congrArg Store.working store
    rw [feedBack_unknown (before := s.doorOf) (doorOf_darkened cabins) position fun v visit =>
      (visitDoor_eq (current ▸ visit)).symm, current, settings]
  rw [takeContacts_eq, begunConflicts_fail, List.foldl_nil, writeDoors_fail,
    fed (contactsLost s) .a rfl rfl rfl rfl]
  exact fed _ .b rfl rfl rfl rfl

/-! ## LOOP_FAULT -/

theorem setCondition_cond (s : State) (src : Source) (g : Grade) :
    ((s.setCondition src g).holds.table.get src).cond = g := by
  unfold State.setCondition
  split
  · next same => exact same
  · rw [State.changeSource_holds]
    dsimp only
    rw [HoldTable.get_set_same]
    rfl

theorem setCondition_visits {s : State} {src : Source} {g : Grade}
    (above : (s.setCondition src g).holds.held.atLeast .unload = true) :
    (s.setCondition src g).sequencers = s.sequencers ∧ (s.setCondition src g).queues = s.queues := by
  unfold State.setCondition at *
  split
  · exact ⟨rfl, rfl⟩
  · next differs =>
    rw [if_neg differs] at above
    exact State.changeSource_visits s src _ above

/-- No condition stands above the held grade (R137). -/
theorem cond_le_held {s : State} (h : HoldsDerived s) (src : Source) :
    (s.holds.table.get src).cond.value ≤ s.holds.held.value := by
  obtain ⟨records, held⟩ := h
  obtain ⟨peak, latched⟩ := records src
  have latch : (s.holds.table.get src).cond.value ≤ (s.holds.table.get src).latched.value := by
    rw [latched, latchOf]
    split <;> rw [Grade.value_max]
    · exact Nat.le_max_left ..
    · exact peak.trans (Nat.le_max_left ..)
  rw [held]
  exact latch.trans (latched_le_heldGrade _ src)

theorem awaySet_darkened {s : State} {xs : List Cabin} (cabins : s.cabins = darkened xs) : s.awaySet = [] := by
  rw [awaySet_eq_nil_iff]
  rintro k c hc ⟨door, -⟩
  rw [cabins, darkened, List.getElem?_map] at hc
  obtain ⟨d, -, rfl⟩ := Option.map_eq_some_iff.mp hc
  simp at door

/-! ## The failed scan -/

/-- The failed scan over and counted (R43). -/
def failureCounted (s : State) : State :=
  { s with loop := { s.loop with scan := none, failedCount := min 32767 (s.loop.failedCount + 1) } }

/-- The loop taken, ahead of LOOP_FAULT's condition (R44). -/
def loopTaken (s : State) : State :=
  let u := (failureCounted s).append (plainRecord s .loopFault 2)
  u.takeContacts u.loop.fail

/-- The second failed scan in a row, ahead of the away set: LOOP_FAULT's condition is set (R44). -/
def loopFaulted (s : State) : State := (loopTaken s).setCondition .loopFault ((loopTaken s).programmed .loopFault)

theorem endScan_failed {s : State} {pattern : Byte} {contacts : List Bool} {x : ScanInProgress} (scan : s.loop.scan = some x)
    (bad : pattern ≠ Config.checkPattern ∨ contacts.length ≠ 2 * x.cabins + 4) :
    s.endScan pattern contacts = State.judgeAway (if min 32767 (s.loop.failedCount + 1) = 2 then loopFaulted s
      else failureCounted s) := by
  have failed : scanGood x.cabins pattern contacts = false := by
    unfold scanGood
    rcases bad with bad | bad <;> simp [bad]
  unfold State.endScan
  rw [scan]
  dsimp only
  rw [failed]
  rfl

theorem exec_scanEnd {s : State} (running : s.phase = .running) {x : ScanInProgress} (scan : s.loop.scan = some x)
    (pattern : Byte) (contacts : List Bool) :
    exec (.scanEnd pattern contacts) s = .next (s.endScan pattern contacts).refresh := by
  show s.running _ = _
  rw [State.running_of running, scan]
  rfl

theorem loopTaken_eq (s : State) :
    loopTaken s = { s with
      loop := (failureCounted s).loop.fail, cabins := darkened s.cabins
      events := (s.append (plainRecord s .loopFault 2)).events
      sequencers := { a := reopened s.sequencers.a s.doorOf s.settings.actuatorTime
                      b := reopened s.sequencers.b s.doorOf s.settings.actuatorTime } } := by
  have noted : (failureCounted s).append (plainRecord s .loopFault 2) =
      { failureCounted s with events := (s.append (plainRecord s .loopFault 2)).events } :=
    append_eq_of_events (s := s) (t := failureCounted s) rfl _
  unfold loopTaken
  dsimp only
  rw [takeContacts_fail, noted]
  rfl

/-- A failed scan that is not the second in a row counts, and the away set is judged (R43). -/
theorem holdFrame_judgeAway (s : State) :
    HoldFrame { s with loop := { s.loop with away := s.judgeAway.refresh.loop.away } } s.judgeAway.refresh [.doorAway] := by
  have away : s.judgeAway.refresh.loop.away = s.awaySet := by
    show s.judgeAway.loop.away = _
    unfold State.judgeAway
    dsimp only
    rw [(State.setCondition_reaction _ _ _).loop]
  rw [away]
  exact holdFrame_setCondition (withAway s) .doorAway _

theorem loopFaulted_reaction (s : State) : Reaction (loopTaken s) (loopFaulted s) := State.setCondition_reaction _ _ _

/-! ### The away set judged -/

theorem judgeAway_reaction (s : State) : Reaction (withAway s) s.judgeAway := State.setCondition_reaction _ _ _

theorem judgeAway_kept (s : State) :
    s.judgeAway.cabins = s.cabins ∧ s.judgeAway.position = s.position ∧ s.judgeAway.plans = s.plans ∧
    s.judgeAway.wind = s.wind ∧ s.judgeAway.store = s.store ∧ s.judgeAway.ports = s.ports :=
  have r := judgeAway_reaction s
  ⟨r.cabins, r.position, r.plans, r.wind, r.store, r.ports⟩

theorem judgeAway_loop (s : State) : s.judgeAway.loop = { s.loop with away := s.awaySet } := (judgeAway_reaction s).loop

theorem judgeAway_recorded (s : State) : ∃ xs, Recorded s s.judgeAway xs := by
  obtain ⟨xs, recorded⟩ := (judgeAway_reaction s).events
  exact ⟨xs, recorded_congr recorded rfl⟩

theorem judgeAway_visits (s : State) (pf : Platform) :
    apartFromAssignment (s.judgeAway.sequencers.get pf) = apartFromAssignment (s.sequencers.get pf) :=
  (judgeAway_reaction s).visits pf

theorem judgeAway_source (s : State) {src : Source} (ne : src ≠ .doorAway) :
    s.judgeAway.holds.table.get src = s.holds.table.get src := setCondition_other (withAway s) _ ne

theorem judgeAway_holdsDerived {s : State} (h : HoldsDerived s) : HoldsDerived s.judgeAway :=
  holdsDerived_setCondition (s := withAway s) (holdsDerived_congr h rfl rfl) _ _

theorem judgeAway_unassigned {s : State} (above : s.judgeAway.holds.held.atLeast .unload = true) :
    s.judgeAway.sequencers = s.sequencers ∧ s.judgeAway.queues = s.queues :=
  setCondition_visits (s := withAway s) (src := .doorAway) above

/-! ### After LOOP_FAULT -/

theorem loopFaulted_loop (s : State) :
    (loopFaulted s).judgeAway.loop = { (failureCounted s).loop.fail with away := [] } := by
  have r := loopFaulted_reaction s
  have cabins : (loopFaulted s).cabins = darkened s.cabins := by rw [r.cabins, loopTaken_eq]
  rw [judgeAway_loop, awaySet_darkened cabins, r.loop, loopTaken_eq]

/-- What the reactions to the loop's failure leave. -/
theorem loopFaulted_kept (s : State) :
    let t := (loopFaulted s).judgeAway
    t.cabins = darkened s.cabins ∧ t.position = s.position ∧ t.plans = s.plans ∧ t.wind = s.wind ∧ t.store = s.store ∧
    t.ports = s.ports := by
  have r := loopFaulted_reaction s
  obtain ⟨cabins, position, plans, wind, store, ports⟩ := judgeAway_kept (loopFaulted s)
  dsimp only
  rw [cabins, position, plans, wind, store, ports, r.cabins, r.position, r.plans, r.wind, r.store, r.ports, loopTaken_eq]
  exact ⟨rfl, rfl, rfl, rfl, rfl, rfl⟩

theorem loopTaken_programmed (s : State) : (loopTaken s).programmed .loopFault = s.settings.programmed.loopFault := by
  rw [loopTaken_eq]
  rfl

theorem loopFaulted_cond (s : State) :
    ((loopFaulted s).holds.table.get .loopFault).cond = s.settings.programmed.loopFault := by
  rw [loopFaulted, setCondition_cond, loopTaken_programmed]

theorem loopFaulted_judged (s : State) :
    ((loopFaulted s).judgeAway.holds.table.get .loopFault).cond = s.settings.programmed.loopFault := by
  rw [judgeAway_source (src := .loopFault) _ nofun, loopFaulted_cond]

/-- LOOP_FAULT's record comes first (R44). -/
theorem loopFaulted_recorded (s : State) :
    ∃ more, Recorded s (loopFaulted s).judgeAway (plainRecord s .loopFault 2 :: more) := by
  obtain ⟨xs, first⟩ := (loopFaulted_reaction s).events
  obtain ⟨ys, second⟩ := judgeAway_recorded (loopFaulted s)
  have taken : Recorded s (loopTaken s) [plainRecord s .loopFault 2] := by
    rw [loopTaken_eq]
    rfl
  have after : Recorded (loopTaken s) (loopFaulted s).judgeAway (xs ++ ys) := recorded_trans first second
  have whole := recorded_trans taken after
  exact ⟨xs ++ ys, whole⟩

theorem loopTaken_sequencer (s : State) (pf : Platform) :
    (loopTaken s).sequencers.get pf = reopened (s.sequencers.get pf) s.doorOf s.settings.actuatorTime := by
  rw [loopTaken_eq]
  cases pf <;> rfl

/-- A reaction of LOOP_FAULT or of DOOR_AWAY changes a visit at most by an assignment. -/
theorem loopFaulted_visits (s : State) (pf : Platform) :
    apartFromAssignment ((loopFaulted s).judgeAway.sequencers.get pf) =
      apartFromAssignment (reopened (s.sequencers.get pf) s.doorOf s.settings.actuatorTime) := by
  rw [judgeAway_visits, (loopFaulted_reaction s).visits, loopTaken_sequencer]

/-- With LOOP_FAULT's grade at UNLOAD or above nothing is assigned (R66). -/
theorem loopFaulted_unassigned {s : State} (h : HoldsDerived s)
    (grade : s.settings.programmed.loopFault.atLeast .unload = true) :
    (loopFaulted s).judgeAway.sequencers = (loopTaken s).sequencers ∧ (loopFaulted s).judgeAway.queues = s.queues := by
  have above {u : State} (derived : HoldsDerived u)
      (cond : (u.holds.table.get .loopFault).cond = s.settings.programmed.loopFault) :
      u.holds.held.atLeast .unload = true := by
    have le := cond_le_held derived .loopFault
    rw [cond] at le
    simp only [Grade.atLeast, decide_eq_true_eq] at grade ⊢
    exact grade.trans le
  have taken : HoldsDerived (loopTaken s) := by
    rw [loopTaken_eq]
    exact holdsDerived_congr h rfl rfl
  have faulted : HoldsDerived (loopFaulted s) := holdsDerived_setCondition taken _ _
  obtain ⟨sequencers, queues⟩ := judgeAway_unassigned (above (judgeAway_holdsDerived faulted) (loopFaulted_judged s))
  obtain ⟨sequencers', queues'⟩ := setCondition_visits (s := loopTaken s) (src := .loopFault)
    (above faulted (loopFaulted_cond s))
  have kept : (loopTaken s).queues = s.queues := by rw [loopTaken_eq]
  exact ⟨sequencers.trans sequencers', queues.trans (queues'.trans kept)⟩

/-- Settles O55: a second failure is `loopTaken_eq` with the reactions of LOOP_FAULT and DOOR_AWAY after it. -/
theorem failedScansTakeTheLoop : Obligations.FailedScansTakeTheLoop := by
  unfold Obligations.FailedScansTakeTheLoop
  intro s pattern contacts running
  refine ⟨fun idle => ?_, fun x scan bad => ?_⟩
  · show s.running _ = _
    rw [State.running_of running, idle]
    rfl
  refine ⟨_, exec_scanEnd running scan pattern contacts, State.refresh_formed _, ?_⟩
  dsimp only
  rw [endScan_failed scan bad]
  refine ⟨fun other => ?_, fun second => ?_⟩
  · rw [if_neg other]
    exact holdFrame_judgeAway (failureCounted s)
  · rw [if_pos second]
    obtain ⟨cabins, position, plans, wind, store, ports⟩ := loopFaulted_kept s
    have loop := loopFaulted_loop s
    have cond := loopFaulted_judged s
    have recorded := loopFaulted_recorded s
    have visits := loopFaulted_visits s
    have unassigned := loopFaulted_unassigned (s := s)
    generalize (loopFaulted s).judgeAway = t at *
    refine ⟨loop.trans ?_, cabins, position, plans, wind, store, ports, cond, recorded, visits, fun derived grade => ?_⟩
    · unfold failureCounted
      rw [second]
      rfl
    · obtain ⟨sequencers, queues⟩ := unassigned derived grade
      exact ⟨queues, fun pf => (congrArg (fun x : PerPlatform Sequencer => x.get pf) sequencers).trans
        (loopTaken_sequencer s pf)⟩

end Sys2Proof.StatusLoop
end

section
/-! What the feedback of a scan does to the two Sequencers (R65, R70, R72, R77, R80), a reaction leaving a visit apart from
its assignment; and that nothing beside the conflicts of a scan records a CONTACT_CONFLICT (R47). -/

namespace Sys2Proof.StatusLoop

open Machine CabinTable

/-! ## No conflict recorded -/

/-- From `s` to `t` no CONTACT_CONFLICT is recorded. -/
abbrev NoConflict (s t : State) : Prop := RecordedOf s t [.contactConflict] []

theorem NoConflict.keep {s t : State} (events : t.events = s.events) : NoConflict s t := ⟨[], events, rfl⟩

theorem NoConflict.trans {s t u : State} (h : NoConflict s t) (k : NoConflict t u) : NoConflict s u :=
  RecordedOf.trans h k

theorem noConflict_append (s : State) {r : EventRecord} (other : r.kind ≠ .contactConflict) : NoConflict s (s.append r) :=
  .append_other s r (by simpa using other)

theorem noConflict_logLatch (s : State) (src : Source) (old new : Grade) : NoConflict s (s.logLatch src old new) := by
  unfold State.logLatch
  split
  · exact noConflict_append s nofun
  · split
    · exact noConflict_append s nofun
    · exact .keep rfl

theorem noConflict_judgeUnload (s : State) : NoConflict s s.judgeUnload := by
  have written (x : Unload) : NoConflict s { s with unload := x } := .keep rfl
  unfold State.judgeUnload
  dsimp only
  split
  · exact (written _).trans (noConflict_append _ nofun)
  · exact written _

theorem noConflict_parkedTest (s : State) : NoConflict s s.parkedTest := by
  have parked (r : Option ParkRecord) : NoConflict s (s.setPark r) := .keep rfl
  unfold State.parkedTest
  split
  · exact .keep rfl
  · split
    · exact (parked _).trans (noConflict_append _ nofun)
    · exact .keep rfl

theorem noConflict_parkOnChange (s : State) (old new : Grade) : NoConflict s (s.parkOnChange old new) := by
  have parked (r : Option ParkRecord) : NoConflict s (s.setPark r) := .keep rfl
  unfold State.parkOnChange
  split
  · exact (parked _).trans (noConflict_parkedTest _)
  · split <;> exact .keep rfl

theorem noConflict_assignIfDue (s : State) (pf : Platform) : NoConflict s (s.assignIfDue pf) := by
  rw [assignIfDue_eq, askedIfAllowed]
  split
  · exact .keep rfl
  · refine ⟨assignmentRecords s pf, State.appends_events (asked_kept s pf).2.2.2.2 _, ?_⟩
    rw [List.filter_eq_nil_iff]
    intro r mem
    unfold assignmentRecords at mem
    split at mem
    · cases mem
    · obtain ⟨e, -, rfl⟩ := List.mem_map.mp mem
      exact Bool.false_ne_true

theorem noConflict_heldChanged (s : State) (old new : Grade) : NoConflict s (s.heldChanged old new) := by
  have judged := (noConflict_judgeUnload s).trans (noConflict_parkOnChange _ old new)
  unfold State.heldChanged
  dsimp only
  split
  · exact judged
  · exact judged.trans ((noConflict_assignIfDue _ .a).trans (noConflict_assignIfDue _ .b))

theorem noConflict_changeSource (s : State) (src : Source) (f : HoldRecord → HoldRecord) :
    NoConflict s (s.changeSource src f) := by
  have written (x : Holds) : NoConflict s { s with holds := x } := .keep rfl
  unfold State.changeSource
  dsimp only
  split
  · exact (written _).trans (noConflict_logLatch _ _ _ _)
  · exact ((written _).trans (noConflict_logLatch _ _ _ _)).trans (noConflict_heldChanged _ _ _)

theorem noConflict_setCondition (s : State) (src : Source) (g : Grade) : NoConflict s (s.setCondition src g) := by
  unfold State.setCondition
  split
  · exact .keep rfl
  · exact noConflict_changeSource s src _

theorem noConflict_endVisit (s : State) (pf : Platform) (v : Visit) : NoConflict s (s.endVisit pf v) := by
  have ended : NoConflict s (endedVisit s pf v) := by
    by_cases passing : v.state = .passing
    · exact .keep (by rw [endedVisit, if_pos passing])
    · exact (noConflict_append s (r := berthRecord s .visitEnd v.cabin pf v.endValue) nofun).congr rfl
        (by rw [endedVisit, if_neg passing])
  rw [endVisit_eq]
  split
  · exact ended.trans (noConflict_setCondition _ _ _)
  · exact ended

theorem noConflict_feedBack (s : State) (pf : Platform) (door : DoorState) : NoConflict s (s.feedBack pf door) := by
  have written (v : Visit) (timer : Option Nat) : NoConflict s (visited s pf v timer) := .keep rfl
  unfold State.feedBack
  split
  · split
    · unfold State.testOpen
      rw [setVisit_setTimer]
      split
      · exact (written _ none).trans (noConflict_assignIfDue _ pf)
      · exact .keep rfl
    · unfold State.testLatched
      split
      · split
        · exact noConflict_endVisit s pf _
        · exact .keep rfl
      · exact .keep rfl
    · split <;> exact .keep rfl
    · exact .keep rfl
    · exact .keep rfl
  · exact .keep rfl

theorem noConflict_judgeAway (s : State) : NoConflict s s.judgeAway :=
  (noConflict_setCondition (withAway s) _ _).congr rfl rfl

/-! ## A Sequencer in a reaction's reach -/

/-- A Sequencer before and after reactions: the same apart from an assignment, and the same where its visit is not one
that awaits an assignment (R66). -/
def Kept (q r : Sequencer) : Prop :=
  apartFromAssignment r = apartFromAssignment q ∧ ((∀ v, q.current = some v → v.state ≠ .opened) → r = q)

theorem Kept.of_eq {q r : Sequencer} (e : r = q) : Kept q r := ⟨congrArg _ e, fun _ => e⟩

theorem Kept.trans {q r x : Sequencer} (h : Kept q r) (k : Kept r x) : Kept q x := by
  refine ⟨k.1.trans h.1, fun other => ?_⟩
  have same := h.2 other
  exact (k.2 (same ▸ other)).trans same

/-- An assignment leaves a visit's state and its cabin. -/
theorem visit_of_apart {q r : Sequencer} (apart : apartFromAssignment r = apartFromAssignment q) {v : Visit}
    (visit : q.current = some v) : ∃ w, r.current = some w ∧ w.state = v.state ∧ w.cabin = v.cabin := by
  have current := congrArg Sequencer.current apart
  unfold apartFromAssignment at current
  rw [visit] at current
  obtain ⟨w, here, same⟩ := Option.map_eq_some_iff.mp current
  have state : w.state = v.state := by
    have states := congrArg Visit.state same
    exact states
  have cabin : w.cabin = v.cabin := by
    have cabins := congrArg Visit.cabin same
    exact cabins
  exact ⟨w, here, state, cabin⟩

/-- A platform without a visit in OPEN awaits no assignment. -/
theorem awaited_none {s : State} {pf : Platform} (other : ∀ v, (s.sequencers.get pf).current = some v → v.state ≠ .opened) :
    assignmentAwaited s pf = none := by
  unfold assignmentAwaited
  split
  · rfl
  · next v visit =>
    split
    · rfl
    · exact if_neg fun due => other v visit due.1

/-- A platform that awaits nothing is left by the other's asking and its own. -/
theorem asked_still {s : State} {pf : Platform} (none : assignmentAwaited s pf = none) (other : Platform) :
    (asked s other).sequencers.get pf = s.sequencers.get pf ∧ assignmentAwaited (asked s other) pf = .none := by
  by_cases same : pf = other
  · subst same
    rw [(asked_none none).1]
    exact ⟨rfl, none⟩
  · exact ⟨(asked_other s same).1, (awaited_asked_other s same).trans none⟩

theorem Kept.of_followed {s t : State} (h : Followed s t) (pf : Platform) :
    Kept (s.sequencers.get pf) (t.sequencers.get pf) := by
  refine ⟨h.reach.visits pf, fun other => ?_⟩
  obtain ⟨first, none⟩ := asked_still (awaited_none other) .a
  rcases h.parties with nothing | both
  · rw [nothing.1]
  · rw [both.1, (asked_still none .b).1, first]

theorem kept_assignIfDue (s : State) (pf other : Platform) :
    Kept (s.sequencers.get pf) ((s.assignIfDue other).sequencers.get pf) := by
  refine ⟨(s.assignIfDue_reaction other).visits pf, fun unopened => ?_⟩
  rw [assignIfDue_eq, askedIfAllowed]
  split
  · rfl
  · rw [appends_eq]
    exact (asked_still (awaited_none unopened) other).1

theorem kept_formDoorLate (s : State) (pf : Platform) : Kept (s.sequencers.get pf) (s.formDoorLate.sequencers.get pf) := by
  unfold State.formDoorLate
  exact .of_followed (followed_setCondition s _ _) pf

theorem kept_judgeAway (s : State) (pf : Platform) : Kept (s.sequencers.get pf) (s.judgeAway.sequencers.get pf) :=
  .of_followed (followed_setCondition (withAway s) _ _) pf

/-! ## The other platform's feedback -/

theorem visited_other (s : State) {pf other : Platform} (ne : pf ≠ other) (v : Visit) (timer : Option Nat) :
    (visited s other v timer).sequencers.get pf = s.sequencers.get pf := PerPlatform.get_set_other _ _ ne

theorem kept_endVisit_other (s : State) {pf other : Platform} (ne : pf ≠ other) (v : Visit) :
    Kept (s.sequencers.get pf) ((s.endVisit other v).sequencers.get pf) := by
  have ended : (endedVisit s other v).sequencers.get pf = s.sequencers.get pf := PerPlatform.get_set_other _ _ ne
  rw [endVisit_eq]
  split
  · exact (Kept.of_eq ended).trans (kept_formDoorLate _ pf)
  · exact .of_eq ended

/-- The feedback of one platform leaves the other's visit apart from an assignment (R66). -/
theorem kept_feedBack_other (s : State) {pf other : Platform} (ne : pf ≠ other) (door : DoorState) :
    Kept (s.sequencers.get pf) ((s.feedBack other door).sequencers.get pf) := by
  unfold State.feedBack
  split
  · split
    · unfold State.testOpen
      rw [setVisit_setTimer]
      split
      · exact (Kept.of_eq (visited_other s ne _ none)).trans (kept_assignIfDue _ pf other)
      · exact .of_eq rfl
    · unfold State.testLatched
      rw [setVisit_setTimer]
      split
      · split
        · exact kept_endVisit_other s ne _
        · exact .of_eq (visited_other (s.command other .close) ne _ none)
      · exact .of_eq rfl
    · rw [setVisit_startTimer]
      split
      · exact .of_eq (visited_other s ne _ _)
      · exact .of_eq rfl
    · exact .of_eq rfl
    · exact .of_eq rfl
  · exact .of_eq rfl

/-! ## The platform's own feedback -/

/-- A Sequencer whose visit is in the state given, with its actuator timer. -/
def movedTo (q : Sequencer) (v : Visit) (state : VisitState) (timer : Option Nat) : Sequencer :=
  { q with current := some { v with state := state }, actuatorTimer := timer }

/-- A Sequencer after the end of its visit (R78). -/
def vacated (q : Sequencer) (v : Visit) : Sequencer :=
  { q with current := none, last := some v, actuatorTimer := none, doorLate := if v.late then false else q.doorLate }

theorem vacated_unopened (q : Sequencer) (v w : Visit) (visit : (vacated q v).current = some w) : w.state ≠ .opened := by
  rw [vacated] at visit
  cases visit

/-- What the accepted contacts of a scan make of a Sequencer, by the state of its visit (R65, R70, R72, R77, R80). -/
def Moved (door was : Nat → DoorState) (position : ActuatorPosition) (actuatorTime : Nat) (q r : Sequencer) : Prop :=
  match q.current with
  | none => r = q
  | some v =>
    match v.state with
    | .passing => r = q
    | .opening =>
      (position = .opened ∧ door v.cabin = .opened →
        apartFromAssignment r = apartFromAssignment (movedTo q v .opened none)) ∧
      (¬(position = .opened ∧ door v.cabin = .opened) → r = q)
    | .opened => apartFromAssignment r = apartFromAssignment q
    | .closing =>
      (door v.cabin = .latched → (v.late || v.positionLost) = false → r = movedTo q v .secured none) ∧
      (door v.cabin = .latched → (v.late || v.positionLost) = true → r = vacated q v) ∧
      (door v.cabin ≠ .latched → r = q)
    | .secured =>
      (was v.cabin = .latched ∧ door v.cabin ≠ .latched → r = movedTo q v .closing (some actuatorTime)) ∧
      (¬(was v.cabin = .latched ∧ door v.cabin ≠ .latched) → r = q)

theorem visited_same (s : State) (pf : Platform) (v : Visit) (timer : Option Nat) :
    (visited s pf v timer).sequencers.get pf = { s.sequencers.get pf with current := some v, actuatorTimer := timer } :=
  PerPlatform.get_set_same _ _ _

/-- The visit ended, DOOR_LATE's reaction finds the platform VACANT. -/
theorem endVisit_sequencer (s : State) (pf : Platform) (v : Visit) :
    (s.endVisit pf v).sequencers.get pf = vacated (s.sequencers.get pf) v := by
  have ended : (endedVisit s pf v).sequencers.get pf = vacated (s.sequencers.get pf) v := PerPlatform.get_set_same _ _ _
  have formed (u : State) (vacant : u.sequencers.get pf = vacated (s.sequencers.get pf) v) :
      u.formDoorLate.sequencers.get pf = vacated (s.sequencers.get pf) v := by
    have kept := kept_formDoorLate u pf
    rw [vacant] at kept
    exact kept.2 (vacated_unopened _ v)
  rw [endVisit_eq]
  split
  · exact formed _ ended
  · exact ended

theorem moved_feedBack {s : State} {pf : Platform} {was : Nat → DoorState} {before : DoorState}
    (known : ∀ v, (s.sequencers.get pf).current = some v → was v.cabin = before) :
    Moved s.doorOf was (s.loop.berths.get pf).position s.settings.actuatorTime (s.sequencers.get pf)
      ((s.feedBack pf before).sequencers.get pf) := by
  unfold Moved State.feedBack
  cases visit : (s.sequencers.get pf).current with
  | none => rfl
  | some v =>
    dsimp only
    rw [known v visit]
    cases state : v.state with
    | passing => rfl
    | opened => rfl
    | opening =>
      dsimp only
      unfold State.testOpen
      rw [setVisit_setTimer]
      simp only [state, true_and]
      refine ⟨fun reached => ?_, fun unreached => ?_⟩
      · rw [if_pos reached, (State.assignIfDue_reaction _ pf).visits, visited_same]
        rfl
      · rw [if_neg unreached]
    | closing =>
      dsimp only
      rw [testLatched_eq state]
      refine ⟨fun latched kept => ?_, fun latched lost => ?_, fun open' => ?_⟩
      · rw [if_pos latched, kept, if_neg Bool.false_ne_true, visited_same]
        rfl
      · rw [if_pos latched, if_pos lost, endVisit_sequencer]
      · rw [if_neg open']
    | secured =>
      dsimp only
      rw [setVisit_startTimer]
      refine ⟨fun reopened => ?_, fun still => ?_⟩
      · rw [if_pos reopened, visited_same]
        rfl
      · rw [if_neg still]

/-- Reactions around the feedback change a visit in OPEN at most by an assignment, and no other (R66). -/
theorem Moved.kept {door was : Nat → DoorState} {position : ActuatorPosition} {time : Nat} {q q' r r' : Sequencer}
    (moved : Moved door was position time q' r) (before : Kept q q') (after : Kept r r') :
    Moved door was position time q r' := by
  have arrived {x : Sequencer} (unopened : ∀ v, x.current = some v → v.state ≠ .opened) (e : r = x) : r' = x := by
    subst e
    exact after.2 unopened
  have secured {v : Visit} {state : VisitState} {timer : Option Nat} (ne : state ≠ .opened) (w : Visit)
      (e : (movedTo q v state timer).current = some w) : w.state ≠ .opened := by
    obtain rfl := Option.some.inj e
    exact ne
  unfold Moved at *
  cases visit : q.current with
  | none =>
    have unopened : ∀ v, q.current = some v → v.state ≠ .opened := by simp [visit]
    rw [before.2 unopened, visit] at moved
    exact arrived unopened moved
  | some v =>
    dsimp only
    by_cases opened : v.state = .opened
    · obtain ⟨w, visit', state, -⟩ := visit_of_apart before.1 visit
      rw [visit'] at moved
      dsimp only at moved
      rw [state, opened] at moved
      rw [opened]
      exact after.1.trans (moved.trans before.1)
    · have unopened : ∀ w, q.current = some w → w.state ≠ .opened := by
        rintro w e
        rw [visit] at e
        obtain rfl := Option.some.inj e
        exact opened
      rw [before.2 unopened, visit] at moved
      dsimp only at moved
      cases state : v.state with
      | opened => exact absurd state opened
      | passing =>
        rw [state] at moved
        exact arrived unopened moved
      | opening =>
        rw [state] at moved
        obtain ⟨reached, unreached⟩ := moved
        exact ⟨fun h => after.1.trans (reached h), fun h => arrived unopened (unreached h)⟩
      | closing =>
        rw [state] at moved
        obtain ⟨shut, lost, ajar⟩ := moved
        exact ⟨fun h k => arrived (secured nofun) (shut h k), fun h k => arrived (vacated_unopened q v) (lost h k),
          fun h => arrived unopened (ajar h)⟩
      | secured =>
        rw [state] at moved
        obtain ⟨reopened, still⟩ := moved
        exact ⟨fun h => arrived (secured nofun) (reopened h), fun h => arrived unopened (still h)⟩

end Sys2Proof.StatusLoop
end

section
/-! A good scan (R41 to R43, R45 to R49): the loop's fault cleared, the contacts accepted, the conflicts recorded, and the
visits that follow. -/

namespace Sys2Proof.StatusLoop

open Machine CabinTable

/-! ## The loop's fault cleared -/

/-- The scan in progress over. -/
def scanOver (s : State) : State := { s with loop := { s.loop with scan := none } }

/-- R45: the fault of the loop cleared, where it stood. -/
def cleared (s : State) : State := (scanOver s).clearLoopFault

/-- The LOOP_FAULT condition gone from the loop, ahead of LOOP_OK. -/
def faultGone (s : State) : State := { s with loop := { s.loop with scan := none, loopFault := false } }

theorem cleared_of_fault {s : State} (fault : s.loop.loopFault = true) :
    cleared s = ((faultGone s).append (plainRecord s .loopOk s.loop.failedCount)).setCondition .loopFault .none := by
  have here : (scanOver s).loop.loopFault = true := fault
  unfold cleared State.clearLoopFault
  rw [if_pos here]
  rfl

theorem cleared_of_none {s : State} (none : s.loop.loopFault = false) : cleared s = faultGone s := by
  have same : scanOver s = faultGone s := by
    unfold scanOver faultGone
    rw [← none]
  unfold cleared State.clearLoopFault
  rw [← same, if_neg (by simpa [scanOver] using none)]

/-- Beside the loop, what clearing the fault does is a reaction of LOOP_FAULT. -/
theorem followed_cleared (s : State) : Followed (faultGone s) (cleared s) := by
  cases fault : s.loop.loopFault with
  | true =>
    rw [cleared_of_fault fault]
    exact (followed_append (faultGone s) _ (by simp [plainRecord])).trans (followed_setCondition _ _ _)
  | false =>
    rw [cleared_of_none fault]
    exact .refl _

theorem noConflict_cleared (s : State) : NoConflict s (cleared s) := by
  have gone : NoConflict s (faultGone s) := .keep rfl
  cases fault : s.loop.loopFault with
  | true =>
    rw [cleared_of_fault fault]
    exact (gone.trans (noConflict_append _ (by simp [plainRecord]))).trans (noConflict_setCondition _ _ _)
  | false =>
    rw [cleared_of_none fault]
    exact gone

theorem cleared_cond {s : State} (fault : s.loop.loopFault = true) :
    ((cleared s).holds.table.get .loopFault).cond = .none := by
  rw [cleared_of_fault fault, setCondition_cond]

/-- LOOP_OK comes first (R45). -/
theorem cleared_recorded {s : State} (fault : s.loop.loopFault = true) :
    ∃ more, Recorded s (cleared s) (plainRecord s .loopOk s.loop.failedCount :: more) := by
  rw [cleared_of_fault fault]
  have noted : Recorded s ((faultGone s).append (plainRecord s .loopOk s.loop.failedCount))
      [plainRecord s .loopOk s.loop.failedCount] := recorded_congr (recorded_append _ _) rfl
  obtain ⟨xs, condition⟩ := (State.setCondition_reaction ((faultGone s).append (plainRecord s .loopOk s.loop.failedCount))
    .loopFault .none).events
  have both := recorded_trans noted condition
  exact ⟨xs, both⟩

theorem kept_cleared (s : State) (pf : Platform) : Kept (s.sequencers.get pf) ((cleared s).sequencers.get pf) :=
  .of_followed (followed_cleared s) pf

/-! ## The contacts accepted -/

/-- The loop with the good scan counted (R43, R45). -/
def countedLoop (s : State) : Loop := { s.loop with scan := none, failedCount := 0, loopFault := false }

def counted (s : State) : State := { cleared s with loop := countedLoop s }

theorem counted_eq (s : State) :
    { cleared s with loop := { (cleared s).loop with failedCount := 0 } } = counted s := by
  unfold counted
  rw [(followed_cleared s).reach.loop]
  rfl

/-- The loop with the contacts of a good scan accepted (R42). -/
def newContacts (s : State) (r : Readings) : Loop := (countedLoop s).accept s.loop.newest r

/-- The conflicts recorded and the doors written, ahead of the visits (R46, R47). -/
def noted (s : State) (r : Readings) : State :=
  (begunConflicts s.clock s.loop (newContacts s r)).foldl State.append
    { cleared s with
      loop := newContacts s r
      cabins := s.cabins.mapIdx fun k c =>
        { c with door := ((newContacts s r).cabins[k]?.map LoopCabin.door).getD .unknown } }

/-- The visits fed, A's before B's (DESIGN CHOICE, log 7). -/
def visitsFed (s : State) (r : Readings) : State :=
  ((noted s r).feedBack .a ((counted s).visitDoor .a)).feedBack .b ((counted s).visitDoor .b)

theorem goodScan_eq (s : State) (r : Readings) : (scanOver s).goodScan false r = visitsFed s r := by
  have reach := (followed_cleared s).reach
  have clock : (counted s).clock = s.clock := reach.clock
  have written : State.writeDoors { counted s with loop := newContacts s r } = { cleared s with
      loop := newContacts s r
      cabins := s.cabins.mapIdx fun k c =>
        { c with door := ((newContacts s r).cabins[k]?.map LoopCabin.door).getD .unknown } } := by
    unfold State.writeDoors counted
    dsimp only
    rw [reach.cabins]
    rfl
  have taken : (counted s).takeContacts (newContacts s r) = visitsFed s r := by
    rw [takeContacts_eq, written, clock]
    rfl
  have step (u : State) (e : u = counted s) : u.takeContacts (u.loop.accept u.loop.newest r) = visitsFed s r := e ▸ taken
  exact step _ (counted_eq s)

theorem goodScan_stale (s : State) (r : Readings) : (scanOver s).goodScan true r = counted s := counted_eq s

theorem endScan_good {s : State} {contacts : List Bool} {x : ScanInProgress} (scan : s.loop.scan = some x)
    (length : contacts.length = 2 * x.cabins + 4) :
    s.endScan Config.checkPattern contacts =
      ((scanOver s).goodScan x.stale (Readings.ofContacts x.cabins contacts)).judgeAway := by
  have good : scanGood x.cabins Config.checkPattern contacts = true := by
    unfold scanGood
    simp [length]
  unfold State.endScan
  rw [scan]
  dsimp only
  rw [good]
  rfl

end Sys2Proof.StatusLoop
end

section
/-! The state a good scan leaves (R41 to R49, R65, R70, R72, R77, R80), and the statement of the two scans. -/

namespace Sys2Proof.StatusLoop

open Machine CabinTable

/-! ## The state a good scan leaves -/

/-- The away set judged and the figures formed, after the visits. -/
def scanned (s : State) (r : Readings) : State := (visitsFed s r).judgeAway.refresh

theorem noted_loop (s : State) (r : Readings) : (noted s r).loop = newContacts s r := by rw [noted, appends_eq]

theorem noted_sequencers (s : State) (r : Readings) : (noted s r).sequencers = (cleared s).sequencers := by
  rw [noted, appends_eq]

theorem noted_cabins (s : State) (r : Readings) : (noted s r).cabins = s.cabins.mapIdx fun k c =>
    { c with door := ((newContacts s r).cabins[k]?.map LoopCabin.door).getD .unknown } := by
  rw [noted, appends_eq]

/-- What is out of the scan's reach ahead of the visits. -/
theorem noted_kept (s : State) (r : Readings) :
    (noted s r).position = s.position ∧ (noted s r).plans = s.plans ∧ (noted s r).wind = s.wind ∧
    (noted s r).store = s.store ∧ (noted s r).ports = s.ports := by
  have reach := (followed_cleared s).reach
  rw [noted, appends_eq]
  exact ⟨reach.position, reach.plans, reach.wind, reach.store, reach.ports⟩

theorem fed_visitsFed (s : State) (r : Readings) : Fed (noted s r) (visitsFed s r) :=
  (fed_feedBack (noted s r) .a _).trans (fed_feedBack _ .b _)

theorem scanned_loop (s : State) (r : Readings) :
    (scanned s r).loop = { newContacts s r with away := (visitsFed s r).awaySet } := by
  show (visitsFed s r).judgeAway.loop = _
  rw [judgeAway_loop, (fed_visitsFed s r).loop, noted_loop]

theorem scanned_door (s : State) (r : Readings) (k : Nat) :
    ((scanned s r).cabins[k]?).map Cabin.door = ((noted s r).cabins[k]?).map Cabin.door := by
  obtain ⟨cabins, -⟩ := judgeAway_kept (visitsFed s r)
  show ((visitsFed s r).judgeAway.cabins[k]?).map Cabin.door = _
  rw [cabins, (fed_visitsFed s r).doors]

theorem scanned_doorOf (s : State) (r : Readings) : (scanned s r).doorOf = (noted s r).doorOf := by
  funext k
  rw [doorOf_eq, doorOf_eq, scanned_door]

theorem scanned_kept (s : State) (r : Readings) :
    (scanned s r).position = s.position ∧ (scanned s r).plans = s.plans ∧ (scanned s r).wind = s.wind ∧
    (scanned s r).store = s.store ∧ (scanned s r).ports = s.ports := by
  obtain ⟨-, position, plans, wind, store, ports⟩ := judgeAway_kept (visitsFed s r)
  obtain ⟨position', plans', wind', store', ports'⟩ := noted_kept s r
  have fed := fed_visitsFed s r
  rw [scanned, State.refresh_position, State.refresh_plans, State.refresh_wind, State.refresh_store,
    State.refresh_ports, position, plans, wind, store, ports, fed.position, fed.plans, fed.wind, fed.store, fed.ports]
  exact ⟨position', plans', wind', store', ports'⟩

/-! ## The visits -/

/-- The door before the scan, of the cabin whose visit a Sequencer holds, is the one handed to its feedback. -/
theorem counted_visitDoor {s : State} {pf : Platform} {q : Sequencer} (kept : Kept ((cleared s).sequencers.get pf) q)
    (v : Visit) (visit : q.current = some v) : s.doorOf v.cabin = (counted s).visitDoor pf := by
  obtain ⟨w, here, -, cabin⟩ := visit_of_apart kept.1.symm visit
  have there : ((counted s).sequencers.get pf).current = some w := here
  have cabins : (counted s).cabins = s.cabins := (followed_cleared s).reach.cabins
  rw [visitDoor_eq there, cabin, doorOf_eq, doorOf_eq, cabins]

theorem noted_known (s : State) (r : Readings) (v : Visit) (visit : ((noted s r).sequencers.get .a).current = some v) :
    s.doorOf v.cabin = (counted s).visitDoor .a := by
  rw [noted_sequencers] at visit
  exact counted_visitDoor (.of_eq rfl) v visit

/-- B's Sequencer, A's visit fed: an assignment at most (R66). -/
theorem kept_fedA (s : State) (r : Readings) (door : DoorState) :
    Kept ((cleared s).sequencers.get .b) (((noted s r).feedBack .a door).sequencers.get .b) := by
  have kept := kept_feedBack_other (noted s r) (pf := .b) (other := .a) nofun door
  rw [noted_sequencers] at kept
  exact kept

theorem noted_settings (s : State) (r : Readings) : (noted s r).settings = s.settings := by
  obtain ⟨-, -, -, store, -⟩ := noted_kept s r
  exact congrArg Store.working store

theorem fedA_settings (s : State) (r : Readings) (door : DoorState) :
    ((noted s r).feedBack .a door).settings = s.settings :=
  (congrArg Store.working (fed_feedBack (noted s r) .a door).store).trans (noted_settings s r)

theorem fedA_loop (s : State) (r : Readings) (door : DoorState) :
    ((noted s r).feedBack .a door).loop = newContacts s r :=
  (fed_feedBack (noted s r) .a door).loop.trans (noted_loop s r)

theorem scanned_sequencers (s : State) (r : Readings) :
    (scanned s r).sequencers = (visitsFed s r).judgeAway.sequencers := rfl

/-- What a good scan makes of the two Sequencers. -/
theorem scanned_moved (s : State) (r : Readings) (pf : Platform) :
    Moved (scanned s r).doorOf s.doorOf ((newContacts s r).berths.get pf).position s.settings.actuatorTime
      (s.sequencers.get pf) ((scanned s r).sequencers.get pf) := by
  have judged := kept_judgeAway (visitsFed s r) pf
  rw [scanned_doorOf, scanned_sequencers]
  cases pf with
  | a =>
    have own := moved_feedBack (noted_known s r)
    rw [noted_loop, noted_settings] at own
    have before : Kept (s.sequencers.get .a) ((noted s r).sequencers.get .a) := by
      rw [noted_sequencers]
      exact kept_cleared s .a
    have other : Kept (((noted s r).feedBack .a ((counted s).visitDoor .a)).sequencers.get .a)
        ((visitsFed s r).sequencers.get .a) := kept_feedBack_other _ (pf := .a) (other := .b) nofun _
    exact own.kept before (other.trans judged)
  | b =>
    have own := moved_feedBack (counted_visitDoor (kept_fedA s r ((counted s).visitDoor .a)))
    have doors : ((noted s r).feedBack .a ((counted s).visitDoor .a)).doorOf = (noted s r).doorOf :=
      funext (fed_feedBack (noted s r) .a _).doorOf
    rw [fedA_loop, fedA_settings, doors] at own
    exact own.kept ((kept_cleared s .b).trans (kept_fedA s r _)) judged

/-! ### The visits as the statement has them -/

/-- A platform's visit follows the accepted contacts (R65, R70, R72, R77, R80). -/
def follow (position : Platform → ActuatorPosition) (was : Nat → DoorState) (actuatorTime : Nat) (u : State)
    (pf : Platform) : State :=
  let q := u.sequencers.get pf
  let become (v : Visit) (st : VisitState) (timer : Option Nat) : State :=
    { u with sequencers := u.sequencers.set pf { q with current := some { v with state := st }, actuatorTimer := timer } }
  match q.current with
  | none => u
  | some v =>
    if v.state = .opening ∧ position pf = .opened ∧ u.doorOf v.cabin = .opened then askedIfAllowed (become v .opened none) pf
    else if v.state = .closing ∧ u.doorOf v.cabin = .latched then
      if v.late || v.positionLost then u.endVisit pf v
      else actuated u pf .close { q with current := some { v with state := .secured }, actuatorTimer := none }
    else if v.state = .secured ∧ was v.cabin = .latched ∧ u.doorOf v.cabin ≠ .latched then
      become v .closing (some actuatorTime)
    else u

theorem feedBack_eq_follow {u : State} {pf : Platform} {position : Platform → ActuatorPosition} {was : Nat → DoorState}
    {actuatorTime : Nat} {before : DoorState} (known : ∀ v, (u.sequencers.get pf).current = some v → was v.cabin = before)
    (here : (u.loop.berths.get pf).position = position pf) (time : u.settings.actuatorTime = actuatorTime) :
    u.feedBack pf before = follow position was actuatorTime u pf := by
  subst time
  unfold State.feedBack follow
  dsimp only
  cases visit : (u.sequencers.get pf).current with
  | none => rfl
  | some v =>
    dsimp only
    rw [known v visit, ← here]
    cases state : v.state with
    | passing => rfl
    | opened => rfl
    | opening =>
      unfold State.testOpen
      rw [setVisit_setTimer, assignIfDue_eq]
      simp only [state, true_and, reduceCtorEq, false_and, if_false]
      rfl
    | closing =>
      simp only [testLatched_eq state, true_and, reduceCtorEq, false_and, if_false]
      rfl
    | secured =>
      simp only [setVisit_startTimer, true_and, reduceCtorEq, false_and, if_false]
      rfl

theorem visitsFed_eq_follow (s : State) (r : Readings) {position : Platform → ActuatorPosition}
    (here : ∀ pf, ((newContacts s r).berths.get pf).position = position pf) :
    visitsFed s r = follow position s.doorOf s.settings.actuatorTime
      (follow position s.doorOf s.settings.actuatorTime (noted s r) .a) .b := by
  have first := feedBack_eq_follow (position := position) (actuatorTime := s.settings.actuatorTime) (noted_known s r)
    (by rw [noted_loop, here]) (by rw [noted_settings])
  unfold visitsFed
  rw [← first]
  exact feedBack_eq_follow (counted_visitDoor (kept_fedA s r _)) (by rw [fedA_loop, here]) (by rw [fedA_settings])

end Sys2Proof.StatusLoop
end

section
/-! The contacts, the conflicts and the records of a good scan (R42, R45 to R47), and the statement of good and stale
scans. -/

namespace Sys2Proof.StatusLoop

open Machine CabinTable

/-! ## The contacts -/

/-- R42: the accepted value of one contact. -/
theorem debounce_eq (old : Contact) (previous : Option Bool) (now : Bool) :
    debounce old previous now = if previous = some now then (if now then .made else .notMade) else old := by
  cases previous with
  | none => rfl
  | some p => simp only [debounce, Contact.ofReading, Option.some.injEq]

/-- The door state of Table 3-3. -/
theorem ofContacts_eq (doorClosed latch : Contact) : DoorState.ofContacts doorClosed latch =
    match doorClosed, latch with
    | .unknown, _ => .unknown
    | _, .unknown => .unknown
    | .made, .made => .latched
    | .made, .notMade => .closed
    | .notMade, _ => .opened := by
  cases doorClosed <;> cases latch <;> rfl

/-- The actuator position of Table 3-5. -/
theorem position_ofContacts (openStop closedStop : Contact) : ActuatorPosition.ofContacts openStop closedStop =
    match openStop, closedStop with
    | .unknown, _ => .unknown
    | _, .unknown => .unknown
    | .made, .notMade => .opened
    | .notMade, .made => .closed
    | .notMade, .notMade => .moving
    | .made, .made => .conflict := by
  cases openStop <;> cases closedStop <;> rfl

/-- The readings of a scan of `n` cabins, contact by contact. -/
theorem readings_ofContacts (n : Nat) (contacts : List Bool) :
    (Readings.ofContacts n contacts).cabins.length = n ∧
    (∀ k, k < n → (Readings.ofContacts n contacts).cabins[k]? =
      some (contacts.getD (2 * k) false, contacts.getD (2 * k + 1) false)) := by
  unfold Readings.ofContacts
  refine ⟨by simp, fun k lt => ?_⟩
  simp [lt]

theorem newContacts_length (s : State) (r : Readings) : (newContacts s r).cabins.length = s.loop.cabins.length :=
  List.length_mapIdx

theorem newContacts_cabin {s : State} {r : Readings} {k : Nat} {old : LoopCabin} {now : Bool × Bool}
    (was : s.loop.cabins[k]? = some old) (reads : r.cabins[k]? = some now) :
    (newContacts s r).cabins[k]? = some (old.accept (s.loop.newest.bind fun p => p.cabins[k]?) now) := by
  show ((s.loop.cabins.mapIdx _)[k]?) = _
  rw [List.getElem?_mapIdx, was, Option.map_some, reads]

theorem newContacts_berth (s : State) (r : Readings) (pf : Platform) :
    (newContacts s r).berths.get pf =
      (s.loop.berths.get pf).accept (s.loop.newest.map fun p => p.berths.get pf) (r.berths.get pf) := by
  cases pf <;> rfl

/-- The cabin's record carries the door of its contacts (R46). -/
theorem noted_door {s : State} {r : Readings} {k : Nat} {c : Cabin} {new : LoopCabin} (here : s.cabins[k]? = some c)
    (contacts : (newContacts s r).cabins[k]? = some new) :
    ((noted s r).cabins[k]?).map Cabin.door = some new.door := by
  rw [noted_cabins, List.getElem?_mapIdx, here, contacts]
  rfl

/-! ## The records -/

theorem begun_are_conflicts (clock : Word) (before after : Loop) :
    (begunConflicts clock before after).filter (fun e => [EventKind.contactConflict].contains e.kind) =
      begunConflicts clock before after := by
  have kind {e : EventRecord} (mem : e ∈ begunConflicts clock before after) : e.kind = .contactConflict := by
    unfold begunConflicts at mem
    simp only [List.mem_append, List.mem_flatMap] at mem
    rcases mem with (⟨k, -, mem⟩ | mem) | mem
    · unfold cabinConflict at mem
      split at mem
      · rw [List.mem_singleton.mp mem, conflictRecord]
      · cases mem
    all_goals
      unfold berthConflict at mem
      split at mem
      · rw [List.mem_singleton.mp mem, conflictRecord]
      · cases mem
  rw [List.filter_eq_self]
  intro e mem
  rw [kind mem]
  rfl

theorem noted_recorded (s : State) (r : Readings) :
    Recorded (cleared s) (noted s r) (begunConflicts s.clock s.loop (newContacts s r)) := by
  unfold noted
  exact recorded_congr (recorded_appends _ _) rfl

theorem noConflict_scanned (s : State) (r : Readings) : NoConflict (noted s r) (scanned s r) := by
  have visits : NoConflict (noted s r) (visitsFed s r) :=
    (noConflict_feedBack (noted s r) .a _).trans (noConflict_feedBack _ .b _)
  exact (visits.trans (noConflict_judgeAway _)).congr rfl rfl

/-- The conflicts that begin are the CONTACT_CONFLICT records of the scan (R47). -/
theorem scanned_conflicts (s : State) (r : Readings) :
    RecordedOf s (scanned s r) [.contactConflict] (begunConflicts s.clock s.loop (newContacts s r)) := by
  have recorded : RecordedOf (cleared s) (noted s r) [.contactConflict] (begunConflicts s.clock s.loop (newContacts s r)) :=
    ⟨_, noted_recorded s r, begun_are_conflicts _ _ _⟩
  have whole := RecordedOf.trans (RecordedOf.trans (noConflict_cleared s) recorded) (noConflict_scanned s r)
  rwa [List.append_nil] at whole

/-- LOOP_OK is the first record of the scan that ends a fault (R45). -/
theorem scanned_recorded {s : State} (r : Readings) (fault : s.loop.loopFault = true) :
    ∃ more, Recorded s (scanned s r) (plainRecord s .loopOk s.loop.failedCount :: more) := by
  obtain ⟨xs, first⟩ := cleared_recorded fault
  obtain ⟨ys, second, -⟩ := noConflict_scanned s r
  have rest := recorded_trans (noted_recorded s r) second
  have whole := recorded_trans first rest
  exact ⟨_, whole⟩

/-! ## LOOP_FAULT after the scan -/

theorem endVisit_source (s : State) (pf : Platform) (v : Visit) {src : Source} (ne : src ≠ .doorLate) :
    (s.endVisit pf v).holds.table.get src = s.holds.table.get src := by
  rw [endVisit_eq]
  split
  · exact setCondition_other (endedVisit s pf v) _ ne
  · rfl

/-- The visits change no source but DOOR_LATE. -/
theorem feedBack_source (s : State) (pf : Platform) (door : DoorState) {src : Source} (ne : src ≠ .doorLate) :
    (s.feedBack pf door).holds.table.get src = s.holds.table.get src := by
  unfold State.feedBack
  split
  · split
    · unfold State.testOpen
      split
      · rw [State.assignIfDue_holds]
        rfl
      · rfl
    · unfold State.testLatched
      split
      · split
        · exact endVisit_source s pf _ ne
        · rfl
      · rfl
    · split <;> rfl
    · rfl
    · rfl
  · rfl

theorem scanned_source (s : State) (r : Readings) {src : Source} (late : src ≠ .doorLate) (away : src ≠ .doorAway) :
    (scanned s r).holds.table.get src = (cleared s).holds.table.get src := by
  have start : (noted s r).holds = (cleared s).holds := by rw [noted, appends_eq]
  rw [scanned, State.refresh_holds, judgeAway_source _ away, visitsFed, feedBack_source _ _ _ late,
    feedBack_source _ _ _ late, start]

theorem scanned_cond {s : State} (r : Readings) (fault : s.loop.loopFault = true) :
    ((scanned s r).holds.table.get .loopFault).cond = .none := by
  rw [scanned_source s r (src := .loopFault) nofun nofun, cleared_cond fault]

end Sys2Proof.StatusLoop
end

section
/-! The statement of good and stale scans (R41 to R49, R65, R70, R72, R77, R80). -/

namespace Sys2Proof.StatusLoop

open Machine CabinTable

/-! ## The visits, clause by clause -/

theorem Moved.clauses {door was : Nat → DoorState} {position : ActuatorPosition} {time : Nat} {q r : Sequencer}
    (h : Moved door was position time q r) :
    (q.current = none → r = q) ∧
    ∀ v : Visit, q.current = some v →
      let reached : Prop := position = .opened ∧ door v.cabin = .opened
      let lost : Prop := v.late = true ∨ v.positionLost = true
      (v.state = .opening → reached → apartFromAssignment r = apartFromAssignment (movedTo q v .opened none)) ∧
      (v.state = .opening → ¬reached → r = q) ∧
      (v.state = .closing → door v.cabin = .latched → ¬lost → r = movedTo q v .secured none) ∧
      (v.state = .closing → door v.cabin = .latched → lost → r = vacated q v) ∧
      (v.state = .closing → door v.cabin ≠ .latched → r = q) ∧
      (v.state = .secured → was v.cabin = .latched → door v.cabin ≠ .latched → r = movedTo q v .closing (some time)) ∧
      (v.state = .secured → was v.cabin ≠ .latched ∨ door v.cabin = .latched → r = q) ∧
      (v.state = .passing → r = q) ∧ (v.state = .opened → apartFromAssignment r = apartFromAssignment q) := by
  unfold Moved at h
  refine ⟨fun vacant => by rwa [vacant] at h, fun v visit => ?_⟩
  rw [visit] at h
  dsimp only at h ⊢
  refine ⟨fun e reached => ?_, fun e unreached => ?_, fun e latched kept => ?_, fun e latched lost => ?_,
    fun e ajar => ?_, fun e latched ajar => ?_, fun e still => ?_, fun e => ?_, fun e => ?_⟩ <;> rw [e] at h
  · exact h.1 reached
  · exact h.2 unreached
  · exact h.1 latched (by simpa using kept)
  · exact h.2.1 latched (by simpa using lost)
  · exact h.2.2 ajar
  · exact h.1 ⟨latched, ajar⟩
  · exact h.2 fun ⟨latched, ajar⟩ => still.elim (fun other => other latched) ajar
  · exact h
  · exact h

/-! ## A stale scan (R49) -/

/-- The visits and the queues of a reaction do not hang on the loop. -/
theorem Followed.setLoop {s t : State} (h : Followed s t) (x : Loop) :
    Followed { s with loop := x } { t with loop := x } := by
  obtain ⟨r, parties, fall⟩ := h
  have p := parties_congr (s := s) (s' := { s with loop := x }) (t := t) (t' := { t with loop := x })
    ⟨rfl, rfl, rfl, rfl, rfl⟩ rfl rfl rfl rfl
  obtain ⟨xs, recorded⟩ := r.events
  have recorded' : Recorded { s with loop := x } { t with loop := x } xs := recorded_congr recorded rfl
  exact ⟨⟨r.phase, r.position, r.cabins, rfl, r.output, r.plans, r.wind, r.stops, r.ports, r.store, r.clock,
    r.brakeDemand, r.pending, r.unload, r.permit, r.visits, xs, recorded'⟩, parties.imp p.1 p.2,
    fun above below => p.2 (fall above below)⟩

/-- A stale scan: the count, LOOP_FAULT and the away set, with what their sources set off. -/
theorem reacted_stale (s : State) :
    Reacted { s with loop := { countedLoop s with away := (counted s).awaySet } } (counted s).judgeAway.refresh := by
  have first : Followed { s with loop := { countedLoop s with away := (counted s).awaySet } } (withAway (counted s)) :=
    Followed.setLoop (followed_cleared s) _
  exact reacted_of_followed (first.trans (followed_setCondition _ _ _))

theorem stale_cond {s : State} (fault : s.loop.loopFault = true) :
    ((counted s).judgeAway.holds.table.get .loopFault).cond = .none := by
  rw [judgeAway_source (src := .loopFault) _ nofun]
  exact cleared_cond fault

theorem stale_recorded {s : State} (fault : s.loop.loopFault = true) :
    ∃ more, Recorded s (counted s).judgeAway (plainRecord s .loopOk s.loop.failedCount :: more) := by
  obtain ⟨xs, first⟩ := cleared_recorded fault
  obtain ⟨ys, second⟩ := judgeAway_recorded (counted s)
  have rest : Recorded (cleared s) (counted s).judgeAway ys := recorded_congr second rfl
  have whole := recorded_trans first rest
  exact ⟨_, whole⟩

/-! ## The statement -/

/-- The contacts of a cabin after a good scan, and its door (R42, R46, R47). -/
theorem scanned_cabin {s : State} {r : Readings} {k : Nat} {old : LoopCabin} {now : Bool × Bool} {t : State}
    (e : t = scanned s r) (was : s.loop.cabins[k]? = some old) (reads : r.cabins[k]? = some now)
    (cabin : k < s.cabins.length) :
    ∃ new c, t.loop.cabins[k]? = some new ∧ t.cabins[k]? = some c ∧
      new = old.accept (s.loop.newest.bind fun p => p.cabins[k]?) now ∧ c.door = new.door := by
  subst e
  have accepted := newContacts_cabin was reads
  have door := scanned_door s r k
  rw [noted_door (List.getElem?_eq_getElem cabin) accepted] at door
  obtain ⟨c, here, same⟩ := Option.map_eq_some_iff.mp door
  refine ⟨_, c, ?_, here, rfl, same⟩
  rw [scanned_loop]
  exact accepted

theorem good_scan {s : State} {contacts : List Bool} {x : ScanInProgress} (running : s.phase = .running)
    (scan : s.loop.scan = some x) (fresh : x.stale = false) (length : contacts.length = 2 * x.cabins + 4) :
    exec (.scanEnd Config.checkPattern contacts) s = .next (scanned s (Readings.ofContacts x.cabins contacts)) := by
  rw [exec_scanEnd running scan, endScan_good scan length, fresh, goodScan_eq]
  rfl

theorem stale_scan {s : State} {contacts : List Bool} {x : ScanInProgress} (running : s.phase = .running)
    (scan : s.loop.scan = some x) (stale : x.stale = true) (length : contacts.length = 2 * x.cabins + 4) :
    exec (.scanEnd Config.checkPattern contacts) s = .next (counted s).judgeAway.refresh := by
  rw [exec_scanEnd running scan, endScan_good scan length, stale, goodScan_stale]

/-- Settles O56: a good scan is `scanned`, its contacts those of `newContacts`, its visits those of `follow`; a stale one is
`counted` with the away set judged. -/
theorem goodScansAcceptContacts : Obligations.GoodScansAcceptContacts := by
  unfold Obligations.GoodScansAcceptContacts
  refine ⟨fun s contacts x running sound scan fresh cabins length => ?good,
    fun s contacts x running scan stale length => ?stale⟩
  case stale =>
    refine ⟨_, stale_scan running scan stale length, State.refresh_formed _, ?_, fun fault => ?_⟩
    · have away : (counted s).judgeAway.refresh.loop.away = (counted s).awaySet := by
        rw [State.refresh_loop, judgeAway_loop]
      rw [away]
      exact reacted_stale s
    · exact ⟨stale_cond fault, stale_recorded fault⟩
  case good =>
    obtain ⟨-, -, -, cabinTable, loopTable, -⟩ := sound
    obtain ⟨readsLength, reads⟩ := readings_ofContacts x.cabins contacts
    have berthsA : (Readings.ofContacts x.cabins contacts).berths.a =
      (contacts.getD (2 * x.cabins) false, contacts.getD (2 * x.cabins + 1) false) := rfl
    have berthsB : (Readings.ofContacts x.cabins contacts).berths.b =
      (contacts.getD (2 * x.cabins + 2) false, contacts.getD (2 * x.cabins + 3) false) := rfl
    have taken := good_scan running scan fresh length
    generalize Readings.ofContacts x.cabins contacts = r at *
    have loop := scanned_loop s r
    have berths : (scanned s r).loop.berths = (newContacts s r).berths := by rw [loop]
    have loopCabins : (scanned s r).loop.cabins = (newContacts s r).cabins := by rw [loop]
    obtain ⟨position, plans, wind, store, ports⟩ := scanned_kept s r
    refine ⟨scanned s r, taken, State.refresh_formed _, ?_⟩
    intro accepted at' before
    refine ⟨congrArg Loop.scan loop, congrArg Loop.failedCount loop, congrArg Loop.loopFault loop,
      congrArg Loop.previous loop, ⟨r, congrArg Loop.newest loop, readsLength, reads, berthsA, berthsB⟩,
      fun k old was => ?cabin, fun pf => ?berth, ?records, fun pf => ?moved,
      position, plans, wind, store, ports, fun fault => ⟨scanned_cond r fault, scanned_recorded r fault⟩⟩
    case cabin =>
      have lt : k < s.geometry.n := loopTable ▸ (List.getElem?_eq_some_iff.mp was).1
      obtain ⟨new, c, here, there, rfl, door⟩ := scanned_cabin rfl was (reads k (cabins ▸ lt)) (cabinTable ▸ lt)
      refine ⟨_, c, here, there, debounce_eq _ _ _, debounce_eq _ _ _, ?_, door.trans (ofContacts_eq _ _)⟩
      simp [LoopCabin.accept, LoopCabin.ofContacts]
    case berth =>
      intro old new first last
      have same : new = old.accept last (r.berths.get pf) := by
        show (scanned s r).loop.berths.get pf = _
        rw [berths, newContacts_berth]
      have readings : r.berths.get pf = (at' first, at' (first + 1)) := by
        cases pf with
        | a => exact berthsA
        | b => exact berthsB
      rw [same, readings]
      refine ⟨debounce_eq _ _ _, debounce_eq _ _ _, ?_, position_ofContacts _ _⟩
      simp [LoopBerth.accept, LoopBerth.ofContacts]
    case records =>
      intro begins conflict ofCabin ofBerth begun ended cleared' noted' follow'
      have same : begun = begunConflicts s.clock s.loop (newContacts s r) := by
        unfold begunConflicts
        rw [newContacts_length, loopTable]
        simp only [begun, ofCabin, ofBerth, berths, loopCabins]
        rfl
      have start : noted' = noted s r := by
        simp only [noted', same, loop]
        rfl
      refine ⟨same ▸ scanned_conflicts s r, ?_⟩
      rw [start]
      have visits := visitsFed_eq_follow s r (position := fun pf => ((scanned s r).loop.berths.get pf).position)
        fun pf => by rw [berths]
      exact congrArg (fun u : State => u.judgeAway.refresh) visits
    case moved =>
      have moved := (scanned_moved s r pf).clauses
      rw [← berths] at moved
      exact moved

end Sys2Proof.StatusLoop
end

section
/-! The closing of a visit: DISPATCH (R69, R70) and the crossings and retreats that end or close it (R63, R70, R71, R74,
R75, R77, R80). -/

namespace Sys2Proof.BerthVisits

open Machine CabinTable StatusLoop

/-! ## Entering CLOSING -/

/-- A platform's door commanded to CLOSE, with its current visit and its actuator timer written. -/
def doorClosing (s : State) (pf : Platform) (w : Visit) (timer : Option Nat) : State :=
  actuated s pf .close { s.sequencers.get pf with current := some w, actuatorTimer := timer }

theorem visited_command (s : State) (pf : Platform) (w : Visit) (timer : Option Nat) :
    visited (s.command pf .close) pf w timer = doorClosing s pf w timer := rfl

/-- The door is not LATCHED: the visit stays in CLOSING, its timer started (R69, R71). -/
theorem beginClosing_unlatched {s : State} {v : Visit} (pf : Platform) (door : s.doorOf v.cabin ≠ .latched) :
    s.beginClosing pf v =
      doorClosing s pf { v with state := .closing, retries := 0 } (some s.settings.actuatorTime) := by
  rw [beginClosing_eq, if_neg door, visited_command]

/-- The door is LATCHED already: SECURED, the timer stopped (R70). -/
theorem beginClosing_secured {s : State} {v : Visit} (pf : Platform) (door : s.doorOf v.cabin = .latched)
    (late : v.late = false) (lost : v.positionLost = false) :
    s.beginClosing pf v = doorClosing s pf { v with state := .secured, retries := 0 } none := by
  rw [beginClosing_eq, if_pos door, if_neg (by simp [late, lost]), visited_command]

/-- The door is LATCHED already, and the visit is late or without its position: its end (R77, R80). -/
theorem beginClosing_ended {s : State} {v : Visit} (pf : Platform) (door : s.doorOf v.cabin = .latched)
    (ended : v.late = true ∨ v.positionLost = true) :
    s.beginClosing pf v =
      (doorClosing s pf { v with state := .closing, retries := 0 } (some s.settings.actuatorTime)).endVisit pf
        { v with state := .closing, retries := 0 } := by
  rw [beginClosing_eq, if_pos door, if_pos (by simpa using ended), visited_command]

/-! ## DISPATCH -/

theorem beginClosing_ports (s : State) (pf : Platform) (v : Visit) : (s.beginClosing pf v).ports = s.ports := by
  rw [beginClosing_eq]
  split
  · split
    · exact (fed_endVisit _ pf _).ports
    · rfl
  · rfl

/-- DISPATCH is open on the port of a platform (R175). -/
theorem kindOpen_dispatch {p : Port} {pf : Platform} (h : portPlatform p = some pf) : kindOpen 0x26 p = true := by
  rcases platformPort_of h with rfl | rfl <;> rfl

theorem ownDispatch_vacant {s : State} {pf : Platform} (number : Nat) (vacant : (s.sequencers.get pf).current = none) :
    ownDispatch number s pf = s.refuse .wrongState := by
  unfold ownDispatch
  rw [vacant]

/-- DISPATCH at a platform with a visit, by its tests in order (R69). -/
theorem ownDispatch_visit {s : State} {pf : Platform} {v : Visit} (number : Nat)
    (visit : (s.sequencers.get pf).current = some v) :
    ownDispatch number s pf =
      if v.number ≠ number then s.refuse .stale
      else if v.state ≠ .opened then s.refuse .wrongState
      else State.accept (s.beginClosing pf v).refresh [] := by
  unfold ownDispatch
  rw [visit]

/-- Settles O28: the tests are those of `ownDispatch_visit`; accepted, the visit enters CLOSING by the three cases of
its door and its flags. -/
theorem dispatchClosesTheVisit : Obligations.DispatchClosesTheVisit := by
  unfold Obligations.DispatchClosesTheVisit
  intro p pf number s ready at_
  refine ⟨_, State.request_ready ready _ (kindOpen_dispatch at_), fun vacant => ?vacant, ?_⟩
  case vacant => exact refused_of ((atPlatform_eq at_ s _).trans (ownDispatch_vacant number vacant))
  intro v visit q w after restarted
  have tests : s.atPlatform p (ownDispatch number) = _ := (atPlatform_eq at_ s _).trans (ownDispatch_visit number visit)
  refine ⟨fun other => ?stale, fun same state => ?wrongState, fun same state => ?accepted⟩
  case stale => exact refused_of (tests.trans (if_pos other))
  case wrongState => exact refused_of (tests.trans ((if_neg (not_not.mpr same)).trans (if_pos state)))
  case accepted =>
    have run := tests.trans ((if_neg (not_not.mpr same)).trans (if_neg (not_not.mpr state)))
    obtain ⟨eq, replied⟩ := accepted_of (p := p) (kind := 0x26) run (beginClosing_ports s pf v)
    generalize State.reply p 0x26 _ = t at eq replied ⊢
    refine ⟨replied, fun door => ?_, fun door late lost => ?_, fun door ended => ?_⟩
    · rwa [beginClosing_unlatched pf door] at eq
    · rwa [beginClosing_secured pf door late lost] at eq
    · rwa [beginClosing_ended pf door ended] at eq

/-! ## Crossings of the cabin in visit -/

theorem takeClose_other {s : State} {pf : Platform} {k : Nat}
    (other : ∀ v, (s.sequencers.get pf).current = some v → v.cabin ≠ k) : s.takeClose pf k = s := by
  unfold State.takeClose
  split
  · next v visit => exact if_neg fun h => other v visit h.1
  · rfl

theorem takeExit_other {s : State} {pf : Platform} {k : Nat}
    (other : ∀ v, (s.sequencers.get pf).current = some v → v.cabin ≠ k) : s.takeExit pf k = s := by
  unfold State.takeExit
  split
  · next v visit => exact if_pos (other v visit)
  · rfl

theorem takeRetreat_other {s : State} {pf : Platform} {k : Nat}
    (other : ∀ v, (s.sequencers.get pf).current = some v → v.cabin ≠ k) : s.takeRetreat pf k = s := by
  unfold State.takeRetreat
  split
  · next v visit => exact if_pos (other v visit)
  · rfl

/-- R71. -/
theorem takeClose_own {s : State} {pf : Platform} {v : Visit} (visit : (s.sequencers.get pf).current = some v) :
    s.takeClose pf v.cabin = if v.state ∈ [.opened, .opening] then s.beginClosing pf v else s := by
  unfold State.takeClose
  simp only [visit, true_and, List.mem_cons, List.not_mem_nil, or_false]

/-- R74, R75. -/
theorem takeExit_own {s : State} {pf : Platform} {v : Visit} (visit : (s.sequencers.get pf).current = some v) :
    s.takeExit pf v.cabin =
      if v.state ∈ [.passing, .secured] then s.endVisit pf v
      else if v.state = .closing then s.makeLate pf { v with late := true }
      else (s.makeLate pf { v with late := true }).beginClosing pf { v with late := true } := by
  unfold State.takeExit
  simp only [visit, ne_eq, not_true_eq_false, if_false]
  split <;> next state => simp [state]

/-- R63. -/
theorem takeRetreat_own {s : State} {pf : Platform} {v : Visit} (visit : (s.sequencers.get pf).current = some v) :
    s.takeRetreat pf v.cabin =
      if v.state = .passing then s.endVisit pf v
      else if v.state = .opening ∧ s.doorOf v.cabin = .latched then
        (s.command pf .close).endVisit pf { v with retreated := true }
      else s := by
  unfold State.takeRetreat
  simp only [visit, ne_eq, not_true_eq_false, if_false]

/-- Which states a CLOSE crossing, an EXIT crossing and an ENTER retreat pass by (R63, R71, R74). -/
theorem states_apart (x : VisitState) :
    (x ∈ [.passing, .closing, .secured] → x ∉ [.opened, .opening]) ∧
    (x ∈ [.opened, .opening] → x ∉ [.passing, .secured] ∧ x ≠ .closing) ∧
    (x ∈ [.opened, .closing, .secured] → x ≠ .passing ∧ x ≠ .opening) := by
  cases x <;> decide

/-- The DOOR_LATE condition leaves the doors and the settings. -/
theorem makeLate_doorOf (s : State) (pf : Platform) (v : Visit) (k : Nat) :
    (s.makeLate pf v).doorOf k = s.doorOf k := by
  unfold State.doorOf
  rw [show (s.makeLate pf v).cabins = s.cabins from (State.formDoorLate_reaction _).cabins]

theorem makeLate_settings (s : State) (pf : Platform) (v : Visit) : (s.makeLate pf v).settings = s.settings :=
  congrArg Store.working (State.formDoorLate_reaction _).store

/-- Settles O49: the crossings and the retreat are those of `takeClose_own`, `takeExit_own` and `takeRetreat_own`, what
closes a visit is `beginClosing` by its three cases. -/
theorem crossingsMoveTheVisit : Obligations.CrossingsMoveTheVisit := by
  unfold Obligations.CrossingsMoveTheVisit
  refine ⟨fun s pf k => ⟨fun other => ⟨takeClose_other other, takeExit_other other⟩, ?crossing⟩,
    fun s pf k => ⟨fun other => takeRetreat_other other, ?retreat⟩⟩
  case crossing =>
    rintro v visit rfl late marked
    have close := takeClose_own visit
    obtain ⟨passedBy, closes, -⟩ := states_apart v.state
    have exit := takeExit_own visit
    refine ⟨fun state => ?_, fun state door => ?_, fun state door punctual kept => ?_, fun state door ended => ?_,
      fun state => ?_, fun state => ?_, fun state door => ?_, fun state door => ?_⟩
    · rw [close, if_neg (passedBy state)]
    · rw [close, if_pos state]
      exact beginClosing_unlatched pf door
    · rw [close, if_pos state]
      exact beginClosing_secured pf door punctual kept
    · rw [close, if_pos state]
      exact beginClosing_ended pf door ended
    · rw [exit, if_pos state]
    · rw [exit, if_neg (by simp [state]), if_pos state]
      rfl
    all_goals
      obtain ⟨stays, notClosing⟩ := closes state
      have entered : s.takeExit pf v.cabin = (marked late).beginClosing pf late := by
        rw [exit, if_neg stays, if_neg notClosing]
        rfl
      have sameDoor : (marked late).doorOf late.cabin = s.doorOf v.cabin := makeLate_doorOf s pf late v.cabin
      have time : (marked late).settings = s.settings := makeLate_settings s pf late
      rw [entered, ← time]
    · exact beginClosing_unlatched pf (sameDoor ▸ door)
    · exact beginClosing_ended pf (sameDoor.trans door) (.inl rfl)
  case retreat =>
    rintro v visit rfl
    have retreat := takeRetreat_own visit
    refine ⟨fun state => ?_, fun state door => ?_, fun state door => ?_, fun state => ?_⟩
    · rw [retreat, if_pos state]
    · rw [retreat, if_neg (by simp [state]), if_pos ⟨state, door⟩]
      rfl
    · rw [retreat, if_neg (by simp [state]), if_neg fun h => door h.2]
    · obtain ⟨-, -, ashore⟩ := states_apart v.state
      obtain ⟨notPassing, notOpening⟩ := ashore state
      rw [retreat, if_neg notPassing, if_neg fun h => notOpening h.1]

end Sys2Proof.BerthVisits
end

section
/-! HOLD RELEASE (R141, R142, R66). -/

namespace Sys2Proof.BerthVisits

open Machine CabinTable

/-- R142: the greatest grade is BRAKE. -/
theorem grade_lt_brake_iff (g : Grade) : g.value < Grade.brake.value ↔ g ≠ .brake := by cases g <;> decide

/-- The tests of R141 and R142, in order. -/
theorem releaseResult_eq (r : HoldRecord) (v : Int) :
    releaseResult r v =
      if r.latched = r.cond then .stillActive
      else if r.latched = .brake ∧ r.cond ≠ .brake ∧ v ≠ 0 then .wrongState
      else .accepted := by
  simp only [releaseResult, grade_lt_brake_iff]

/-- A source that a release leaves: its latch at its condition, with or without auto-release (R137, R141). -/
theorem latchOf_released (auto : Bool) (r : HoldRecord) : latchOf auto r.released = r.cond := by
  simp only [latchOf, HoldRecord.released, max_none, ite_self]

theorem release_holds (s : State) (src : Source) :
    let r := s.holds.table.get src
    (s.release src).holds.table.get src = { cond := r.cond, peak := r.cond, floor := .none, latched := r.cond } ∧
    (s.release src).holds.held = (s.release src).holds.table.heldGrade := by
  intro r
  have holds : (s.release src).holds = _ := s.changeSource_holds src HoldRecord.released
  rw [holds]
  refine ⟨?_, by dsimp only⟩
  rw [HoldTable.get_set_same, latchOf_released]
  rfl

/-- R137: a latch is never below the condition it stands for. -/
theorem cond_le_latched {auto : Bool} {r : HoldRecord} (h : RecordDerived auto r) :
    r.cond.value ≤ r.latched.value := by
  obtain ⟨peak, latch⟩ := h
  rw [latch, latchOf]
  split <;> rw [Grade.value_max]
  · exact Nat.le_max_left ..
  · exact peak.trans (Nat.le_max_left ..)

/-- A latch that falls is recorded (R138). -/
theorem logLatch_lowered {s : State} {src : Source} {old new : Grade} (h : new.value < old.value) :
    s.logLatch src old new = s.logHold .holdReleased src new old.value := by
  unfold State.logLatch
  rw [if_neg (by omega), if_pos h]

/-- A change of a source records the move of its latch ahead of all that the held grade sets off (R138). -/
theorem changeSource_recorded (s : State) (src : Source) (f : HoldRecord → HoldRecord) {x : Holds}
    (hx : (s.changeSource src f).holds = x) : ∃ more, Recorded
      (State.logLatch { s with holds := x } src (s.holds.table.get src).latched (x.table.get src).latched)
      (s.changeSource src f) more := by
  rw [changeSource_eq hx]
  split
  · exact ⟨[], rfl⟩
  · exact (State.heldChanged_reaction _ _ _).events

theorem release_recorded {s : State} {src : Source}
    (lowers : (s.holds.table.get src).cond.value < (s.holds.table.get src).latched.value) :
    ∃ more, Recorded s (s.release src)
      ({ time := s.clock, kind := .holdReleased, cabin := none, platform := none, source := some src
         grade := some (s.holds.table.get src).cond, value := (s.holds.table.get src).latched.value } :: more) := by
  obtain ⟨more, rest⟩ := changeSource_recorded s src HoldRecord.released (x := (s.release src).holds) rfl
  obtain ⟨record, -⟩ := release_holds s src
  rw [record, logLatch_lowered lowers] at rest
  have first : Recorded s (State.logHold { s with holds := (s.release src).holds } .holdReleased src
    (s.holds.table.get src).cond (s.holds.table.get src).latched.value) [_] := recorded_congr (recorded_append _ _) rfl
  exact ⟨more, recorded_trans first rest⟩

/-- A release that is refused replies the record as it stands (R141). -/
theorem ownHoldRelease_refused {s : State} {src : Source} {r : Result} (refused : r ≠ .accepted)
    (result : releaseResult (s.holds.table.get src) s.position.v = r) :
    ownHoldRelease src.number s = { state := s, result := r, payload := s.releaseReply src, rollover := none } := by
  unfold ownHoldRelease
  simp only [source_ofNumber_number, result, refused, if_false]

theorem ownHoldRelease_accepted {s : State} {src : Source}
    (result : releaseResult (s.holds.table.get src) s.position.v = .accepted) :
    ownHoldRelease src.number s = State.accept (s.release src) ((s.release src).releaseReply src) := by
  unfold ownHoldRelease
  simp only [source_ofNumber_number, result, if_true]
  rfl

theorem ownHoldRelease_badField (s : State) {source : Nat} (big : 17 < source) :
    ownHoldRelease source s = s.refuse .badField := by
  unfold ownHoldRelease
  rw [source_ofNumber_of_lt big]

theorem released_refused {s : State} {p : Port} {kind : Nat} {src : Source} {r : Result} (refused : r ≠ .accepted)
    (result : releaseResult (s.holds.table.get src) s.position.v = r) :
    RepliedOnly s (State.reply p kind (ownHoldRelease src.number s)) p kind r (s.releaseReply src) := by
  rw [ownHoldRelease_refused refused result]
  exact ⟨rfl, replied_of_reply (a := ⟨s, r, s.releaseReply src, none⟩) rfl rfl rfl⟩

/-- Settles O31: the tests are those of `releaseResult_eq`; accepted, the change of the source has the frame of
`holdFrame_changeSource`, its record is `release_holds` and its first event `release_recorded`. -/
theorem holdReleaseLowersToTheCondition : Obligations.HoldReleaseLowersToTheCondition := by
  unfold Obligations.HoldReleaseLowersToTheCondition
  intro source s ready derived
  refine ⟨_, State.request_ready ready _ rfl, fun big => refused_of (ownHoldRelease_badField s big), ?_⟩
  rintro src rfl old bytes moving new
  have result : releaseResult old s.position.v = _ := releaseResult_eq old s.position.v
  refine ⟨fun active => ?stillActive, fun latched turning => ?wrongState, fun latched still => ?accepted⟩
  case stillActive => exact released_refused nofun (result.trans (if_pos active))
  case wrongState => exact released_refused nofun (result.trans ((if_neg latched).trans (if_pos turning)))
  case accepted =>
    have run := ownHoldRelease_accepted (result.trans ((if_neg latched).trans (if_neg still)))
    obtain ⟨eq, replied⟩ := accepted_of (s := s) (p := .controlRoom) (kind := 0x41) run
      (State.changeSource_reaction s src _).ports
    obtain ⟨record, held⟩ := release_holds s src
    have reply : (s.release src).releaseReply src = bytes new (s.release src).holds.held := by
      unfold State.releaseReply
      rw [record]
    have lowers : old.cond.value < old.latched.value :=
      lt_of_le_of_ne (cond_le_latched (derived.1 src)) fun e => latched (Grade.value_injective e).symm
    obtain ⟨more, recorded⟩ := release_recorded lowers
    rw [reply] at replied
    generalize State.reply .controlRoom 0x41 _ = t at eq replied ⊢
    have holds : t.holds = (s.release src).holds := by rw [eq]
    have events : t.events = (s.release src).events := by rw [eq]
    rw [holds]
    refine ⟨?_, ?_, record, held, ⟨more, events.trans recorded⟩, replied⟩
    · rw [eq]
      exact (holdFrame_changeSource s src HoldRecord.released).setPorts t.ports
    · rw [eq]
      exact formed_of_same (State.refresh_formed _) rfl rfl rfl rfl rfl rfl rfl rfl (fun _ => rfl) fun _ => rfl

end Sys2Proof.BerthVisits
end

section
/-! The beginning of a visit: the record and the directive decided at ENTER (R60, R61), the ENTER crossing (R62, R64,
R65, R66, R107). -/

namespace Sys2Proof.BerthVisits

open Machine CabinTable StatusLoop

/-! ## The directive -/

theorem allowsAlighting_iff (role : Role) :
    role.allowsAlighting = true ↔ role = .boardAlight ∨ role = .alightOnly := by
  cases role <;> decide

theorem role_allowsBoarding_iff (role : Role) :
    role.allowsBoarding = true ↔ role = .boardAlight ∨ role = .boardOnly := by
  cases role <;> decide

theorem plan_allowsBoarding_iff (d : Option PlanDirective) :
    allowsBoarding d = true ↔ d = none ∨ ∃ tag, d = some (.reserved tag) := by
  rcases d with _ | d
  · simp [allowsBoarding]
  · cases d <;> simp [allowsBoarding]

/-- Below UNLOAD the held grade is NONE or LIMIT. -/
theorem below_unload_iff (g : Grade) : g.atLeast .unload = false ↔ g ∈ [.none, .limit] := by cases g <;> decide

/-- R61, step 3. -/
theorem alightingDue_iff (s : State) (role : Role) (d : Option PlanDirective) (c : Cabin) :
    s.alightingDue role d c = true ↔
      d ≠ some .pass ∧ (role = .boardAlight ∨ role = .alightOnly) ∧
      (c.occupancyUnknown = true ∨ (0 < c.occupancy ∧ s.settings.rideLength ≤ s.distanceRun c)) := by
  simp only [State.alightingDue, Bool.and_eq_true, Bool.or_eq_true, decide_eq_true_eq, allowsAlighting_iff, and_assoc]

/-- R61, step 4. -/
theorem boardingOffered_iff (s : State) (role : Role) (d : Option PlanDirective) (c : Cabin) :
    s.boardingOffered role d c = true ↔
      (role = .boardAlight ∨ role = .boardOnly) ∧ (d = none ∨ ∃ tag, d = some (.reserved tag)) ∧
      c.service = .inService ∧ (c.gate = .opened ∨ c.openOnce = true) ∧ s.holds.held ∈ [.none, .limit] ∧
      ((c.occupancy = 0 ∧ c.occupancyUnknown = false) ∨ s.alightingDue role d c = true) := by
  simp only [State.boardingOffered, Cabin.knownEmpty, Bool.and_eq_true, Bool.or_eq_true, decide_eq_true_eq,
    Bool.not_eq_true', role_allowsBoarding_iff, plan_allowsBoarding_iff, below_unload_iff, and_assoc]

/-- R61, step 5. -/
theorem directive_of_iff (alight board : Bool) :
    (Directive.of alight board = .alightBoard ↔ alight = true ∧ board = true) ∧
    (Directive.of alight board = .alight ↔ alight = true ∧ ¬board = true) ∧
    (Directive.of alight board = .board ↔ ¬alight = true ∧ board = true) ∧
    (Directive.of alight board = .skip ↔ ¬alight = true ∧ ¬board = true) := by
  cases alight <;> cases board <;> decide

/-- A tag is reserved where the plan reserves it (R60). -/
theorem reservedTag_iff (d : Option PlanDirective) (tag : Nat) :
    reservedTag d = some tag ↔ d = some (.reserved tag) := by
  rcases d with _ | d
  · simp [reservedTag]
  · cases d <;> simp [reservedTag]

/-- Settles O47: the steps of R61 are `alightingDue_iff`, `boardingOffered_iff` and `directive_of_iff`. -/
theorem directiveIsDecidedAtEnter : Obligations.DirectiveIsDecidedAtEnter := by
  unfold Obligations.DirectiveIsDecidedAtEnter
  intro s pf k c v role plan run alight board
  have due : alight ↔ c.service ≠ .withdrawn ∧ s.alightingDue role plan c = true :=
    and_congr_right fun _ => (alightingDue_iff s role plan c).symm
  have alights : (!decide (c.service = .withdrawn) && s.alightingDue role plan c) = true ↔ alight := by
    rw [due, Bool.and_eq_true, Bool.not_eq_true', decide_eq_false_iff_not]
  have boards : (!decide (c.service = .withdrawn) && s.boardingOffered role plan c) = true ↔ board := by
    rw [Bool.and_eq_true, Bool.not_eq_true', decide_eq_false_iff_not, boardingOffered_iff]
    constructor
    · rintro ⟨here, allowed, offered, service, gate, held, room⟩
      exact ⟨service, allowed, offered, gate, held, room.imp_right fun alights => due.mpr ⟨here, alights⟩⟩
    · rintro ⟨service, allowed, offered, gate, held, room⟩
      exact ⟨service ▸ nofun, allowed, offered, service, gate, held,
        room.imp_right fun alights => (due.mp alights).2⟩
  obtain ⟨both, alightOnly, boardOnly, skip⟩ := directive_of_iff
    (!decide (c.service = .withdrawn) && s.alightingDue role plan c)
    (!decide (c.service = .withdrawn) && s.boardingOffered role plan c)
  rw [alights, boards] at both alightOnly boardOnly skip
  refine ⟨rfl, rfl, both, alightOnly, boardOnly, skip, boards, fun tag => ?_, rfl, rfl⟩
  show (if c.service = .withdrawn then none else reservedTag plan) = some tag ↔ _
  by_cases withdrawn : c.service = .withdrawn
  · simp [withdrawn]
  · rw [if_neg withdrawn, reservedTag_iff]
    exact (and_iff_right withdrawn).symm

/-! ## The ENTER crossing -/

/-- R60, R62: a visit of directive SKIP is PASSING, any other OPENING. -/
theorem newVisit_state (s : State) (pf : Platform) (k : Nat) (c : Cabin) :
    (s.newVisit pf k c).state = if (s.newVisit pf k c).directive = .skip then .passing else .opening := rfl

/-- A platform's door commanded to OPEN for the cabin in visit, with the visit and the actuator timer written (R62). -/
def doorOpening (s : State) (pf : Platform) (c : Cabin) (v : Visit) (timer : Option Nat) : State :=
  { actuated s pf .opening
      { s.sequencers.get pf with current := some v, visitNumber := v.number, actuatorTimer := timer }
    with cabins := s.cabins.set v.cabin { c with inVisit := some pf } }

theorem createVisit_skip {s : State} {pf : Platform} {k : Nat} {c : Cabin}
    (skip : (s.newVisit pf k c).directive = .skip) :
    s.createVisit pf k c =
      { s with sequencers := s.sequencers.set pf
                 { s.sequencers.get pf with current := some (s.newVisit pf k c)
                                            visitNumber := (s.newVisit pf k c).number } } :=
  if_pos (by rw [newVisit_state, if_pos skip])

/-- The steps in which a visit calls its cabin (R62). -/
theorem doorOpening_steps {s : State} {pf : Platform} {c : Cabin} (v : Visit) (hc : s.cabins[v.cabin]? = some c) :
    State.startTimer
        (((s.setSequencer pf { s.sequencers.get pf with current := some v, visitNumber := v.number }).command pf
          .opening).modifyCabin v.cabin fun c => { c with inVisit := some pf }) pf =
      doorOpening s pf c v (some s.settings.actuatorTime) := by
  refine (congrArg (fun u : State => u.startTimer pf) (modifyCabin_eq (c := c) ?cabin _)).trans ?_
  case cabin => exact hc
  simp only [State.startTimer, State.setTimer, State.setSequencer, State.command, PerPlatform.get_set_same,
    set_set_same]
  rfl

/-- R62: the visit begun, with its VISIT_START, ahead of the test for OPEN (R65). -/
theorem createVisit_opening {s : State} {pf : Platform} {k : Nat} {c : Cabin} (hc : s.cabins[k]? = some c)
    (calls : (s.newVisit pf k c).directive ≠ .skip) :
    let v := s.newVisit pf k c
    s.createVisit pf k c =
      (State.append (doorOpening s pf c v (some s.settings.actuatorTime))
        (berthRecord s .visitStart k pf v.directive.code)).testOpen pf v := by
  intro v
  have awaits : v.state ≠ .passing := by rw [newVisit_state, if_neg calls]; nofun
  unfold State.createVisit
  dsimp only
  rw [if_neg awaits]
  exact congrArg (fun u : State => (u.logBerth .visitStart k pf v.directive.code).testOpen pf v)
    (doorOpening_steps v hc)

/-- The test for OPEN (R65, R66). -/
theorem testOpen_eq {s : State} {pf : Platform} {v : Visit} (state : v.state = .opening) :
    s.testOpen pf v =
      if (s.loop.berths.get pf).position = .opened ∧ s.doorOf v.cabin = .opened then
        askedIfAllowed (visited s pf { v with state := .opened } none) pf
      else s := by
  unfold State.testOpen
  rw [setVisit_setTimer, assignIfDue_eq]
  simp only [state, true_and]

theorem doorOpening_doorOf {s : State} {pf : Platform} {c : Cabin} {v : Visit} (hc : s.cabins[v.cabin]? = some c)
    (timer : Option Nat) : (doorOpening s pf c v timer).doorOf v.cabin = c.door := by
  have lt : v.cabin < s.cabins.length := (List.getElem?_eq_some_iff.mp hc).1
  unfold State.doorOf doorOpening
  rw [List.getElem?_set_self lt]

theorem append_doorOf (s : State) (r : EventRecord) (k : Nat) : (s.append r).doorOf k = s.doorOf k := by
  unfold State.doorOf
  rw [(s.append_reaction r).cabins]

/-- A visit written ahead of an append or after it. -/
theorem visited_append (s : State) (r : EventRecord) (pf : Platform) (v : Visit) (timer : Option Nat) :
    visited (s.append r) pf v timer = (visited s pf v timer).append r := by
  rw [append_eq_of_events (s := s) (t := visited s pf v timer) rfl r, append_eq_of_events (s := s) (t := s) rfl r]
  rfl

theorem visited_doorOpening (s : State) (pf : Platform) (c : Cabin) (v : Visit) (timer : Option Nat) :
    visited (doorOpening s pf c v timer) pf { v with state := .opened } none =
      doorOpening s pf c { v with state := .opened } none := by
  simp only [visited, doorOpening, actuated, PerPlatform.get_set_same, set_set_same]

/-- A visit that calls the cabin, by the actuator position and the door (R62, R65). -/
theorem createVisit_calls {s : State} {pf : Platform} {k : Nat} {c : Cabin} (hc : s.cabins[k]? = some c)
    (calls : (s.newVisit pf k c).directive ≠ .skip) :
    let v := s.newVisit pf k c
    let start := berthRecord s .visitStart k pf v.directive.code
    s.createVisit pf k c =
      if (s.loop.berths.get pf).position = .opened ∧ c.door = .opened then
        askedIfAllowed (State.append (doorOpening s pf c { v with state := .opened } none) start) pf
      else State.append (doorOpening s pf c v (some s.settings.actuatorTime)) start := by
  intro v start
  have state : v.state = .opening := by rw [newVisit_state, if_neg calls]
  have door : (doorOpening s pf c v (some s.settings.actuatorTime)).doorOf v.cabin = c.door := doorOpening_doorOf hc _
  rw [createVisit_opening hc calls, testOpen_eq state, append_doorOf, door, visited_append, visited_doorOpening,
    (State.append_reaction _ _).loop]
  rfl

/-- The ENTER crossing at a VACANT platform (R62). -/
theorem takeEnter_vacant {s : State} {pf : Platform} {k : Nat} {c : Cabin} (hc : s.cabins[k]? = some c)
    (vacant : (s.sequencers.get pf).current = none) : s.takeEnter pf k = s.createVisit pf k c := by
  unfold State.takeEnter
  simp only [vacant, hc]

/-- The ENTER crossing while a visit holds the platform (R64). -/
theorem takeEnter_held {s : State} {pf : Platform} {k : Nat} {w : Visit}
    (visit : (s.sequencers.get pf).current = some w) :
    s.takeEnter pf k = if w.cabin = k then s else s.missBerth pf k w := by
  unfold State.takeEnter
  rw [visit]

/-- R64, R107: the miss is recorded, and reaches BERTH_MISS where the active bank has it stop the wheel. -/
theorem missBerth_eq (s : State) (pf : Platform) (k : Nat) (w : Visit) :
    let missed := s.append (berthRecord s .missedBerth k pf w.cabin)
    s.missBerth pf k w =
      if s.plans.active.stopOnMiss then missed.deliverEvent .berthMiss s.settings.programmed.berthMiss else missed := by
  intro missed
  have plans : missed.plans = s.plans := (s.append_reaction _).plans
  have store : missed.store = s.store := (s.append_reaction _).store
  have grade : missed.programmed .berthMiss = s.settings.programmed.berthMiss :=
    congrArg (fun x : Store => x.working.programmed.berthMiss) store
  rw [← plans, ← grade]
  rfl

/-- Settles O48: at a VACANT platform the visit is that of `createVisit_skip` or `createVisit_calls`, at any other the
crossing is ignored or missed. -/
theorem enterStartsAVisit : Obligations.EnterStartsAVisit := by
  unfold Obligations.EnterStartsAVisit
  intro s pf k c hc q t v
  refine ⟨fun vacant skip => ?_, fun vacant calls notOpen => ?_, fun vacant calls position door => ?_,
    fun w visit => ?_⟩
  · exact (takeEnter_vacant hc vacant).trans (createVisit_skip skip)
  · have started : t = _ := (takeEnter_vacant hc vacant).trans (createVisit_calls hc calls)
    rw [if_neg (by rwa [not_and_or])] at started
    rw [started]
    exact ⟨append_eq_of_events rfl _, recorded_congr (recorded_append _ _) rfl⟩
  · have started : t = _ := (takeEnter_vacant hc vacant).trans (createVisit_calls hc calls)
    rwa [if_pos ⟨position, door⟩] at started
  · intro missed
    have taken : t = _ := takeEnter_held visit
    refine ⟨fun own => ?_, fun other passes => ?_, fun other stops => ?_⟩
    · exact taken.trans (if_pos own)
    · rw [if_neg other, missBerth_eq, if_neg (by simp [passes])] at taken
      exact taken
    · rw [if_neg other, missBerth_eq, if_pos stops] at taken
      exact taken

end Sys2Proof.BerthVisits
end

section
/-! The assignment scan of a Party Queue: R95 to R98. -/

namespace Sys2Proof.PartyQueues

open Machine

/-! ## The tests of one entry -/

/-- Table 5-4. -/
theorem fits_iff (o : Offer) (room : Nat) (chosen : List Party) (e : Party) :
    o.fits room chosen e = true ↔
      e.size ≤ room ∧ (e.accessible = true → o.kind = .accessible) ∧
      (o.kind = .letOut ∨ e.alone = true → chosen = []) ∧ (∀ tag, o.reserved = some tag → e.tag = tag) := by
  have accessibility : (!e.accessible || decide (o.kind = .accessible)) = true ↔
      (e.accessible = true → o.kind = .accessible) := by
    cases e.accessible <;> simp
  have privacy : ((decide (o.kind ≠ .letOut) && !e.alone) || chosen.isEmpty) = true ↔
      (o.kind = .letOut ∨ e.alone = true → chosen = []) := by
    cases e.alone <;> by_cases letOut : o.kind = .letOut <;> simp [letOut]
  have reservation : (o.reserved.isNone || decide (o.reserved = some e.tag)) = true ↔
      (∀ tag, o.reserved = some tag → e.tag = tag) := by
    cases o.reserved with
    | none => simp
    | some tag => simp [eq_comm]
  unfold Offer.fits
  simp only [Bool.and_eq_true, accessibility, privacy, reservation, decide_eq_true_eq, and_assoc]

/-- R96: where the scan stops after a choice. -/
theorem full_iff (o : Offer) (room : Nat) (chosen : List Party) (e : Party) :
    o.full room chosen e = true ↔
      room = 0 ∨ o.partyLimit ≤ chosen.length ∨ e.alone = true ∨ o.kind = .letOut := by
  simp only [Offer.full, Bool.or_eq_true, decide_eq_true_eq, or_assoc]

/-! ## The scan entry by entry -/

section
variable {o : Offer} {room : Nat} {chosen : List Party} {e : Party} (passed rest : List Party)

theorem scan_chooses_last (fits : o.fits room chosen e = true)
    (full : o.full (room - e.size) (chosen ++ [e]) e = true) :
    o.scan room chosen passed (e :: rest) =
      { chosen := chosen ++ [e], stay := passed.map Party.overtaken ++ rest } := by
  rw [Offer.scan, if_pos fits, if_pos full]

theorem scan_chooses (fits : o.fits room chosen e = true)
    (goesOn : ¬o.full (room - e.size) (chosen ++ [e]) e = true) :
    o.scan room chosen passed (e :: rest) =
      o.scan (room - e.size) (chosen ++ [e]) (passed.map Party.overtaken) rest := by
  rw [Offer.scan, if_pos fits, if_neg goesOn]

theorem scan_stops (misfit : ¬o.fits room chosen e = true) (limit : o.passLimit ≤ e.passCount) :
    o.scan room chosen passed (e :: rest) = { chosen := chosen, stay := passed ++ e :: rest } := by
  rw [Offer.scan, if_neg misfit, if_pos limit]

theorem scan_passes (misfit : ¬o.fits room chosen e = true) (below : e.passCount < o.passLimit) :
    o.scan room chosen passed (e :: rest) = o.scan room chosen (passed ++ [e]) rest := by
  rw [Offer.scan, if_neg misfit, if_neg (Nat.not_le.mpr below)]

end

/-! ## The parties chosen -/

/-- R95: the choices fit the room that was left. -/
theorem scan_size (o : Offer) (room : Nat) (chosen passed entries : List Party) :
    ((o.scan room chosen passed entries).chosen.map Party.size).sum ≤ (chosen.map Party.size).sum + room := by
  fun_induction Offer.scan o room chosen passed entries with
  | case1 => exact Nat.le_add_right ..
  | case2 room chosen passed e rest fits full =>
    obtain ⟨size, -⟩ := (fits_iff o room chosen e).mp fits
    simpa using size
  | case3 room chosen passed e rest fits goesOn ih =>
    obtain ⟨size, -⟩ := (fits_iff o room chosen e).mp fits
    simp only [List.map_append, List.sum_append, List.map_cons, List.map_nil, List.sum_singleton] at ih
    omega
  | case4 => exact Nat.le_add_right ..
  | case5 room chosen passed e rest misfit below ih => exact ih

/-- R96: the limit on parties per visit. -/
theorem scan_limit (o : Offer) (room : Nat) (chosen passed entries : List Party)
    (below : chosen.length < o.partyLimit) : (o.scan room chosen passed entries).chosen.length ≤ o.partyLimit := by
  fun_induction Offer.scan o room chosen passed entries with
  | case1 => exact below.le
  | case2 room chosen passed e rest fits full =>
    rw [List.length_append]
    exact below
  | case3 room chosen passed e rest fits goesOn ih =>
    rw [full_iff] at goesOn
    exact ih (by omega)
  | case4 => exact below.le
  | case5 room chosen passed e rest misfit limit ih => exact ih below

/-- The cabin's kind and the visit's reserved tag let the party in (R95). -/
def Suits (o : Offer) (e : Party) : Prop :=
  (e.accessible = true → o.kind = .accessible) ∧ ∀ tag, o.reserved = some tag → e.tag = tag

theorem suits_of_fits {o : Offer} {room : Nat} {chosen : List Party} {e : Party} (fits : o.fits room chosen e = true) :
    Suits o e := by
  obtain ⟨-, accessible, -, reserved⟩ := (fits_iff o room chosen e).mp fits
  exact ⟨accessible, reserved⟩

theorem scan_suits (o : Offer) (room : Nat) (chosen passed entries : List Party) (suits : ∀ e ∈ chosen, Suits o e) :
    ∀ e ∈ (o.scan room chosen passed entries).chosen, Suits o e := by
  have more {room : Nat} {chosen : List Party} {e : Party} (suits : ∀ e ∈ chosen, Suits o e)
      (fits : o.fits room chosen e = true) : ∀ d ∈ chosen ++ [e], Suits o d := by
    intro d mem
    rcases List.mem_append.mp mem with mem | mem
    · exact suits d mem
    · exact List.mem_singleton.mp mem ▸ suits_of_fits fits
  fun_induction Offer.scan o room chosen passed entries with
  | case1 => exact suits
  | case2 room chosen passed e rest fits full => exact more suits fits
  | case3 room chosen passed e rest fits goesOn ih => exact ih (more suits fits)
  | case4 => exact suits
  | case5 room chosen passed e rest misfit below ih => exact ih suits

/-- R95, R96: a cabin that is let out, and a party that goes alone, take no other party. -/
theorem scan_alone (o : Offer) (room : Nat) (chosen passed entries : List Party)
    (first : o.kind = .letOut → chosen = []) (shared : ∀ e ∈ chosen, e.alone = false)
    (alone : o.kind = .letOut ∨ ∃ e ∈ (o.scan room chosen passed entries).chosen, e.alone = true) :
    (o.scan room chosen passed entries).chosen.length ≤ 1 := by
  have still {chosen : List Party} (first : o.kind = .letOut → chosen = []) (shared : ∀ e ∈ chosen, e.alone = false)
      (alone : o.kind = .letOut ∨ ∃ e ∈ chosen, e.alone = true) : chosen.length ≤ 1 := by
    rcases alone with letOut | ⟨e, mem, alone⟩
    · simp [first letOut]
    · simp [shared e mem] at alone
  fun_induction Offer.scan o room chosen passed entries with
  | case1 => exact still first shared alone
  | case2 room chosen passed e rest fits full =>
    obtain ⟨-, -, privacy, -⟩ := (fits_iff o room chosen e).mp fits
    have empty : chosen = [] := by
      rcases alone with letOut | ⟨d, mem, alone⟩
      · exact first letOut
      · rcases List.mem_append.mp mem with mem | mem
        · simp [shared d mem] at alone
        · exact privacy (.inr (List.mem_singleton.mp mem ▸ alone))
    simp [empty]
  | case3 room chosen passed e rest fits goesOn ih =>
    rw [full_iff] at goesOn
    simp only [not_or, Bool.not_eq_true] at goesOn
    obtain ⟨-, -, shares, cabin⟩ := goesOn
    refine ih (fun letOut => absurd letOut cabin) (fun d mem => ?_) alone
    rcases List.mem_append.mp mem with mem | mem
    · exact shared d mem
    · exact List.mem_singleton.mp mem ▸ shares
  | case4 => exact still first shared alone
  | case5 room chosen passed e rest misfit below ih => exact ih first shared alone

/-! ## The entries that stay -/

/-- The same party, its pass count risen or as it was (R97). -/
def Raised (e d : Party) : Prop := d = { e with passCount := d.passCount } ∧ e.passCount ≤ d.passCount

theorem Raised.refl (e : Party) : Raised e e := ⟨rfl, le_rfl⟩

theorem Raised.trans {e d c : Party} (h : Raised e d) (k : Raised d c) : Raised e c := by
  obtain ⟨same, risen⟩ := h
  obtain ⟨same', risen'⟩ := k
  refine ⟨?_, risen.trans risen'⟩
  rw [same'.trans (congrArg (fun x : Party => { x with passCount := c.passCount }) same)]

theorem forall₂_raised_trans {xs ys zs : List Party} (h : List.Forall₂ Raised xs ys) (k : List.Forall₂ Raised ys zs) :
    List.Forall₂ Raised xs zs := by
  induction h generalizing zs with
  | nil => exact k
  | cons raised _ ih =>
    cases k with
    | cons more rest => exact .cons (raised.trans more) (ih rest)

theorem raised_overtaken {e : Party} (most : e.passCount ≤ 7) : Raised e e.overtaken :=
  ⟨rfl, Nat.le_min.mpr ⟨most, Nat.le_succ _⟩⟩

theorem raised_map_overtaken {passed : List Party} (most : ∀ e ∈ passed, e.passCount ≤ 7) :
    List.Forall₂ Raised passed (passed.map Party.overtaken) := by
  rw [List.forall₂_map_right_iff, List.forall₂_same]
  exact fun e mem => raised_overtaken (most e mem)

theorem overtaken_most {passed : List Party} : ∀ e ∈ passed.map Party.overtaken, e.passCount ≤ 7 := by
  intro e mem
  obtain ⟨d, -, rfl⟩ := List.mem_map.mp mem
  exact Nat.min_le_left ..

/-- The scan parts the entries: it adds some of them to the choices, and the others stay in their order behind those
passed already. -/
theorem scan_parts (o : Offer) (room : Nat) (chosen passed entries : List Party) :
    ∃ picked kept : List Party, (o.scan room chosen passed entries).chosen = chosen ++ picked ∧
      picked.Sublist entries ∧ kept.Sublist entries ∧ (picked ++ kept).Perm entries ∧
      (o.scan room chosen passed entries).stay.length = passed.length + kept.length ∧
      ((∀ e ∈ passed ++ entries, e.passCount ≤ 7) →
        List.Forall₂ Raised (passed ++ kept) (o.scan room chosen passed entries).stay) := by
  have same (xs : List Party) : List.Forall₂ Raised xs xs := List.forall₂_same.mpr fun e _ => .refl e
  fun_induction Offer.scan o room chosen passed entries with
  | case1 room chosen passed =>
    exact ⟨[], [], (List.append_nil _).symm, .refl _, .refl _, .refl _, rfl, fun _ => by simpa using same passed⟩
  | case2 room chosen passed e rest fits full =>
    refine ⟨[e], rest, rfl, by simp, List.sublist_cons_self e rest, .refl _, by simp, fun most => ?_⟩
    exact List.rel_append (raised_map_overtaken fun d mem => most d (List.mem_append_left _ mem)) (same rest)
  | case3 room chosen passed e rest fits goesOn ih =>
    obtain ⟨picked, kept, choices, picks, keeps, perm, length, raised⟩ := ih
    refine ⟨e :: picked, kept, by simp [choices], picks.cons_cons e, keeps.cons e, perm.cons e, by simpa using length,
      fun most => ?_⟩
    have later : ∀ d ∈ passed.map Party.overtaken ++ rest, d.passCount ≤ 7 := by
      intro d mem
      rcases List.mem_append.mp mem with mem | mem
      · exact overtaken_most d mem
      · exact most d (by simp [mem])
    have first : List.Forall₂ Raised (passed ++ kept) (passed.map Party.overtaken ++ kept) :=
      List.rel_append (raised_map_overtaken fun d mem => most d (List.mem_append_left _ mem)) (same kept)
    exact forall₂_raised_trans first (raised later)
  | case4 room chosen passed e rest misfit limit =>
    exact ⟨[], e :: rest, (List.append_nil _).symm, List.nil_sublist _, .refl _, .refl _, by simp, fun _ => same _⟩
  | case5 room chosen passed e rest misfit below ih =>
    obtain ⟨picked, kept, choices, picks, keeps, perm, length, raised⟩ := ih
    refine ⟨picked, e :: kept, choices, picks.cons e, keeps.cons_cons e, ?_, ?_, fun most => ?_⟩
    · exact List.perm_middle.trans (perm.cons e)
    · simp only [length, List.length_append, List.length_cons, List.length_nil]
      omega
    · simpa using raised (by simpa using most)

/-- The scan loses no party. -/
theorem scan_length (o : Offer) (room : Nat) (entries : List Party) :
    (o.scan room [] [] entries).chosen.length + (o.scan room [] [] entries).stay.length = entries.length := by
  obtain ⟨picked, kept, choices, -, -, perm, length, -⟩ := scan_parts o room [] [] entries
  rw [choices, length, ← perm.length_eq]
  simp

/-- An entry at the front that fits is the first choice (R96). -/
theorem scan_head {o : Offer} {capacity : Nat} {e : Party} (rest : List Party) (fits : o.fits capacity [] e = true) :
    (o.scan capacity [] [] (e :: rest)).chosen.head? = some e := by
  by_cases full : o.full (capacity - e.size) ([] ++ [e]) e = true
  · rw [scan_chooses_last [] rest fits full]
    rfl
  · rw [scan_chooses [] rest fits full]
    obtain ⟨picked, -, choices, -⟩ := scan_parts o (capacity - e.size) ([] ++ [e]) ([].map Party.overtaken) rest
    rw [choices]
    rfl

/-- Settles O25: what is chosen and what stays by the lemmas above, the scan entry by entry by the equations of its four
branches. -/
theorem assignmentKeepsToTheCabin : Obligations.AssignmentKeepsToTheCabin := by
  unfold Obligations.AssignmentKeepsToTheCabin
  constructor
  · intro o capacity entries limit r same
    obtain ⟨picked, kept, choices, picks, keeps, perm, -, stays⟩ := scan_parts o capacity [] [] entries
    have choices : r.chosen = picked := choices
    have suits := scan_suits o capacity [] [] entries (by simp)
    have alone := scan_alone o capacity [] [] entries (fun _ => rfl) (by simp)
    refine ⟨by simpa using scan_size o capacity [] [] entries, scan_limit o capacity [] [] entries limit,
      scan_length o capacity entries, choices ▸ picks, ⟨kept, keeps, choices ▸ perm, fun most => ?_⟩,
      fun e mem => (suits e mem).1, fun letOut => alone (.inl letOut), fun ⟨e, mem, solitary⟩ => ?_,
      fun tag reserved e mem => (suits e mem).2 tag reserved, ?_, ?_⟩
    · exact stays most
    · have chooses : 0 < r.chosen.length := List.length_pos_of_mem mem
      have one : r.chosen.length ≤ 1 := alone (.inr ⟨e, mem, solitary⟩)
      omega
    · rintro e rest rfl fits
      exact scan_head rest fits
    · rintro e rest rfl misfit limit
      exact scan_stops [] rest (by simp [misfit]) limit
  · intro o room chosen passed e rest fits next raised stops
    have fit : o.fits room chosen e = true ↔ fits := fits_iff o room chosen e
    have full : o.full (room - e.size) (chosen ++ [e]) e = true ↔ stops := full_iff o _ _ e
    exact ⟨rfl, fun h k => scan_chooses_last passed rest (fit.mpr h) (full.mpr k),
      fun h k => scan_chooses passed rest (fit.mpr h) (mt full.mp k),
      fun h limit => scan_stops passed rest (mt fit.mp h) limit,
      fun h below => scan_passes passed rest (mt fit.mp h) below⟩

end Sys2Proof.PartyQueues
end

section
/-! The requests to a Party Queue: PARTY ADD (R87 to R90) and PARTY CANCEL (R91). -/

namespace Sys2Proof.PartyQueues

open Machine CabinTable

/-! ## Tags in use (R87) -/

theorem tagAboard_iff (s : State) (tag : Nat) : s.tagAboard tag = true ↔ ∃ k, TagAboard s k tag := by
  simp only [State.tagAboard, Cabin.hasAboard, TagAboard, List.any_eq_true, decide_eq_true_eq]
  constructor
  · rintro ⟨c, mem, aboard⟩
    obtain ⟨k, hc⟩ := List.mem_iff_getElem?.mp mem
    exact ⟨k, c, hc, aboard⟩
  · rintro ⟨k, c, hc, aboard⟩
    exact ⟨c, List.mem_of_getElem? hc, aboard⟩

theorem tagInUse_iff (s : State) (tag : Nat) : s.tagInUse tag = true ↔
    (∃ pf, TagQueued s pf tag) ∨ (∃ pf, TagAssigned s pf tag) ∨ ∃ k, TagAboard s k tag := by
  simp only [State.tagInUse, Bool.or_eq_true, tagQueued_iff, tagAssigned_iff, tagAboard_iff, or_assoc]

/-! ## PARTY ADD -/

theorem freePlaces_eq_zero_iff (q : Queue) : q.freePlaces = 0 ↔ 16 ≤ q.entries.length + q.outCount := by
  unfold Queue.freePlaces
  omega

theorem couldTake_iff (c : Cabin) (access : Bool) :
    c.couldTake access = true ↔ c.service = .inService ∧ (access = true → c.kind = .accessible) := by
  cases access <;> simp [Cabin.couldTake]

/-- The greatest of the figures of some entries of a list, and of a figure to begin with, is below `n` where all are. -/
theorem foldl_max_lt_iff {α : Type} (counts : α → Bool) (figure : α → Nat) (n : Nat) (xs : List α) (m : Nat) :
    xs.foldl (fun m x => if counts x then Nat.max m (figure x) else m) m < n ↔
      m < n ∧ ∀ x ∈ xs, counts x = true → figure x < n := by
  induction xs generalizing m with
  | nil => simp
  | cons x rest ih =>
    rw [List.foldl_cons, ih, List.forall_mem_cons]
    by_cases h : counts x = true
    · simp only [h, if_true, forall_const]
      rw [show Nat.max m (figure x) < n ↔ m < n ∧ figure x < n from max_lt_iff, and_assoc]
    · simp [h]

/-- R90: a party of at least one rider is too large where no cabin could carry it. -/
theorem largestCapacity_lt_iff (s : State) (access : Bool) {size : Nat} (riders : 0 < size) :
    s.largestCapacity access < size ↔
      ¬∃ c ∈ s.cabins, c.service = .inService ∧ (access = true → c.kind = .accessible) ∧ size ≤ c.capacity := by
  unfold State.largestCapacity
  rw [foldl_max_lt_iff (fun c : Cabin => c.couldTake access) Cabin.capacity]
  simp only [riders, true_and, couldTake_iff, not_exists, not_and, Nat.not_le, and_imp]

/-- The port on which PARTY ADD is open (R175). -/
theorem kindOpen_partyAdd {p : Port} {pf : Platform} (h : portPlatform p = some pf) : kindOpen 0x22 p = true := by
  rcases platformPort_of h with rfl | rfl <;> rfl

theorem readYesNo_eq (x : Nat) : (x = 0 → readYesNo x = false) ∧ (x = 1 → readYesNo x = true) := by
  constructor <;> rintro rfl <;> rfl

/-- Settles O23: the tests of `ownPartyAdd` in their order, each in the statement's words by its lemma above. -/
theorem partyAddAppendsTheParty : Obligations.PartyAddAppendsTheParty := by
  unfold Obligations.PartyAddAppendsTheParty
  intro p pf tag size accessible priv s ready at_
  obtain ⟨notAccessible, isAccessible⟩ := readYesNo_eq accessible
  obtain ⟨notAlone, isAlone⟩ := readYesNo_eq priv
  refine ⟨_, readYesNo accessible, readYesNo priv, State.request_ready ready _ (kindOpen_partyAdd at_), notAccessible,
    isAccessible, notAlone, isAlone, ?_⟩
  intro q used malformed role closed full carried party
  have tests : s.atPlatform p (ownPartyAdd tag size accessible priv) =
      if malformed then s.refuse .badField
      else if s.tagInUse tag then s.refuse .duplicate
      else if closed then s.refuse .wrongState
      else if q.freePlaces = 0 then s.refuse .full
      else if s.largestCapacity (readYesNo accessible) < size then s.refuse .badField
      else State.accept (s.addParty pf party) (bytes4 (q.entries.length + 1) ++ bytes4 (q.freePlaces - 1)) :=
    atPlatform_eq at_ s _
  have known : s.tagInUse tag = true ↔ used := tagInUse_iff s tag
  have places : q.freePlaces = 0 ↔ full := freePlaces_eq_zero_iff q
  have large (wellFormed : ¬malformed) : s.largestCapacity (readYesNo accessible) < size ↔ ¬carried :=
    largestCapacity_lt_iff s _ (by simp only [malformed] at wellFormed; omega)
  refine ⟨fun bad => ?_, fun good inUse => ?_, fun good free shut => ?_, fun good free boards taken => ?_,
    fun good free boards place tooLarge => ?_, fun good free boards place fits => ?_⟩
  · exact refused_of (tests.trans (if_pos bad))
  all_goals rw [if_neg good] at tests
  · exact refused_of (tests.trans (if_pos (known.mpr inUse)))
  all_goals rw [if_neg (mt known.mp free)] at tests
  · exact refused_of (tests.trans (if_pos shut))
  all_goals rw [if_neg boards] at tests
  · exact refused_of (tests.trans (if_pos (places.mpr taken)))
  all_goals rw [if_neg (mt places.mp place)] at tests
  · exact refused_of (tests.trans (if_pos ((large good).mpr tooLarge)))
  · exact accepted_of (s := s) (tests.trans (if_neg fun h => (large good).mp h fits)) rfl

/-! ## PARTY CANCEL -/

theorem holds_iff (s : State) (pf : Platform) (tag : Nat) :
    (s.queues.get pf).holds tag = true ↔ TagQueued s pf tag := by
  simp [Queue.holds, TagQueued]

/-- The queue found is the first that holds the tag, A's before B's. -/
theorem queueOf_eq_some {s : State} {pf : Platform} {tag : Nat} (queued : TagQueued s pf tag)
    (first : pf = .b → ¬TagQueued s .a tag) : s.queueOf tag = some pf := by
  rw [← holds_iff] at queued
  rw [← holds_iff] at first
  unfold State.queueOf
  cases pf with
  | a => exact if_pos queued
  | b => exact (if_neg (first rfl)).trans (if_pos queued)

theorem queueOf_eq_none {s : State} {tag : Nat} (unqueued : ∀ pf, ¬TagQueued s pf tag) : s.queueOf tag = none := by
  simp only [← holds_iff] at unqueued
  exact (if_neg (unqueued .a)).trans (if_neg (unqueued .b))

theorem assignedParty_eq_none {s : State} {pf : Platform} {tag : Nat} (absent : ¬TagAssigned s pf tag) :
    (s.sequencers.get pf).assignedParty tag = none := by
  rw [Sequencer.assignedParty, List.find?_eq_none]
  exact fun e mem here => absent ⟨e, mem, of_decide_eq_true here⟩

theorem assignedParty_visit {s : State} {pf : Platform} {v : Visit} (visit : (s.sequencers.get pf).current = some v)
    (tag : Nat) : (s.sequencers.get pf).assignedParty tag = v.assigned.find? fun x => x.party.tag = tag := by
  rw [Sequencer.assignedParty, Sequencer.assigned, visit]

/-- The assigned party found is the first, A's visit before B's. -/
theorem assignedOf_eq_some {s : State} {pf : Platform} {tag : Nat} {e : Assigned}
    (party : (s.sequencers.get pf).assignedParty tag = some e) (first : pf = .b → ¬TagAssigned s .a tag) :
    s.assignedOf tag = some (pf, e) := by
  unfold State.assignedOf
  cases pf with
  | a => rw [show s.sequencers.a.assignedParty tag = _ from party]
  | b =>
    rw [show s.sequencers.a.assignedParty tag = _ from assignedParty_eq_none (first rfl),
      show s.sequencers.b.assignedParty tag = _ from party]
    rfl

theorem assignedOf_eq_none {s : State} {tag : Nat} (absent : ∀ pf, ¬TagAssigned s pf tag) :
    s.assignedOf tag = none := by
  unfold State.assignedOf
  rw [show s.sequencers.a.assignedParty tag = _ from assignedParty_eq_none (absent .a),
    show s.sequencers.b.assignedParty tag = _ from assignedParty_eq_none (absent .b)]
  rfl

theorem mayCancel_iff (p : Port) (pf : Platform) :
    mayCancel p pf = true ↔ p = .controlRoom ∨ portPlatform p = some pf := by
  simp [mayCancel, or_comm]

/-- PARTY CANCEL is open on every port but the drive's (R175). -/
theorem kindOpen_partyCancel {p : Port} (h : p ≠ .drive) : kindOpen 0x23 p = true := by
  cases p with
  | drive => exact absurd rfl h
  | platformA | platformB | controlRoom => rfl

theorem cancelAssigned_visit {s : State} {pf : Platform} {v : Visit} (visit : (s.sequencers.get pf).current = some v)
    (tag : Nat) :
    s.cancelAssigned pf tag = { s with
      sequencers := s.sequencers.set pf { s.sequencers.get pf with
        current := some { v with assigned := v.assigned.eraseP fun x => x.party.tag = tag } }
      queues := s.queues.set pf { s.queues.get pf with outCount := (s.queues.get pf).outCount - 1 } } := by
  unfold State.cancelAssigned
  rw [visit]
  rfl

/-- PARTY CANCEL of a queued party. -/
theorem ownPartyCancel_queued {s : State} {pf : Platform} {tag : Nat} (p : Port) (given : tag ≠ 0)
    (here : s.queueOf tag = some pf) : ownPartyCancel p tag s =
      if mayCancel p pf then State.accept (s.cancelQueued pf tag) (cancelReply pf 0) else s.refuse .notFound := by
  unfold ownPartyCancel
  rw [if_neg given, here]

/-- PARTY CANCEL of an assigned party. -/
theorem ownPartyCancel_assigned {s : State} {pf : Platform} {tag : Nat} {e : Assigned} (p : Port) (given : tag ≠ 0)
    (unqueued : s.queueOf tag = none) (here : s.assignedOf tag = some (pf, e)) : ownPartyCancel p tag s =
      if 0 < e.boarded then s.refuse .wrongState
      else if mayCancel p pf then State.accept (s.cancelAssigned pf tag) (cancelReply pf 1)
      else s.refuse .notFound := by
  unfold ownPartyCancel
  rw [if_neg given, unqueued, here]

/-- PARTY CANCEL of a tag that is neither queued nor assigned. -/
theorem ownPartyCancel_elsewhere {s : State} {tag : Nat} (p : Port) (given : tag ≠ 0) (unqueued : s.queueOf tag = none)
    (unassigned : s.assignedOf tag = none) : ownPartyCancel p tag s =
      if s.tagAboard tag then s.refuse .wrongState else s.refuse .notFound := by
  unfold ownPartyCancel
  rw [if_neg given, unqueued, unassigned]

/-- Settles O24: the party is found by `queueOf_eq_some` or `assignedOf_eq_some`, and what its owner answers is said by
the three equations of `ownPartyCancel`. -/
theorem partyCancelRemovesTheParty : Obligations.PartyCancelRemovesTheParty := by
  unfold Obligations.PartyCancelRemovesTheParty
  intro p tag s ready notDrive
  refine ⟨_, State.request_ready ready _ (kindOpen_partyCancel notDrive), ?_⟩
  intro may queuedAt unqueued assignedAt
  have allowed (pf : Platform) : mayCancel p pf = true ↔ may pf := mayCancel_iff p pf
  have queued (pf : Platform) (given : tag ≠ 0) (at_ : queuedAt pf) :=
    ownPartyCancel_queued p given (queueOf_eq_some at_.1 at_.2)
  have assigned (pf : Platform) (v : Visit) (e : Assigned) (given : tag ≠ 0) (out : unqueued)
      (at_ : assignedAt pf v e) : ownPartyCancel p tag s = _ :=
    let ⟨visit, party, first⟩ := at_
    ownPartyCancel_assigned p given (queueOf_eq_none out)
      (assignedOf_eq_some ((assignedParty_visit visit tag).trans party) first)
  refine ⟨fun zero => refused_of (if_pos zero), fun pf given at_ ok => ?_, fun pf given at_ barred => ?_,
    fun pf v e given out at_ aboard => ?_, fun pf v e given out at_ ashore barred => ?_,
    fun pf v e given out at_ ashore ok => ?_, fun given out absent => ?_⟩
  · exact accepted_of (s := s) ((queued pf given at_).trans (if_pos ((allowed pf).mpr ok))) rfl
  · exact refused_of ((queued pf given at_).trans (if_neg (mt (allowed pf).mp barred)))
  · exact refused_of ((assigned pf v e given out at_).trans (if_pos aboard))
  · exact refused_of ((assigned pf v e given out at_).trans
      ((if_neg (by omega)).trans (if_neg (mt (allowed pf).mp barred))))
  · have run := (assigned pf v e given out at_).trans ((if_neg (by omega)).trans (if_pos ((allowed pf).mpr ok)))
    rw [cancelAssigned_visit at_.1] at run
    exact accepted_of (s := s) run rfl
  · have tests := ownPartyCancel_elsewhere p given (queueOf_eq_none out) (assignedOf_eq_none absent)
    exact ⟨fun aboard => refused_of (tests.trans (if_pos ((tagAboard_iff s tag).mpr aboard))),
      fun ashore => refused_of (tests.trans (if_neg (mt (tagAboard_iff s tag).mp ashore)))⟩

end Sys2Proof.PartyQueues
end

section
/-! R89: the places of both queues, kept by every step. `Placed` is the invariant, `Listed` what the list of a visit
written back must be: as long as that of the platform's current visit. -/

namespace Sys2Proof.PartyQueues

open Machine CabinTable StatusLoop BerthVisits

/-! ## The places -/

/-- Both queues keep to R89. -/
def Placed (s : State) : Prop := ∀ pf : Platform, PlacesKept s pf

theorem placed_iff (s : State) : Placed s ↔ PlacesKept s .a ∧ PlacesKept s .b := by
  constructor
  · exact fun h => ⟨h .a, h .b⟩
  · rintro ⟨a, b⟩ (_ | _)
    · exact a
    · exact b

/-- The list is as long as that of the platform's current visit, empty where the platform is VACANT. -/
def Listed (s : State) (pf : Platform) (list : List Assigned) : Prop :=
  list.length = (s.sequencers.get pf).assigned.length

theorem listed_of_current {s : State} {pf : Platform} {v : Visit} (visit : (s.sequencers.get pf).current = some v) :
    Listed s pf v.assigned := by
  unfold Listed Sequencer.assigned
  rw [visit]

theorem Listed.congr {s t : State} {pf : Platform} {list : List Assigned} (h : Listed s pf list)
    (sequencers : t.sequencers = s.sequencers) : Listed t pf list := by
  unfold Listed
  rw [sequencers]
  exact h

/-- The places read the queues and the lengths of the lists of assigned parties. -/
theorem Placed.congr {s t : State} (h : Placed s) (queues : t.queues = s.queues)
    (lists : ∀ pf, (t.sequencers.get pf).assigned.length = (s.sequencers.get pf).assigned.length) : Placed t := by
  intro pf
  unfold PlacesKept
  rw [queues, lists]
  exact h pf

theorem Placed.keep {s t : State} (h : Placed s) (sequencers : t.sequencers = s.sequencers)
    (queues : t.queues = s.queues) : Placed t := h.congr queues fun _ => by rw [sequencers]

/-- The Sequencer and the queue of one platform written. -/
theorem Placed.write {s t : State} (h : Placed s) {pf : Platform} {q : Sequencer} {x : Queue}
    (sequencers : t.sequencers = s.sequencers.set pf q) (queues : t.queues = s.queues.set pf x)
    (out : x.outCount = q.assigned.length) (room : x.entries.length + x.outCount ≤ 16) : Placed t := by
  intro other
  unfold PlacesKept
  rw [sequencers, queues]
  by_cases e : other = pf
  · subst e
    rw [PerPlatform.get_set_same, PerPlatform.get_set_same]
    exact ⟨out, room⟩
  · rw [PerPlatform.get_set_other _ _ e, PerPlatform.get_set_other _ _ e]
    exact h other

theorem Placed.setSequencer {s : State} (h : Placed s) {pf : Platform} {q : Sequencer}
    (list : q.assigned.length = (s.sequencers.get pf).assigned.length) : Placed (s.setSequencer pf q) := by
  obtain ⟨out, room⟩ := h pf
  exact h.write (x := s.queues.get pf) rfl (set_get_self _ _).symm (out.trans list.symm) room

/-- The queue of a platform written, its count of the parties out as it was. -/
theorem Placed.setQueue {s : State} (h : Placed s) {pf : Platform} {x : Queue}
    (out : x.outCount = (s.queues.get pf).outCount) (room : x.entries.length + x.outCount ≤ 16) :
    Placed (s.setQueue pf x) :=
  h.write (q := s.sequencers.get pf) (set_get_self _ _).symm rfl (out.trans (h pf).1) room

/-- VACANT platforms with empty queues. -/
theorem placed_of_empty {t : State} (sequencers : t.sequencers = { a := Sequencer.atPowerOn, b := Sequencer.atPowerOn })
    (queues : t.queues = { a := Queue.empty, b := Queue.empty }) : Placed t := by
  rw [placed_iff, PlacesKept, PlacesKept, sequencers, queues]
  decide

/-! ## The assignment and what a hold source sets off -/

theorem current_of_awaited {s : State} {pf : Platform} {v : Visit} {c : Cabin}
    (awaited : assignmentAwaited s pf = some (v, c)) : (s.sequencers.get pf).current = some v := by
  unfold assignmentAwaited at awaited
  split at awaited
  · cases awaited
  next visit =>
  split at awaited
  · cases awaited
  split at awaited
  · cases awaited
    exact visit
  · cases awaited

/-- The parties chosen go from the list to the visit, and keep their places (R89, R94). -/
theorem Placed.asked {s : State} (h : Placed s) (pf : Platform) : Placed (asked s pf) := by
  unfold Sys2Proof.asked
  cases awaited : assignmentAwaited s pf with
  | none => exact h
  | some vc =>
    obtain ⟨v, c⟩ := vc
    obtain ⟨out, room⟩ := h pf
    have list : v.assigned.length = _ := listed_of_current (current_of_awaited awaited)
    have scanned : (chosenFor s pf v c).chosen.length + (chosenFor s pf v c).stay.length =
        (s.queues.get pf).entries.length := scan_length _ _ _
    refine h.write rfl rfl ?_ ?_
    · simp only [Sequencer.assigned, List.length_append, List.length_map, out, list]
    · dsimp only
      omega

theorem Placed.append {s : State} (h : Placed s) (r : EventRecord) : Placed (s.append r) :=
  let ⟨_, _, sequencers, queues⟩ := s.append_kept r
  h.keep sequencers queues

theorem Placed.appends {s : State} (h : Placed s) (xs : List EventRecord) : Placed (xs.foldl State.append s) :=
  List.foldlRecOn (motive := Placed) _ _ h fun _ h r _ => h.append r

theorem Placed.askedIfAllowed {s : State} (h : Placed s) (pf : Platform) : Placed (askedIfAllowed s pf) := by
  unfold Sys2Proof.askedIfAllowed
  split
  · exact h
  · exact (h.asked pf).appends _

theorem Placed.assignIfDue {s : State} (h : Placed s) (pf : Platform) : Placed (s.assignIfDue pf) := by
  rw [assignIfDue_eq]
  exact h.askedIfAllowed pf

/-- A reaction leaves the visits and the queues, or makes the assignments awaited. -/
theorem Placed.followed {s t : State} (h : Placed s) (k : Followed s t) : Placed t := by
  rcases k.parties with ⟨sequencers, queues, -⟩ | ⟨sequencers, queues, -⟩
  · exact h.keep sequencers queues
  · exact ((h.asked .a).asked .b).keep sequencers queues

theorem Placed.changeSource {s : State} (h : Placed s) (src : Source) (f : HoldRecord → HoldRecord) :
    Placed (s.changeSource src f) := h.followed (followed_changeSource s src f)

theorem Placed.setCondition {s : State} (h : Placed s) (src : Source) (g : Grade) : Placed (s.setCondition src g) :=
  h.followed (followed_setCondition s src g)

theorem Placed.deliverEvent {s : State} (h : Placed s) (src : Source) (g : Grade) : Placed (s.deliverEvent src g) :=
  h.followed (followed_deliverEvent s src g)

theorem Placed.formProgrammed {s : State} (h : Placed s) (src : Source) (on : Bool) :
    Placed (s.formProgrammed src on) := h.setCondition src _

theorem Placed.formDoorLate {s : State} (h : Placed s) : Placed s.formDoorLate := h.setCondition .doorLate _

/-- The away set judged, and DOOR_AWAY's condition formed. -/
theorem Placed.judgeAway {s : State} (h : Placed s) : Placed s.judgeAway := by
  refine Placed.setCondition ?_ .doorAway _
  exact h.keep rfl rfl

theorem Placed.recount {s : State} (h : Placed s) : Placed s.recount := by
  have counted : Placed { s with unload := { s.unload with occupied := occupiedCount s.cabins } } := h.keep rfl rfl
  exact counted.followed (followed_judgeUnload _)

theorem Placed.writeCabin {s : State} (h : Placed s) (k : Nat) (f : Cabin → Cabin) : Placed (s.writeCabin k f) := by
  have written : Placed (s.modifyCabin k f) := h.keep rfl rfl
  exact written.recount

theorem Placed.refresh {s : State} (h : Placed s) : Placed s.refresh := h.keep rfl rfl

/-! ## The visits -/

theorem listed_visited (s : State) (pf : Platform) (v : Visit) (timer : Option Nat) :
    Listed (visited s pf v timer) pf v.assigned := by
  unfold Listed
  rw [visited_same]
  rfl

theorem Placed.visited {s : State} (h : Placed s) {pf : Platform} {v : Visit} {timer : Option Nat}
    (own : Listed s pf v.assigned) : Placed (visited s pf v timer) := h.setSequencer own

theorem Placed.setVisit {s : State} (h : Placed s) {pf : Platform} {v : Visit} (own : Listed s pf v.assigned) :
    Placed (s.setVisit pf v) := h.setSequencer own

theorem Placed.setTimer {s : State} (h : Placed s) (pf : Platform) (timer : Option Nat) :
    Placed (s.setTimer pf timer) := h.setSequencer rfl

theorem Placed.command {s : State} (h : Placed s) (pf : Platform) (code : ActuatorCode) : Placed (s.command pf code) :=
  h.keep rfl rfl

/-- At the end of a visit its parties leave assignment, and those not boarded find their places in the list again
(R99). -/
theorem Placed.endedVisit {s : State} (h : Placed s) {pf : Platform} {v : Visit} (own : Listed s pf v.assigned) :
    Placed (endedVisit s pf v) := by
  obtain ⟨out, room⟩ := h pf
  have out : (s.queues.get pf).outCount = v.assigned.length := out.trans own.symm
  have back : (v.assigned.filter fun e => e.boarded = 0).length ≤ v.assigned.length := List.length_filter_le ..
  refine h.write rfl rfl ?_ ?_
  · simp only [Queue.takeBack, Sequencer.assigned, out, Nat.sub_self, List.length_nil]
  · simp only [Queue.takeBack, List.length_append, List.length_map]
    omega

theorem Placed.endVisit {s : State} (h : Placed s) {pf : Platform} {v : Visit} (own : Listed s pf v.assigned) :
    Placed (s.endVisit pf v) := by
  rw [endVisit_eq]
  split
  · exact (h.endedVisit own).formDoorLate
  · exact h.endedVisit own

theorem Placed.testLatched {s : State} (h : Placed s) {pf : Platform} {v : Visit} (own : Listed s pf v.assigned) :
    Placed (s.testLatched pf v) := by
  unfold State.testLatched
  rw [setVisit_setTimer]
  split
  · split
    · exact h.endVisit own
    · exact (h.command pf .close).visited (own.congr rfl)
  · exact h

theorem Placed.beginClosing {s : State} (h : Placed s) {pf : Platform} {v : Visit} (own : Listed s pf v.assigned) :
    Placed (s.beginClosing pf v) := by
  have written (w : Visit) (timer : Option Nat) (same : w.assigned = v.assigned) :
      Placed (StatusLoop.visited (s.command pf .close) pf w timer) := by
    refine (h.command pf .close).visited ?_
    rw [same]
    exact own.congr rfl
  rw [beginClosing_eq]
  split
  · split
    · refine Placed.endVisit (written _ _ ?_) (listed_visited _ _ _ _)
      rfl
    · exact written _ _ rfl
  · exact written _ _ rfl

theorem Placed.testOpen {s : State} (h : Placed s) {pf : Platform} {v : Visit} (own : Listed s pf v.assigned) :
    Placed (s.testOpen pf v) := by
  unfold State.testOpen
  rw [setVisit_setTimer]
  split
  · refine Placed.assignIfDue ?_ pf
    exact h.visited own
  · exact h

/-- A visit begins with no party, at a VACANT platform. -/
theorem listed_newVisit {s : State} {pf : Platform} (vacant : (s.sequencers.get pf).current = none) (k : Nat)
    (c : Cabin) : Listed s pf (s.newVisit pf k c).assigned := by
  unfold Listed Sequencer.assigned
  rw [vacant]
  rfl

theorem Placed.createVisit {s : State} (h : Placed s) {pf : Platform} {k : Nat} {c : Cabin}
    (cabin : s.cabins[k]? = some c) (vacant : (s.sequencers.get pf).current = none) :
    Placed (s.createVisit pf k c) := by
  have own := listed_newVisit vacant k c
  have opening (v : Visit) (own : Listed s pf v.assigned) (timer : Option Nat) :
      Placed (doorOpening s pf c v timer) := by
    have written := h.setSequencer (pf := pf)
      (q := { s.sequencers.get pf with current := some v, visitNumber := v.number, actuatorTimer := timer }) own
    exact written.keep rfl rfl
  by_cases skip : (s.newVisit pf k c).directive = .skip
  · rw [createVisit_skip skip]
    exact h.setSequencer own
  · rw [createVisit_calls cabin skip]
    split
    · exact ((opening { s.newVisit pf k c with state := .opened } own none).append _).askedIfAllowed pf
    · exact (opening (s.newVisit pf k c) own _).append _

theorem Placed.takeEnter {s : State} (h : Placed s) (pf : Platform) (k : Nat) : Placed (s.takeEnter pf k) := by
  unfold State.takeEnter State.missBerth
  split
  · split
    · exact h
    · dsimp only
      split
      · exact (h.append _).deliverEvent _ _
      · exact h.append _
  next vacant =>
    split
    next cabin => exact h.createVisit cabin vacant
    · exact h

theorem Placed.takeClose {s : State} (h : Placed s) (pf : Platform) (k : Nat) : Placed (s.takeClose pf k) := by
  unfold State.takeClose
  split
  next visit =>
    split
    · exact h.beginClosing (listed_of_current visit)
    · exact h
  · exact h

theorem atLeast_iff (g h : Grade) : g.atLeast h = true ↔ h.value ≤ g.value := decide_eq_true_iff

/-- A condition that comes to UNLOAD or above assigns nothing (R66). -/
theorem setCondition_visits (s : State) (src : Source) {g : Grade} (withheld : g.atLeast .unload = true) :
    (s.setCondition src g).sequencers = s.sequencers := by
  have latch (auto : Bool) (r : HoldRecord) : g.value ≤ (latchOf auto (r.withCond g)).value := by
    unfold latchOf HoldRecord.withCond
    split <;> simp
  unfold State.setCondition
  split
  · rfl
  · refine (State.changeSource_visits _ _ _ ?_).1
    rw [State.changeSource_holds]
    dsimp only
    have held := latched_le_heldGrade (s.holds.table.set src { (s.holds.table.get src).withCond g with
      latched := latchOf (s.settings.auto.get src) ((s.holds.table.get src).withCond g) }) src
    rw [HoldTable.get_set_same] at held
    rw [atLeast_iff] at withheld ⊢
    exact withheld.trans ((latch _ _).trans held)

theorem formDoorLate_visits {s : State} {pf : Platform} (late : (s.sequencers.get pf).doorLate = true) :
    s.formDoorLate.sequencers = s.sequencers := by
  have either : (s.sequencers.a.doorLate || s.sequencers.b.doorLate) = true := by
    rw [Bool.or_eq_true]
    cases pf with
    | a => exact .inl late
    | b => exact .inr late
  unfold State.formDoorLate
  rw [if_pos either]
  exact setCondition_visits s .doorLate rfl

/-- DOOR_LATE's STOP assigns nothing: the late visit stands as it was written (R75, R66). -/
theorem makeLate_current (s : State) (pf : Platform) (v : Visit) :
    ((s.makeLate pf v).sequencers.get pf).current = some v := by
  unfold State.makeLate
  rw [formDoorLate_visits (pf := pf), State.setSequencer_sequencers, PerPlatform.get_set_same]
  rw [State.setSequencer_sequencers, PerPlatform.get_set_same]

theorem Placed.makeLate {s : State} (h : Placed s) {pf : Platform} {v : Visit} (own : Listed s pf v.assigned) :
    Placed (s.makeLate pf v) := by
  refine Placed.formDoorLate ?_
  exact h.setSequencer own

theorem Placed.takeExit {s : State} (h : Placed s) (pf : Platform) (k : Nat) : Placed (s.takeExit pf k) := by
  unfold State.takeExit
  split
  next v visit =>
    have own := listed_of_current visit
    have late : Placed (s.makeLate pf { v with late := true }) := h.makeLate own
    have closed := late.beginClosing (listed_of_current (makeLate_current s pf { v with late := true }))
    split
    · exact h
    · dsimp only
      split
      · exact h.endVisit own
      · exact h.endVisit own
      · exact late
      · exact closed
      · exact closed
  · exact h

theorem Placed.takeRetreat {s : State} (h : Placed s) (pf : Platform) (k : Nat) : Placed (s.takeRetreat pf k) := by
  unfold State.takeRetreat
  split
  next v visit =>
    have own := listed_of_current visit
    split
    · exact h
    split
    · exact h.endVisit own
    split
    · exact (h.command pf .close).endVisit (own.congr rfl)
    · exact h
  · exact h

theorem Placed.losePosition {s : State} (h : Placed s) (pf : Platform) : Placed (s.losePosition pf) := by
  unfold State.losePosition
  split
  next v visit =>
    have own := listed_of_current visit
    dsimp only
    split
    · exact h.endVisit own
    · exact h.setVisit own
  · exact h

theorem Placed.feedBack {s : State} (h : Placed s) (pf : Platform) (door : DoorState) :
    Placed (s.feedBack pf door) := by
  unfold State.feedBack
  split
  next v visit =>
    have own := listed_of_current visit
    split
    · exact h.testOpen own
    · exact h.testLatched own
    · split
      · rw [setVisit_startTimer]
        exact h.visited own
      · exact h
    · exact h
    · exact h
  · exact h

theorem Placed.expireActuator {s : State} (h : Placed s) (pf : Platform) : Placed (s.expireActuator pf) := by
  have reclosed : Placed (s.reclose pf) := h.keep rfl rfl
  unfold State.expireActuator
  split
  next v _ visit =>
    have own := listed_of_current visit
    split
    · exact h.beginClosing own
    · split
      · rw [setVisit_startTimer]
        exact reclosed.visited (own.congr rfl)
      · rw [setVisit_setTimer]
        exact h.visited own
    · exact h.setTimer pf _
    · exact h.setTimer pf _
    · exact h.setTimer pf _
  · exact h.setTimer pf _
  · exact h

/-! ## The wheel -/

theorem Placed.handCrossings {s : State} (h : Placed s) (before after : Nat) (pf : Platform) :
    Placed (s.handCrossings before after pf) := by
  have taken (s : State) (h : Placed s) (x : Nat × Crossing) : Placed (s.takeCrossing pf x) := by
    unfold State.takeCrossing
    split
    · exact h.takeEnter pf _
    · exact h.takeClose pf _
    · exact h.takeExit pf _
  exact List.foldlRecOn (motive := Placed) _ _ h fun s h x _ => taken s h x

theorem Placed.handRetreats {s : State} (h : Placed s) (before after : Nat) (pf : Platform) :
    Placed (s.handRetreats before after pf) :=
  List.foldlRecOn (motive := Placed) _ _ h fun _ h k _ => h.takeRetreat pf k

theorem Placed.parkedTest {s : State} (h : Placed s) : Placed s.parkedTest := h.followed (followed_parkedTest s)

theorem Placed.parkTests {s : State} (h : Placed s) : Placed s.parkTests := h.followed (followed_parkTests s)

theorem Placed.movedTests {s : State} (h : Placed s) (moved : Bool) : Placed (s.movedTests moved) := by
  cases moved with
  | false => exact h
  | true =>
    show Placed s.parkedTest.overshootTest
    unfold State.overshootTest
    split
    · exact h.parkedTest.deliverEvent _ _
    · exact h.parkedTest

theorem Placed.forwardTick {s : State} (h : Placed s) : Placed s.forwardTick := by
  have moved : Placed { s with position := s.position.forward s.geometry } := h.keep rfl rfl
  have passed {u : State} (h : Placed u) (theta : Nat) : Placed (u.passOver theta) := h.keep rfl rfl
  exact (passed ((moved.handCrossings _ _ .a).handCrossings _ _ .b) _).parkTests.judgeAway

theorem Placed.reverseTest {s : State} (h : Placed s) : Placed s.reverseTest := by
  unfold State.reverseTest
  split
  · refine Placed.deliverEvent ?_ _ _
    exact h.keep rfl rfl
  · exact h

theorem Placed.reverseTick {s : State} (h : Placed s) : Placed s.reverseTick := by
  have moved : Placed { s with position := s.position.backward s.geometry } := h.keep rfl rfl
  exact ((moved.reverseTest.handRetreats _ _ .a).handRetreats _ _ .b).parkTests.judgeAway

/-- The Plan Banks turned over, counted or ended at a revolution boundary, with their records (R112). -/
theorem Placed.boundary {s : State} (h : Placed s) : Placed s.boundary := by
  have planned {u : State} (h : Placed u) (x : Plans) : Placed { u with plans := x } := h.keep rfl rfl
  have begun : Placed { s with position := { s.position with revolutions := (s.position.revolutions + 1) % 65536 } } :=
    h.keep rfl rfl
  unfold State.boundary State.planBoundary
  generalize ({ s with position := _ } : State) = u at begun ⊢
  have counted : Placed
      (if u.plans.planEnd then u else { u with plans := u.plans.setActive u.plans.active.countRevolution }) := by
    split
    · exact begun
    · exact planned begun _
  dsimp only
  generalize (if u.plans.planEnd then u else _ : State) = w at counted ⊢
  split
  · exact ((planned counted w.plans.swapped).formProgrammed .planEnd false).append _
  · split
    · exact ((planned counted { w.plans with planEnd := true }).append _).formProgrammed .planEnd true
    · exact counted

theorem Placed.takenEdge {s : State} (h : Placed s) : Placed s.takenEdge := by
  have placed {u : State} (h : Placed u) (x : Position) : Placed { u with position := x } := h.keep rfl rfl
  have parked {u : State} (h : Placed u) (r : Option ParkRecord) : Placed (u.setPark r) := h.keep rfl rfl
  unfold State.takenEdge
  split
  · dsimp only
    split
    · have shifted (d : Int) : Placed (((s.correct d).logPlain .index d).shiftTarget d) := by
        have logged : Placed ((s.correct d).logPlain .index d) := (placed h _).append _
        unfold State.shiftTarget
        split
        · exact logged
        · split
          · exact parked logged _
          · exact logged
      unfold State.goodEdge
      dsimp only
      refine ((Placed.boundary ?_).movedTests _).judgeAway
      split
      · exact ((shifted _).handCrossings _ _ .a).handCrossings _ _ .b
      · exact shifted _
    · have lost := (placed h { s.position with theta := 0, verified := false, stillCrossed := [] }).append
        (plainRecord s .indexMismatch (signedMod s.position.theta s.geometry.p))
      exact (((lost.changeSource .position _).losePosition .a).losePosition .b).boundary.judgeAway
  · have logged := (placed h { s.position with theta := 0, verified := true, stillCrossed := [] }).append
      (plainRecord s .index 0)
    unfold State.verifyEdge
    dsimp only
    refine ((Placed.setCondition ?_ .position _).movedTests _).judgeAway
    unfold State.retarget
    split
    · exact logged
    · split
      · exact parked logged _
      · exact logged

/-! ## The wind -/

theorem Placed.windowEnd {s : State} (h : Placed s) : Placed s.windowEnd := by
  have blown {u : State} (h : Placed u) (x : Wind) : Placed { u with wind := x } := h.keep rfl rfl
  have logged {u : State} (h : Placed u) (k : Sensor) (c : SensorChange) : Placed (u.logSensor k c) := by
    cases c with
    | same => exact h
    | stalled | overran | recovered => exact h.append _
  have tested {u : State} (h : Placed u) : Placed u.testSensors := logged (logged (blown h _) _ _) _ _
  have judged {u : State} (h : Placed u) : Placed u.judgeClass := by
    unfold State.judgeClass State.changeClass
    dsimp only
    split
    · exact blown h _
    · exact ((blown h _).append _).setCondition .wind _
  have shifted : Placed { s with position := s.position.closeWindow } := h.keep rfl rfl
  unfold State.windowEnd State.windWindow
  exact judged ((blown (tested (blown shifted.parkedTest _)) _).formProgrammed .windSensor _)

/-! ## The Status Loop -/

theorem Placed.looped {s : State} (h : Placed s) (x : Loop) : Placed { s with loop := x } := h.keep rfl rfl

theorem Placed.takeContacts {s : State} (h : Placed s) (after : Loop) : Placed (s.takeContacts after) := by
  have written : Placed (State.writeDoors { s with loop := after }) := h.keep rfl rfl
  rw [takeContacts_eq]
  exact ((written.appends _).feedBack _ _).feedBack _ _

theorem Placed.goodScan {s : State} (h : Placed s) (stale : Bool) (r : Readings) : Placed (s.goodScan stale r) := by
  have cleared : Placed s.clearLoopFault := by
    unfold State.clearLoopFault
    split
    · exact ((h.looped _).append _).formProgrammed .loopFault false
    · exact h
  unfold State.goodScan
  dsimp only
  split
  · exact cleared.looped _
  · exact (cleared.looped _).takeContacts _

theorem Placed.failedScan {s : State} (h : Placed s) : Placed s.failedScan := by
  unfold State.failedScan
  dsimp only
  split
  · exact (((h.looped _).append _).takeContacts _).formProgrammed .loopFault true
  · exact h.looped _

theorem Placed.endScan {s : State} (h : Placed s) (pattern : Byte) (contacts : List Bool) :
    Placed (s.endScan pattern contacts) := by
  unfold State.endScan
  split
  · exact h
  · refine Placed.judgeAway ?_
    split
    · exact (h.looped _).goodScan _ _
    · exact (h.looped _).failedScan

/-! ## The configuration -/

theorem Placed.loseGeometry {s : State} (h : Placed s) : Placed s.loseGeometry := by
  refine ((Placed.setCondition ?_ .position _).formProgrammed .disagree false).judgeAway
  exact h.keep rfl rfl

theorem Placed.storeItem {s : State} (h : Placed s) (i : Item) (v : Nat) : Placed (s.storeItem i v) := by
  have stored : Placed (s.setSettings (s.settings.write i v)) := h.keep rfl rfl
  unfold State.storeItem
  split
  · exact h
  · unfold State.itemEffect
    cases i with
    | n =>
      refine (Placed.recount ?_).loseGeometry
      exact stored.keep rfl rfl
    | p => exact stored.loseGeometry
    | auto src => exact stored.changeSource src _
    | programmed src => exact stored.formProgrammed src _
    | _ => exact stored

/-! ## The requests -/

/-- The drive's report read (R155 to R157, R9). -/
theorem Placed.driveReport {s : State} (h : Placed s) (d : DriveRecord) : Placed (s.driveReport d) := by
  have permitted {u : State} (h : Placed u) (x : Permit) : Placed { u with permit := x } := h.keep rfl rfl
  have taken : Placed (s.takeDriveRecord d) := (permitted (permitted h _) _).setCondition .driveSilent .none
  have formed : Placed ((s.takeDriveRecord d).formDriveFault (d.state = some .fault)) :=
    (permitted taken _).setCondition .driveFault _
  unfold State.driveReport State.crossCheck
  split
  · exact formed.refresh
  · split
    · refine (Placed.formProgrammed ?_ .disagree _).refresh
      exact formed.keep rfl rfl
    · exact formed.refresh

/-- The figures of a stop condition written, and the condition formed (R146, R147). -/
theorem Placed.formStop {s : State} (h : Placed s) (pf : Platform) (x : StopLine) :
    Placed (State.formStop { s with stops := s.stops.set pf x } pf) := by
  refine Placed.formProgrammed ?_ _ _
  exact h.keep rfl rfl

/-- A party leaves the list (R91). -/
theorem Placed.cancelQueued {s : State} (h : Placed s) (pf : Platform) (tag : Nat) :
    Placed (s.cancelQueued pf tag) := by
  obtain ⟨-, room⟩ := h pf
  have fewer : ((s.queues.get pf).entries.eraseP fun e => e.tag = tag).length ≤ (s.queues.get pf).entries.length :=
    List.length_eraseP_le
  refine h.setQueue rfl ?_
  dsimp only
  omega

theorem assigned_of_assignedOf {s : State} {pf : Platform} {tag : Nat} {e : Assigned}
    (here : s.assignedOf tag = some (pf, e)) : (s.sequencers.get pf).assignedParty tag = some e := by
  unfold State.assignedOf at here
  split at here
  next found =>
    cases here
    exact found
  · obtain ⟨_, found, same⟩ := Option.map_eq_some_iff.mp here
    cases same
    exact found

/-- A party leaves the visit, and its place among the parties out (R91, R89). -/
theorem Placed.cancelAssigned {s : State} (h : Placed s) {pf : Platform} {tag : Nat} {e : Assigned}
    (here : s.assignedOf tag = some (pf, e)) : Placed (s.cancelAssigned pf tag) := by
  have found := assigned_of_assignedOf here
  cases visit : (s.sequencers.get pf).current with
  | none => simp [Sequencer.assignedParty, Sequencer.assigned, visit] at found
  | some v =>
    rw [assignedParty_visit visit] at found
    obtain ⟨out, room⟩ := h pf
    have out : (s.queues.get pf).outCount = v.assigned.length := out.trans (listed_of_current visit).symm
    have tagged := List.find?_some found
    have erased : (v.assigned.eraseP fun x => x.party.tag = tag).length = v.assigned.length - 1 :=
      List.length_eraseP_of_mem (List.mem_of_find?_eq_some found) tagged
    rw [cancelAssigned_visit visit]
    refine h.write rfl rfl ?_ ?_
    · simp only [Sequencer.assigned, erased, out]
    · dsimp only
      omega

theorem Placed.answered {s t : State} (h : Placed s) (a : Answered s t) : Placed t := by
  cases a with
  | kept => exact h
  | gate | service | configured | edited | swapAsked | locked | saving | taken => exact h.keep rfl rfl
  | declared => exact h.writeCabin _ _
  | @alighted pf v _ count visit =>
    have own := listed_of_current visit
    have written : Placed (s.setVisit pf { v with alighted := some count }) := h.setVisit own
    exact ((written.writeCabin _ _).assignIfDue pf).refresh
  | @boarded pf v _ _ tag count visit =>
    have own : Listed s pf (v.setBoarded tag count).assigned := (List.length_map _).trans (listed_of_current visit)
    exact ((h.setVisit own).writeCabin _ _).refresh
  | dispatched pf visit => exact (h.beginClosing (listed_of_current visit)).refresh
  | queued pf e free =>
    refine h.setQueue rfl ?_
    rw [ne_eq, freePlaces_eq_zero_iff] at free
    simp only [List.length_append, List.length_cons, List.length_nil]
    omega
  | unqueued pf tag => exact h.cancelQueued pf tag
  | unassigned pf tag here => exact h.cancelAssigned here
  | stopRequested pf => exact (h.formStop pf _).refresh
  | operatorHeld g => exact (h.setCondition .operator g).refresh
  | released src => exact (h.changeSource src _).refresh
  | stored i => exact (h.storeItem i _).refresh
  | reported d => exact h.driveReport d
  | advanced n => exact h.keep rfl rfl

/-! ## Timers and restarts -/

theorem Placed.warmRestart (s : State) (cause : RestartCause) : Placed (s.warmRestart cause) := by
  have struck : Placed s.restartBlocks := placed_of_empty rfl rfl
  have closed := (struck.formDoorLate.judgeAway.command .a .close).command .b .close
  unfold State.warmRestart
  dsimp only
  refine (((Placed.setCondition ?_ .driveSilent .none).append _).deliverEvent .restart .stop).refresh
  exact closed.keep rfl rfl

theorem Placed.driveSilence {s : State} (h : Placed s) : Placed s.driveSilence := by
  unfold State.driveSilence
  split
  · refine (Placed.setCondition ?_ .driveSilent .brake).refresh
    exact h.keep rfl rfl
  · exact h

theorem Placed.endSave {s : State} (h : Placed s) (passed : Bool) : Placed (s.endSave passed) := by
  unfold State.endSave
  split
  · exact h
  · refine Placed.append ?_ _
    exact h.keep rfl rfl

/-- Every effect keeps the places of both queues. -/
theorem Placed.effect {s t : State} (h : Placed s) (e : Effect s t) : Placed t := by
  cases e with
  | answered a => exact h.answered a
  | port | queue | restartDue | pulse | scanStart => exact h.keep rfl rfl
  | millisecond => exact h.congr rfl fun pf => by cases pf <;> rfl
  | blinkToggle | sequenceStart | sequenceEnd | refreshExpiry | shut => exact h.keep rfl rfl
  | forwardTick => exact h.forwardTick.refresh
  | reverseTick => exact h.reverseTick.refresh
  | indexEdge => exact h.takenEdge.refresh
  | windowEnd => exact h.windowEnd.refresh
  | scanEnd pattern contacts => exact (h.endScan pattern contacts).refresh
  | actuatorExpiry pf => exact (h.expireActuator pf).refresh
  | lineTaken pf => exact (h.formStop pf _).refresh
  | driveSilence => exact h.driveSilence
  | saveDone passed => exact h.endSave passed
  | warmRestart cause => exact .warmRestart s cause
  | powerOn =>
    rw [powerOn_eq]
    exact placed_of_empty rfl rfl

/-- Settles O12: every effect of a step keeps `Placed`. -/
theorem queuePlacesStayKept : Obligations.QueuePlacesStayKept := by
  unfold Obligations.QueuePlacesStayKept
  intro s t kept e
  rw [← placed_iff] at kept ⊢
  exact step_keeps (fun _ _ effect h => h.effect effect) e kept

end Sys2Proof.PartyQueues
end

section
/-! The requests to the Plan Banks: PLAN EDIT (R104, R106, R108 to R110) and PLAN SWAP (R111). -/

namespace Sys2Proof.PlanBanks

open Machine CabinTable PartyQueues

/-! ## The order of the entries of a bank (R104) -/

/-- The sorted order of entries, in the statement's words. -/
def Ahead (d e : PlanEntry) : Prop := d.cabin < e.cabin ∨ (d.cabin = e.cabin ∧ d.platform = .a ∧ e.platform = .b)

theorem platform_code_lt_iff (p q : Platform) : Platform.code p < Platform.code q ↔ p = .a ∧ q = .b := by
  cases p <;> cases q <;> decide

theorem before_iff (d e : PlanEntry) : d.before e = true ↔ Ahead d e := by
  simp only [PlanEntry.before, Ahead, Bool.or_eq_true, Bool.and_eq_true, decide_eq_true_eq, platform_code_lt_iff]

theorem isFor_iff (d : PlanEntry) (cabin : Nat) (pf : Platform) :
    d.isFor cabin pf = true ↔ d.cabin = cabin ∧ d.platform = pf := by
  simp only [PlanEntry.isFor, Bool.and_eq_true, decide_eq_true_eq]

theorem hasEntry_iff (x : Bank) (cabin : Nat) (pf : Platform) :
    x.hasEntry cabin pf = true ↔ ∃ d ∈ x.entries, d.cabin = cabin ∧ d.platform = pf := by
  simp only [Bank.hasEntry, List.any_eq_true, isFor_iff]

theorem Ahead.trans {d e f : PlanEntry} (first : Ahead d e) (second : Ahead e f) : Ahead d f := by
  rcases first with lt | ⟨cabin, a, b⟩
  · rcases second with lt' | ⟨cabin', -, -⟩
    · exact .inl (lt.trans lt')
    · exact .inl (cabin' ▸ lt)
  · rcases second with lt' | ⟨-, a', -⟩
    · exact .inl (cabin ▸ lt')
    · exact nomatch a'.symm.trans b

/-- Of two entries for different places one is ahead of the other. -/
theorem ahead_of_not_ahead {d e : PlanEntry} (other : ¬(d.cabin = e.cabin ∧ d.platform = e.platform))
    (behind : ¬Ahead d e) : Ahead e d := by
  unfold Ahead at *
  rcases Nat.lt_trichotomy d.cabin e.cabin with lt | same | gt
  · exact absurd (.inl lt) behind
  · refine .inr ⟨same.symm, ?_⟩
    cases hd : d.platform with
    | a => cases he : e.platform with
      | a => exact absurd ⟨same, hd.trans he.symm⟩ other
      | b => exact absurd (.inr ⟨same, hd, he⟩) behind
    | b => cases he : e.platform with
      | a => exact ⟨rfl, rfl⟩
      | b => exact absurd ⟨same, hd.trans he.symm⟩ other
  · exact .inl gt

/-- Whether one entry is ahead of another is a matter of their places. -/
theorem ahead_congr {d d' e e' : PlanEntry} (hd : d'.cabin = d.cabin ∧ d'.platform = d.platform)
    (he : e'.cabin = e.cabin ∧ e'.platform = e.platform) : Ahead d' e' ↔ Ahead d e := by
  unfold Ahead
  rw [hd.1, hd.2, he.1, he.2]

/-! ## ENTRY SET and ENTRY REMOVE on the list (R109, R110) -/

/-- An entry at its place among others, as ENTRY SET inserts one. -/
def inserted (e : PlanEntry) (xs : List PlanEntry) : List PlanEntry :=
  xs.takeWhile (fun d => d.before e) ++ e :: xs.dropWhile fun d => d.before e

/-- An entry in place of each one for its cabin and platform, as ENTRY SET replaces one. -/
def replaced (e : PlanEntry) (xs : List PlanEntry) : List PlanEntry :=
  xs.map fun d => if d.isFor e.cabin e.platform then e else d

theorem setEntry_entries (x : Bank) (e : PlanEntry) :
    (x.setEntry e).entries = if x.hasEntry e.cabin e.platform then replaced e x.entries else inserted e x.entries := rfl

theorem inserted_cons_of_ahead {d e : PlanEntry} (xs : List PlanEntry) (h : Ahead d e) :
    inserted e (d :: xs) = d :: inserted e xs := by
  simp [inserted, (before_iff d e).mpr h]

theorem inserted_cons_of_not_ahead {d e : PlanEntry} (xs : List PlanEntry) (h : ¬Ahead d e) :
    inserted e (d :: xs) = e :: d :: xs := by
  simp [inserted, mt (before_iff d e).mp h]

theorem inserted_perm (e : PlanEntry) (xs : List PlanEntry) : (inserted e xs).Perm (e :: xs) := by
  have middle : (inserted e xs).Perm (e :: (_ ++ _)) := List.perm_middle
  rwa [List.takeWhile_append_dropWhile] at middle

/-- Among sorted entries for other places, an entry is placed so that the list stays sorted. -/
theorem inserted_pairwise {e : PlanEntry} {xs : List PlanEntry}
    (absent : ∀ d ∈ xs, ¬(d.cabin = e.cabin ∧ d.platform = e.platform)) (sorted : xs.Pairwise Ahead) :
    (inserted e xs).Pairwise Ahead := by
  induction xs with
  | nil => exact List.pairwise_singleton _ _
  | cons d rest ih =>
    obtain ⟨first, sorted⟩ := List.pairwise_cons.mp sorted
    obtain ⟨other, absent⟩ := List.forall_mem_cons.mp absent
    by_cases h : Ahead d e
    · rw [inserted_cons_of_ahead rest h, List.pairwise_cons]
      refine ⟨fun f mem => ?_, ih absent sorted⟩
      rcases List.mem_cons.mp ((inserted_perm e rest).mem_iff.mp mem) with rfl | mem
      · exact h
      · exact first f mem
    · have ahead : Ahead e d := ahead_of_not_ahead other h
      rw [inserted_cons_of_not_ahead rest h, List.pairwise_cons]
      refine ⟨fun f mem => ?_, List.pairwise_cons.mpr ⟨first, sorted⟩⟩
      rcases List.mem_cons.mp mem with rfl | mem
      · exact ahead
      · exact ahead.trans (first f mem)

/-- A replacement is for the same place. -/
theorem replacement_place (e d : PlanEntry) :
    let d' := if d.isFor e.cabin e.platform then e else d
    d'.cabin = d.cabin ∧ d'.platform = d.platform := by
  dsimp only
  split
  next same =>
    obtain ⟨cabin, platform⟩ := (isFor_iff _ _ _).mp same
    exact ⟨cabin.symm, platform.symm⟩
  · exact ⟨rfl, rfl⟩

theorem replaced_pairwise (e : PlanEntry) {xs : List PlanEntry} (sorted : xs.Pairwise Ahead) :
    (replaced e xs).Pairwise Ahead :=
  List.pairwise_map.mpr
    (sorted.imp fun ahead => (ahead_congr (replacement_place e _) (replacement_place e _)).mpr ahead)

theorem mem_replaced {e : PlanEntry} {xs : List PlanEntry}
    (present : ∃ d ∈ xs, d.cabin = e.cabin ∧ d.platform = e.platform) (d : PlanEntry) :
    d ∈ replaced e xs ↔ d = e ∨ (d ∈ xs ∧ ¬(d.cabin = e.cabin ∧ d.platform = e.platform)) := by
  simp only [replaced, List.mem_map]
  constructor
  · rintro ⟨f, mem, rfl⟩
    split
    · exact .inl rfl
    next other => exact .inr ⟨mem, mt (isFor_iff _ _ _).mpr other⟩
  · rintro (rfl | ⟨mem, other⟩)
    · obtain ⟨f, mem, same⟩ := present
      exact ⟨f, mem, if_pos ((isFor_iff _ _ _).mpr same)⟩
    · exact ⟨d, mem, if_neg (mt (isFor_iff _ _ _).mp other)⟩

/-- R109: ENTRY SET keeps the list sorted. -/
theorem setEntry_pairwise (x : Bank) (e : PlanEntry) (sorted : x.entries.Pairwise Ahead) :
    (x.setEntry e).entries.Pairwise Ahead := by
  rw [setEntry_entries]
  split
  · exact replaced_pairwise e sorted
  next absent => exact inserted_pairwise (fun d mem same => absent ((hasEntry_iff _ _ _).mpr ⟨d, mem, same⟩)) sorted

/-- R109: after ENTRY SET the list holds the entry, and the others as they were. -/
theorem mem_setEntry (x : Bank) (e d : PlanEntry) :
    d ∈ (x.setEntry e).entries ↔ d = e ∨ (d ∈ x.entries ∧ ¬(d.cabin = e.cabin ∧ d.platform = e.platform)) := by
  rw [setEntry_entries]
  split
  next present => exact mem_replaced ((hasEntry_iff _ _ _).mp present) d
  next absent =>
    rw [(inserted_perm e x.entries).mem_iff, List.mem_cons]
    refine or_congr_right (iff_self_and.mpr fun mem same => absent ?_)
    exact (hasEntry_iff _ _ _).mpr ⟨d, mem, same⟩

theorem setEntry_length (x : Bank) (e : PlanEntry) :
    (x.setEntry e).entries.length =
      if x.hasEntry e.cabin e.platform then x.entries.length else x.entries.length + 1 := by
  rw [setEntry_entries]
  split
  · exact List.length_map _
  · exact (inserted_perm e x.entries).length_eq

theorem removeEntry_sublist (x : Bank) (cabin : Nat) (pf : Platform) :
    (x.removeEntry cabin pf).entries.Sublist x.entries := List.filter_sublist

theorem mem_removeEntry (x : Bank) (cabin : Nat) (pf : Platform) (d : PlanEntry) :
    d ∈ (x.removeEntry cabin pf).entries ↔ d ∈ x.entries ∧ ¬(d.cabin = cabin ∧ d.platform = pf) := by
  simp only [Bank.removeEntry, List.mem_filter, Bool.not_eq_true', ← Bool.not_eq_true, isFor_iff]

/-! ## The reply to an accepted edit (R108) -/

@[simp] theorem setStandby_oneActive (x : Plans) (k : Bank) : (x.setStandby k).oneActive = x.oneActive := by
  unfold Plans.setStandby
  split <;> rfl

theorem standbyNumber_eq (x : Plans) : x.standbyNumber = if x.oneActive then 0 else 1 := by
  unfold Plans.standbyNumber Plans.activeNumber
  split <;> rfl

theorem editReply_editStandby (s : State) (x : Bank) :
    (s.editStandby x).editReply = bytes1 (if s.plans.oneActive then 0 else 1) ++ bytes4 x.entries.length ++
      bytes4 ((x.edits + 1) % 256) := by
  simp only [State.editReply, State.editStandby, standbyNumber_eq, setStandby_oneActive, Plans.standby_setStandby]
  rfl

/-- What the reply to an accepted edit leaves. -/
theorem edited_of {s : State} {a : Answer} {x : Bank} (h : a = s.acceptEdit x) :
    let t := State.reply .controlRoom 0x38 a
    t = { s with plans := s.plans.setStandby { x with edits := (x.edits + 1) % 256 }, ports := t.ports } ∧
    Replied s t .controlRoom 0x38 .accepted
      (bytes1 (if s.plans.oneActive then 0 else 1) ++ bytes4 x.entries.length ++ bytes4 ((x.edits + 1) % 256)) := by
  rw [← editReply_editStandby]
  exact accepted_of (u := s.editStandby x) h rfl

/-! ## The codes of an entry (R109) -/

theorem exists_platform {x : Nat} (h : ¬1 < x) : ∃ pf, Platform.code pf = x := by
  obtain rfl | rfl : x = 0 ∨ x = 1 := by omega
  · exact ⟨.a, rfl⟩
  · exact ⟨.b, rfl⟩

/-- No directive has these codes: RESERVED needs a tag, and the others take none. -/
theorem planDirective_ofCode_none {directive tag : Nat}
    (h : 2 < directive ∨ (directive = 2 ∧ tag = 0) ∨ (directive < 2 ∧ tag ≠ 0)) :
    PlanDirective.ofCode directive tag = none := by
  unfold PlanDirective.ofCode
  split
  · exact if_neg (by omega)
  · exact if_neg (by omega)
  · exact if_pos (by omega)
  · rfl

theorem planDirective_ofCode_code {d : PlanDirective} (h : ¬(d.code = 2 ∧ d.tag = 0)) :
    PlanDirective.ofCode d.code d.tag = some d := by
  cases d with
  | pass => rfl
  | alightOnly => rfl
  | reserved tag => exact if_neg fun zero => h ⟨rfl, zero⟩

theorem exists_directive {directive tag : Nat}
    (h : ¬(2 < directive ∨ (directive = 2 ∧ tag = 0) ∨ (directive < 2 ∧ tag ≠ 0))) :
    ∃ d : PlanDirective, d.code = directive ∧ d.tag = tag := by
  obtain ⟨rfl, rfl⟩ | ⟨rfl, rfl⟩ | rfl : (directive = 0 ∧ tag = 0) ∨ (directive = 1 ∧ tag = 0) ∨ directive = 2 := by
    omega
  · exact ⟨.pass, rfl, rfl⟩
  · exact ⟨.alightOnly, rfl, rfl⟩
  · exact ⟨.reserved tag, rfl, rfl⟩

/-! ## The operations of PLAN EDIT -/

/-- ENTRY SET names no cabin of the wheel, no platform, or no directive (R109). -/
theorem ownEntrySet_badField {s : State} {cabin platform directive tag : Nat}
    (h : s.geometry.n ≤ cabin ∨ 1 < platform ∨ PlanDirective.ofCode directive tag = none) :
    ownEntrySet cabin platform directive tag s = s.refuse .badField := by
  unfold ownEntrySet
  split
  next pf d at_ found =>
    rcases h with big | big | none
    · exact if_pos big
    · rw [platform_ofCode_of_lt big] at at_
      cases at_
    · rw [none] at found
      cases found
  · rfl

/-- ENTRY SET of an entry, by its tests in order (R109). -/
theorem ownEntrySet_named {s : State} {e : PlanEntry} (named : ¬(e.directive.code = 2 ∧ e.directive.tag = 0))
    (small : ¬s.geometry.n ≤ e.cabin) :
    ownEntrySet e.cabin (Platform.code e.platform) e.directive.code e.directive.tag s =
      if s.plans.swapPending then s.refuse .pending
      else if 32 ≤ s.plans.standby.entries.length ∧ ¬s.plans.standby.hasEntry e.cabin e.platform = true then
        s.refuse .full
      else s.acceptEdit (s.plans.standby.setEntry e) := by
  unfold ownEntrySet
  rw [platform_ofCode_code, planDirective_ofCode_code named]
  dsimp only
  rw [if_neg small]
  simp only [Bool.and_eq_true, decide_eq_true_eq, Bool.not_eq_true', Bool.not_eq_true]

/-- ENTRY REMOVE names no cabin, or no platform (R110). -/
theorem ownEntryRemove_badField {s : State} {cabin platform : Nat} (h : 63 < cabin ∨ 1 < platform) :
    ownEntryRemove cabin platform s = s.refuse .badField := by
  unfold ownEntryRemove
  split
  next pf at_ =>
    rcases h with big | big
    · exact if_pos big
    · rw [platform_ofCode_of_lt big] at at_
      cases at_
  · rfl

/-- ENTRY REMOVE of a cabin and a platform, by its tests in order (R110). -/
theorem ownEntryRemove_named {s : State} {cabin : Nat} (pf : Platform) (small : cabin ≤ 63) :
    ownEntryRemove cabin (Platform.code pf) s =
      if s.plans.swapPending then s.refuse .pending
      else if ¬s.plans.standby.hasEntry cabin pf = true then s.refuse .notFound
      else s.acceptEdit (s.plans.standby.removeEntry cabin pf) := by
  unfold ownEntryRemove
  rw [platform_ofCode_code]
  dsimp only
  rw [if_neg (by omega)]
  simp only [Bool.not_eq_true', Bool.not_eq_true]

/-- Settles O37: each operation by its tests in order; what it leaves of the list is said by the lemmas of `setEntry`
and `removeEntry`. -/
theorem planEditsChangeTheStandbyList : Obligations.PlanEditsChangeTheStandbyList := by
  unfold Obligations.PlanEditsChangeTheStandbyList
  intro s ready x ahead edited refused
  have accepted {a : Answer} {y : Bank} (h : a = s.acceptEdit y) (apart : y = { x with entries := y.entries })
      (sorted : x.entries.Pairwise ahead → y.entries.Pairwise ahead) :
      edited (State.reply .controlRoom 0x38 a) y.entries := by
    obtain ⟨frame, replied⟩ := edited_of h
    rw [apart] at frame replied
    exact ⟨frame, sorted, replied⟩
  refine ⟨fun cabin platform directive tag => ⟨_, State.request_ready ready _ rfl, ?set⟩,
    fun cabin platform => ⟨_, State.request_ready ready _ rfl,
      fun bad => refused_of (ownEntryRemove_badField bad), ?remove⟩,
    ⟨_, State.request_ready ready _ rfl, fun pending => refused_of (if_pos pending), fun free => ?clear⟩⟩
  case set =>
    intro bad
    have named (good : ¬bad) {e : PlanEntry} (hc : e.cabin = cabin) (hp : Platform.code e.platform = platform)
        (hd : e.directive.code = directive) (ht : e.directive.tag = tag) :
        ownEntrySet cabin platform directive tag s =
          if s.plans.swapPending then s.refuse .pending
          else if 32 ≤ x.entries.length ∧ ¬x.hasEntry e.cabin e.platform = true then s.refuse .full
          else s.acceptEdit (x.setEntry e) := by
      subst hc hp hd ht
      exact ownEntrySet_named (fun h => good (.inr (.inr (.inr (.inl h))))) fun h => good (.inl h)
    refine ⟨fun h => refused_of (ownEntrySet_badField ?_), fun good pending => ?_, fun e hc hp hd ht => ?_⟩
    · exact h.imp_right (Or.imp_right planDirective_ofCode_none)
    · obtain ⟨pf, hp⟩ := exists_platform fun h => good (.inr (.inl h))
      obtain ⟨d, hd, ht⟩ := exists_directive fun h => good (.inr (.inr h))
      exact refused_of ((named good (e := ⟨cabin, pf, d⟩) rfl hp hd ht).trans (if_pos pending))
    intro same present
    have here : x.hasEntry e.cabin e.platform = true ↔ present := hasEntry_iff x e.cabin e.platform
    refine ⟨fun good free absent full => ?_, fun good free room => ?_⟩
    all_goals
      have tests := named good hc hp hd ht
      rw [if_neg (ne_true_of_eq_false free)] at tests
    · exact refused_of (tests.trans (if_pos ⟨full, mt here.mp absent⟩))
    · have length := setEntry_length x e
      have fits : ¬(32 ≤ x.entries.length ∧ ¬x.hasEntry e.cabin e.platform = true) := fun ⟨full, absent⟩ =>
        room.elim (mt here.mpr absent) full.not_gt
      exact ⟨_, accepted (tests.trans (if_neg fits)) rfl (setEntry_pairwise x e), mem_setEntry x e,
        fun h => length.trans (if_pos (here.mpr h)), fun h => length.trans (if_neg (mt here.mp h))⟩
  case remove =>
    rintro pf small rfl same
    have tests := ownEntryRemove_named (s := s) pf small
    have here : x.hasEntry cabin pf = true ↔ ∃ d ∈ x.entries, same d := hasEntry_iff x cabin pf
    have fewer := removeEntry_sublist x cabin pf
    refine ⟨fun pending => refused_of (tests.trans (if_pos pending)), fun free absent => ?_, fun free found => ?_⟩
    all_goals rw [if_neg (ne_true_of_eq_false free)] at tests
    · exact refused_of (tests.trans (if_pos fun h => (here.mp h).elim fun d found => absent d found.1 found.2))
    · exact ⟨_, accepted (tests.trans (if_neg (not_not.mpr (here.mpr found)))) rfl fun sorted => sorted.sublist fewer,
        fewer, mem_removeEntry x cabin pf⟩
  case clear =>
    exact accepted (y := { x with entries := [] }) (if_neg (ne_true_of_eq_false free)) rfl fun _ => .nil

/-! ## SETTINGS and PLAN SWAP -/

theorem planMode_ofCode_of_lt {mode : Nat} (h : 1 < mode) : PlanMode.ofCode mode = none := by
  obtain ⟨k, rfl⟩ : ∃ k, mode = k + 2 := ⟨mode - 2, by omega⟩
  rfl

theorem planMode_ofCode_of_le {mode : Nat} (h : mode ≤ 1) :
    PlanMode.ofCode mode = some (if mode = 1 then .single else .repeating) := by
  obtain rfl | rfl : mode = 0 ∨ mode = 1 := by omega
  · rfl
  · rfl

/-- The four settings as stored, by the mode's code (R106). -/
theorem configure_eq (x : Bank) (mode revolutions speed stopOnMiss absolute : Nat) :
    x.configure (if mode = 1 then .single else .repeating) revolutions speed stopOnMiss absolute =
      { x with mode := if mode = 1 then .single else .repeating
               count := if mode = 1 then max 1 (min 255 revolutions) else 1
               speed := min (min 2000 speed) absolute
               stopOnMiss := readYesNo stopOnMiss } := by
  unfold Bank.configure
  rw [clamp_eq_max_min (by decide)]
  by_cases h : mode = 1
  · simp only [h, if_true]
  · simp only [h, if_false, reduceCtorEq]

theorem planMode_code_of_le {mode : Nat} (h : mode ≤ 1) :
    PlanMode.code (if mode = 1 then .single else .repeating) = mode := by
  obtain rfl | rfl : mode = 0 ∨ mode = 1 := by omega
  · rfl
  · rfl

theorem ownSettings_badField {s : State} {mode : Nat} (revolutions speed stopOnMiss : Nat) (h : 1 < mode) :
    ownSettings mode revolutions speed stopOnMiss s = s.refuse .badField := by
  unfold ownSettings
  rw [planMode_ofCode_of_lt h]

/-- SETTINGS of a mode, by its tests in order (R110). -/
theorem ownSettings_named {s : State} {mode : Nat} (revolutions speed stopOnMiss : Nat) (h : mode ≤ 1) :
    ownSettings mode revolutions speed stopOnMiss s =
      let x := s.plans.standby.configure (if mode = 1 then .single else .repeating) revolutions speed stopOnMiss
        s.settings.speeds.absolute
      if s.plans.swapPending then s.refuse .pending
      else State.accept (s.editStandby x)
        ((s.editStandby x).editReply ++ bytes1 x.mode.code ++ bytes1 x.count ++ bytes2 x.speed) := by
  unfold ownSettings
  rw [planMode_ofCode_of_le h]

/-- Settles O38: the branches of `ownSettings_named` and of PLAN SWAP, the settings stored being those of
`configure_eq`. -/
theorem planSettingsAndSwap : Obligations.PlanSettingsAndSwap := by
  unfold Obligations.PlanSettingsAndSwap
  intro s ready x standby
  refine ⟨fun mode revolutions speed stopOnMiss => ?settings,
    ⟨_, State.request_ready ready _ rfl, fun pending => refused_of (if_pos pending), fun free => ?swap⟩⟩
  case settings =>
    obtain ⟨no, yes⟩ := readYesNo_eq stopOnMiss
    refine ⟨_, readYesNo stopOnMiss, State.request_ready ready _ rfl, no, yes, ?_⟩
    intro count stored
    refine ⟨fun bad => refused_of (ownSettings_badField _ _ _ bad), fun le pending => ?_, fun le free => ?_⟩
    all_goals have tests := ownSettings_named (s := s) revolutions speed stopOnMiss le
    · exact refused_of (tests.trans (if_pos pending))
    · have own := tests.trans (if_neg (ne_true_of_eq_false free))
      rw [editReply_editStandby, configure_eq, planMode_code_of_le le] at own
      exact accepted_of own rfl
  case swap =>
    have number : s.plans.standbyNumber = standby := standbyNumber_eq s.plans
    rw [← number]
    exact accepted_of (if_neg (ne_true_of_eq_false free)) rfl

end Sys2Proof.PlanBanks
end

section
/-! What the records of a hold source's change can be: its own HOLD_RAISED and HOLD_RELEASED, and those of what a move of
the held grade sets off (R138, R150, R162, R66). -/

namespace Sys2Proof.WindAssessment

open Machine

/-! ## Records with a property -/

/-- Every record appended from `s` to `t` satisfies `p`. -/
def Logs (p : EventRecord → Prop) (s t : State) : Prop := ∃ xs, Recorded s t xs ∧ ∀ e ∈ xs, p e

theorem Logs.keep {p : EventRecord → Prop} {s t : State} (events : t.events = s.events) : Logs p s t :=
  ⟨[], events, fun _ mem => absurd mem List.not_mem_nil⟩

theorem Logs.append {p : EventRecord → Prop} (s : State) {r : EventRecord} (h : p r) : Logs p s (s.append r) :=
  ⟨[r], rfl, by simpa using h⟩

theorem Logs.trans {p : EventRecord → Prop} {s t u : State} (h : Logs p s t) (k : Logs p t u) : Logs p s u := by
  obtain ⟨xs, hx, px⟩ := h
  obtain ⟨ys, hy, py⟩ := k
  exact ⟨xs ++ ys, recorded_trans hx hy, fun e mem => (List.mem_append.mp mem).elim (px e) (py e)⟩

theorem Logs.mono {p q : EventRecord → Prop} {s t : State} (h : Logs p s t) (imp : ∀ e, p e → q e) : Logs q s t := by
  obtain ⟨xs, hx, px⟩ := h
  exact ⟨xs, hx, fun e mem => imp e (px e mem)⟩

/-- Records all of other kinds. -/
theorem Logs.recordedOf {p : EventRecord → Prop} {s t : State} (h : Logs p s t) {kinds : List EventKind}
    (other : ∀ e, p e → e.kind ∉ kinds) : RecordedOf s t kinds [] := by
  obtain ⟨xs, hx, px⟩ := h
  refine ⟨xs, hx, List.filter_eq_nil_iff.mpr fun e mem => ?_⟩
  rw [List.contains_iff_mem]
  exact other e (px e mem)

/-! ## The records of a change of one source -/

/-- The kinds of the records that a change of a hold source sets off. -/
def reactionKinds : List EventKind := [.holdRaised, .holdReleased, .unloadComplete, .parked, .partyAssigned]

/-- A record that a change of the hold source `src` may make. -/
def SetOff (src : Source) (e : EventRecord) : Prop := e.kind ∈ reactionKinds ∧ (e.source = none ∨ e.source = some src)

theorem logs_logLatch (s : State) (src : Source) (old new : Grade) : Logs (SetOff src) s (s.logLatch src old new) := by
  unfold State.logLatch
  split
  · exact .append s ⟨(by decide : EventKind.holdRaised ∈ reactionKinds), .inr rfl⟩
  · split
    · exact .append s ⟨(by decide : EventKind.holdReleased ∈ reactionKinds), .inr rfl⟩
    · exact .keep rfl

theorem logs_judgeUnload (s : State) (src : Source) : Logs (SetOff src) s s.judgeUnload := by
  have written (x : Unload) : Logs (SetOff src) s { s with unload := x } := .keep rfl
  unfold State.judgeUnload
  dsimp only
  split
  · exact (written _).trans (.append _ ⟨(by decide : EventKind.unloadComplete ∈ reactionKinds), .inl rfl⟩)
  · exact written _

theorem logs_parkedTest (s : State) (src : Source) : Logs (SetOff src) s s.parkedTest := by
  have parked (r : Option ParkRecord) : Logs (SetOff src) s (s.setPark r) := .keep rfl
  unfold State.parkedTest
  split
  · exact .keep rfl
  · split
    · exact (parked _).trans (.append _ ⟨(by decide : EventKind.parked ∈ reactionKinds), .inl rfl⟩)
    · exact .keep rfl

theorem logs_parkOnChange (s : State) (src : Source) (old new : Grade) :
    Logs (SetOff src) s (s.parkOnChange old new) := by
  have parked (r : Option ParkRecord) : Logs (SetOff src) s (s.setPark r) := .keep rfl
  unfold State.parkOnChange
  split
  · exact (parked _).trans (logs_parkedTest _ src)
  · split <;> exact .keep rfl

theorem logs_assignIfDue (s : State) (src : Source) (pf : Platform) : Logs (SetOff src) s (s.assignIfDue pf) := by
  rw [assignIfDue_eq, askedIfAllowed]
  split
  · exact .keep rfl
  · obtain ⟨-, -, -, -, events⟩ := asked_kept s pf
    refine ⟨assignmentRecords s pf, State.appends_events events _, fun r mem => ?_⟩
    unfold assignmentRecords at mem
    split at mem
    · cases mem
    · obtain ⟨e, -, rfl⟩ := List.mem_map.mp mem
      exact ⟨(by decide : EventKind.partyAssigned ∈ reactionKinds), .inl rfl⟩

theorem logs_heldChanged (s : State) (src : Source) (old new : Grade) : Logs (SetOff src) s (s.heldChanged old new) := by
  have judged := (logs_judgeUnload s src).trans (logs_parkOnChange _ src old new)
  unfold State.heldChanged
  dsimp only
  split
  · exact judged
  · exact judged.trans ((logs_assignIfDue _ src .a).trans (logs_assignIfDue _ src .b))

theorem logs_changeSource (s : State) (src : Source) (f : HoldRecord → HoldRecord) :
    Logs (SetOff src) s (s.changeSource src f) := by
  have written (x : Holds) : Logs (SetOff src) s { s with holds := x } := .keep rfl
  unfold State.changeSource
  dsimp only
  split
  · exact (written _).trans (logs_logLatch _ src _ _)
  · exact ((written _).trans (logs_logLatch _ src _ _)).trans (logs_heldChanged _ src _ _)

theorem logs_setCondition (s : State) (src : Source) (g : Grade) : Logs (SetOff src) s (s.setCondition src g) := by
  unfold State.setCondition
  split
  · exact .keep rfl
  · exact logs_changeSource s src _

end Sys2Proof.WindAssessment
end

section
/-! A window end stage by stage (R120): the state after the parked test, after the tests of the sensors, and after
WIND_SENSOR's condition; the Wind Assessor it leaves, and the records of each stage. -/

namespace Sys2Proof.WindAssessment

open Machine CabinTable StatusLoop

/-! ## The Wind Assessor after a window end -/

/-- The sensor a sensor is tested against (R124). -/
def companionOf : Sensor → Sensor
  | .crown => .deck
  | .deck => .crown

theorem companionOf_eq {k other : Sensor} (ne : k ≠ other) : companionOf k = other := by
  cases k <;> cases other
  case crown.crown | deck.deck => exact absurd rfl ne
  all_goals rfl

/-- A sensor with its window closed, before the tests (R120, steps 1 to 4). -/
def closedSensor (s : State) (k : Sensor) : Anemometer := (s.wind.closeWindows s.settings.factors).sensors.get k

/-- A sensor's test at a window end (R120, step 5). -/
def sensorTest (s : State) (k : Sensor) : Anemometer × SensorChange :=
  (closedSensor s k).test (closedSensor s (companionOf k)).companion s.settings.stallTime s.settings.stallReference

/-- The Wind Assessor with both sensors tested. -/
def testedWind (s : State) : Wind :=
  { s.wind.closeWindows s.settings.factors with
    sensors := { crown := (sensorTest s .crown).1, deck := (sensorTest s .deck).1 } }

/-- The class and the quiet timer that a window end leaves (R120, step 7). -/
def judgedClass (s : State) : ClassStep := (testedWind s).combine.classStep s.settings.classes

/-- The Wind Assessor that a window end leaves. -/
def windAfter (s : State) : Wind :=
  { (testedWind s).combine with windClass := (judgedClass s).windClass, quietTimer := (judgedClass s).quietTimer }

theorem testedWind_sensor (s : State) (k : Sensor) : (testedWind s).sensors.get k = (sensorTest s k).1 := by
  cases k <;> rfl

/-- The combined wind leaves everything but its own figures (R127). -/
theorem combine_eq (w : Wind) :
    w.combine = { w with gust := w.combine.gust, mean := w.combine.mean, sensorCondition := w.combine.sensorCondition } := by
  unfold Wind.combine
  dsimp only
  split <;> rfl

theorem windAfter_sensor (s : State) (k : Sensor) : (windAfter s).sensors.get k = (sensorTest s k).1 := by
  rw [windAfter, combine_eq, ← testedWind_sensor]

/-! ## The stages -/

/-- After the end of the speed window, with the parked test (R3, R165). -/
def parkTested (s : State) : State := State.parkedTest { s with position := s.position.closeWindow }

/-- After the tests of both sensors (R120, steps 1 to 5). -/
def sensed (s : State) : State :=
  State.testSensors { parkTested s with wind := (parkTested s).wind.closeWindows (parkTested s).settings.factors }

/-- After the combined wind (R120, step 6). -/
def combined (s : State) : State := { sensed s with wind := (sensed s).wind.combine }

/-- After WIND_SENSOR's condition. -/
def flagged (s : State) : State := (combined s).formProgrammed .windSensor (combined s).wind.sensorCondition

theorem windowEnd_eq (s : State) : s.windowEnd = (flagged s).judgeClass := rfl

theorem exec_windowEnd {s : State} (running : s.phase = .running) : exec .windowEnd s = .next s.windowEnd.refresh :=
  State.running_of running _

theorem parkTested_reaction (s : State) : Reaction { s with position := s.position.closeWindow } (parkTested s) :=
  State.parkedTest_reaction _

/-- The records of a sensor's change (Table 7-5). -/
def sensorRecords (s : State) (k : Sensor) : SensorChange → List EventRecord
  | .same => []
  | .stalled => [plainRecord s .sensorFault (1 + 2 * sensorOrdinal k : Nat)]
  | .overran => [plainRecord s .sensorFault (2 + 2 * sensorOrdinal k : Nat)]
  | .recovered => [plainRecord s .sensorRecovered (1 + sensorOrdinal k : Nat)]

theorem logSensor_eq (s : State) (k : Sensor) (c : SensorChange) :
    s.logSensor k c = (sensorRecords s k c).foldl State.append s := by
  cases c <;> rfl

theorem sensorRecords_congr {s t : State} (clock : t.clock = s.clock) (k : Sensor) (c : SensorChange) :
    sensorRecords t k c = sensorRecords s k c := by
  cases c <;> simp only [sensorRecords, plainRecord, clock]

theorem sensorRecords_kind {s : State} {k : Sensor} {c : SensorChange} {e : EventRecord}
    (mem : e ∈ sensorRecords s k c) : e.kind ∈ [EventKind.sensorFault, .sensorRecovered] ∧ e.source = none := by
  cases c with
  | same => cases mem
  | stalled | overran | recovered =>
    obtain rfl := List.mem_singleton.mp mem
    exact ⟨by simp [plainRecord], rfl⟩

theorem logSensor_reaction (s : State) (k : Sensor) (c : SensorChange) : Reaction s (s.logSensor k c) := by
  cases c with
  | same => exact .refl s
  | stalled | overran | recovered => exact s.logPlain_reaction _ _

/-- The state in which the changes of the sensors are recorded. -/
def unlogged (s : State) : State := { parkTested s with wind := testedWind s }

theorem sensed_eq (s : State) :
    sensed s = ((unlogged s).logSensor .crown (sensorTest s .crown).2).logSensor .deck (sensorTest s .deck).2 := by
  have wind : (parkTested s).wind = s.wind := (parkTested_reaction s).wind
  have settings : (parkTested s).settings = s.settings := congrArg Store.working (parkTested_reaction s).store
  unfold sensed State.testSensors
  simp only [State.settings] at settings ⊢
  rw [wind, settings]
  rfl

theorem sensed_reaction (s : State) : Reaction (unlogged s) (sensed s) := by
  rw [sensed_eq]
  exact (logSensor_reaction _ _ _).trans (logSensor_reaction _ _ _)

theorem flagged_reaction (s : State) : Reaction (combined s) (flagged s) := State.formProgrammed_reaction _ _ _

theorem flagged_wind (s : State) : (flagged s).wind = (testedWind s).combine :=
  (flagged_reaction s).wind.trans (congrArg Wind.combine (sensed_reaction s).wind)

theorem flagged_clock (s : State) : (flagged s).clock = s.clock :=
  (flagged_reaction s).clock.trans ((sensed_reaction s).clock.trans (parkTested_reaction s).clock)

theorem flagged_settings (s : State) : (flagged s).settings = s.settings :=
  congrArg Store.working
    ((flagged_reaction s).store.trans ((sensed_reaction s).store.trans (parkTested_reaction s).store))

/-! ## The class is judged last -/

/-- The state in which a change of the class is recorded. -/
def classed (s : State) : State := { flagged s with wind := windAfter s }

theorem windowEnd_eq_changeClass (s : State) :
    s.windowEnd = (classed s).changeClass s.wind.windClass (windAfter s).windClass := by
  have old : (testedWind s).combine.windClass = s.wind.windClass := combine_windClass _
  rw [windowEnd_eq]
  unfold State.judgeClass
  simp only [flagged_wind, flagged_settings, old]
  rfl

theorem changeClass_reaction (s : State) (old new : WindClass) : Reaction s (s.changeClass old new) := by
  unfold State.changeClass
  split
  · exact .refl s
  · exact (s.logGrade_reaction _ _ _).trans (State.setCondition_reaction _ _ _)

theorem windowEnd_wind (s : State) : s.windowEnd.wind = windAfter s := by
  rw [windowEnd_eq_changeClass]
  exact (changeClass_reaction _ _ _).wind

/-! ## The records of each stage -/

theorem logs_parkTested (s : State) (src : Source) : Logs (SetOff src) s (parkTested s) := by
  obtain ⟨xs, recorded, all⟩ := logs_parkedTest { s with position := s.position.closeWindow } src
  exact ⟨xs, recorded_congr recorded rfl, all⟩

theorem sensed_recorded (s : State) : Recorded (parkTested s) (sensed s)
    (sensorRecords s .crown (sensorTest s .crown).2 ++ sensorRecords s .deck (sensorTest s .deck).2) := by
  have clock : (unlogged s).clock = s.clock := (parkTested_reaction s).clock
  have clock' : ((unlogged s).logSensor .crown (sensorTest s .crown).2).clock = s.clock :=
    (logSensor_reaction _ _ _).clock.trans clock
  rw [sensed_eq, ← sensorRecords_congr clock, ← sensorRecords_congr clock']
  have crown := recorded_appends (unlogged s) (sensorRecords (unlogged s) .crown (sensorTest s .crown).2)
  rw [← logSensor_eq] at crown
  have deck := recorded_appends ((unlogged s).logSensor .crown (sensorTest s .crown).2)
    (sensorRecords ((unlogged s).logSensor .crown (sensorTest s .crown).2) .deck (sensorTest s .deck).2)
  rw [← logSensor_eq] at deck
  exact recorded_congr (recorded_trans crown deck) rfl

theorem logs_flagged (s : State) : Logs (SetOff .windSensor) (sensed s) (flagged s) := by
  obtain ⟨xs, recorded, all⟩ := logs_setCondition (combined s) .windSensor
    (if (combined s).wind.sensorCondition then (combined s).programmed .windSensor else .none)
  exact ⟨xs, recorded_congr recorded rfl, all⟩

end Sys2Proof.WindAssessment
end

section
/-! The fault and recovery tests of the anemometers and their records (R124 to R126). -/

namespace Sys2Proof.WindAssessment

open Machine

/-! ## The tests of one sensor -/

section
variable (x : Anemometer) (other : Companion) (stallTime reference : Nat)

/-- The sensor's stall timer has reached the stall time (R124). -/
def stallsOut : Bool := x.stalling other reference && 1000 * stallTime ≤ x.stallTimer + 250

/-- The tests of a VALID sensor: the stall, the overrange run, neither (R124, R125). -/
theorem faultTest_eq : x.faultTest other stallTime reference =
    if stallsOut x other stallTime reference then (x.rested true, .stalled)
    else if x.lastCount = 1023 ∧ 4 ≤ x.overrangeRun + 1 then (x.rested true, .overran)
    else ({ x with stallTimer := if x.stalling other reference then x.stallTimer + 250 else 0
                   overrangeRun := if x.lastCount = 1023 then x.overrangeRun + 1 else 0 }, .same) := by
  unfold Anemometer.faultTest stallsOut
  by_cases stalling : x.stalling other reference = true <;> by_cases saturated : x.lastCount = 1023 <;>
    simp [stalling, saturated]

/-- The test of a FAULTED sensor (R126). -/
theorem recoveryTest_eq : x.recoveryTest =
    if (1 ≤ x.lastCount ∧ x.lastCount ≤ 1022) ∧ 240 ≤ x.recoveryRun + 1 then (x.rested false, .recovered)
    else ({ x with recoveryRun := if 1 ≤ x.lastCount ∧ x.lastCount ≤ 1022 then x.recoveryRun + 1 else 0 }, .same) := by
  unfold Anemometer.recoveryTest
  by_cases sound : 1 ≤ x.lastCount ∧ x.lastCount ≤ 1022 <;> simp [sound]

variable {x}

theorem test_valid (valid : x.faulted = false) :
    x.test other stallTime reference = x.faultTest other stallTime reference := if_neg (ne_true_of_eq_false valid)

theorem test_faulted (faulted : x.faulted = true) : x.test other stallTime reference = x.recoveryTest := if_pos faulted

variable (x) in
/-- The tests leave the sensor's figures. -/
theorem test_figures :
    (x.test other stallTime reference).1.gust = x.gust ∧ (x.test other stallTime reference).1.mean = x.mean := by
  unfold Anemometer.test
  split
  · rw [recoveryTest_eq]
    split <;> exact ⟨rfl, rfl⟩
  · rw [faultTest_eq]
    split
    · exact ⟨rfl, rfl⟩
    · split <;> exact ⟨rfl, rfl⟩

/-- What a VALID sensor is after its tests (R124, R125). -/
theorem validTest (valid : x.faulted = false) {y : Anemometer} (tested : (x.test other stallTime reference).1 = y) :
    (y.faulted = true ↔ stallsOut x other stallTime reference = true ∨ x.lastCount = 1023 ∧ 4 ≤ x.overrangeRun + 1) ∧
    (y.faulted = true → y.stallTimer = 0 ∧ y.overrangeRun = 0 ∧ y.recoveryRun = 0) ∧
    (y.faulted = false →
      y.stallTimer = (if x.stalling other reference then x.stallTimer + 250 else 0) ∧
      y.overrangeRun = if x.lastCount = 1023 then x.overrangeRun + 1 else 0) := by
  rw [test_valid _ _ _ valid, faultTest_eq] at tested
  subst tested
  by_cases stall : stallsOut x other stallTime reference = true
  · rw [if_pos stall]
    exact ⟨⟨fun _ => .inl stall, fun _ => rfl⟩, fun _ => ⟨rfl, rfl, rfl⟩, nofun⟩
  rw [if_neg stall]
  by_cases range : x.lastCount = 1023 ∧ 4 ≤ x.overrangeRun + 1
  · rw [if_pos range]
    exact ⟨⟨fun _ => .inr range, fun _ => rfl⟩, fun _ => ⟨rfl, rfl, rfl⟩, nofun⟩
  · rw [if_neg range]
    have stays : x.faulted ≠ true := ne_true_of_eq_false valid
    exact ⟨⟨fun h => absurd h stays, fun h => absurd h (not_or.mpr ⟨stall, range⟩)⟩, fun h => absurd h stays,
      fun _ => ⟨rfl, rfl⟩⟩

/-- What a FAULTED sensor is after its test (R126). -/
theorem faultedTest (faulted : x.faulted = true) {y : Anemometer} (tested : (x.test other stallTime reference).1 = y) :
    (y.faulted = false ↔ (1 ≤ x.lastCount ∧ x.lastCount ≤ 1022) ∧ 240 ≤ x.recoveryRun + 1) ∧
    (y.faulted = false → y.stallTimer = 0 ∧ y.overrangeRun = 0 ∧ y.recoveryRun = 0) ∧
    (y.faulted = true →
      y.recoveryRun = if 1 ≤ x.lastCount ∧ x.lastCount ≤ 1022 then x.recoveryRun + 1 else 0) := by
  rw [test_faulted _ _ _ faulted, recoveryTest_eq] at tested
  subst tested
  by_cases recovers : (1 ≤ x.lastCount ∧ x.lastCount ≤ 1022) ∧ 240 ≤ x.recoveryRun + 1
  · rw [if_pos recovers]
    exact ⟨⟨fun _ => recovers, fun _ => rfl⟩, fun _ => ⟨rfl, rfl, rfl⟩, nofun⟩
  · rw [if_neg recovers]
    have stays : x.faulted ≠ false := ne_false_of_eq_true faulted
    exact ⟨⟨fun h => absurd h stays, fun h => absurd h recovers⟩, fun h => absurd h stays, fun _ => rfl⟩

variable (x) in
/-- The change that is recorded, by the fault states before and after the tests. -/
theorem test_change : (x.test other stallTime reference).2 =
    if !x.faulted && (x.test other stallTime reference).1.faulted then
      (if stallsOut x other stallTime reference then .stalled else .overran)
    else if x.faulted && !(x.test other stallTime reference).1.faulted then .recovered
    else .same := by
  cases state : x.faulted with
  | false =>
    rw [test_valid _ _ _ state, faultTest_eq]
    by_cases stall : stallsOut x other stallTime reference = true
    · rw [if_pos stall]
      simp [stall, Anemometer.rested]
    rw [if_neg stall]
    by_cases range : x.lastCount = 1023 ∧ 4 ≤ x.overrangeRun + 1
    · rw [if_pos range]
      simp [stall, Anemometer.rested]
    · rw [if_neg range]
      simp [state]
  | true =>
    rw [test_faulted _ _ _ state, recoveryTest_eq]
    by_cases recovers : (1 ≤ x.lastCount ∧ x.lastCount ≤ 1022) ∧ 240 ≤ x.recoveryRun + 1
    · rw [if_pos recovers]
      simp [Anemometer.rested]
    · rw [if_neg recovers]
      simp [state]

end

/-! ## The tests of a window end -/

/-- Closing a window leaves what the tests count, the count read from the window closed (R120, R133). -/
theorem closedSensor_counts (s : State) (k : Sensor) :
    let x := s.wind.sensors.get k
    let c := closedSensor s k
    c.lastCount = x.openCount ∧ c.faulted = x.faulted ∧ c.stallTimer = x.stallTimer ∧
    c.overrangeRun = x.overrangeRun ∧ c.recoveryRun = x.recoveryRun := by
  unfold closedSensor Wind.closeWindows
  dsimp only
  split <;> cases k <;> exact ⟨rfl, rfl, rfl, rfl, rfl⟩

/-- The three conditions of R124, read after the window end. -/
theorem stalling_eq (s : State) (k : Sensor) :
    (closedSensor s k).stalling (closedSensor s (companionOf k)).companion s.settings.stallReference =
      (decide ((s.wind.sensors.get k).openCount = 0) && !(s.wind.sensors.get (companionOf k)).faulted &&
        decide (s.settings.stallReference ≤ (sensorTest s (companionOf k)).1.gust)) := by
  obtain ⟨count, -⟩ := closedSensor_counts s k
  obtain ⟨-, faulted, -⟩ := closedSensor_counts s (companionOf k)
  have gust : (sensorTest s (companionOf k)).1.gust = (closedSensor s (companionOf k)).gust := (test_figures ..).1
  rw [gust, ← count, ← faulted]
  rfl

/-- The stall of a sensor at a window end. -/
def stallAtEnd (s : State) (k : Sensor) : Bool :=
  stallsOut (closedSensor s k) (closedSensor s (companionOf k)).companion s.settings.stallTime s.settings.stallReference

theorem stallAtEnd_eq (s : State) (k : Sensor) :
    stallAtEnd s k =
      (decide ((s.wind.sensors.get k).openCount = 0) && !(s.wind.sensors.get (companionOf k)).faulted &&
        decide (s.settings.stallReference ≤ (sensorTest s (companionOf k)).1.gust) &&
        decide (1000 * s.settings.stallTime ≤ (s.wind.sensors.get k).stallTimer + 250)) := by
  obtain ⟨-, -, timer, -⟩ := closedSensor_counts s k
  rw [stallAtEnd, stallsOut, stalling_eq, timer]

/-- The records of a sensor's change, by its fault states before and after the window end (Table 7-5). -/
theorem sensorRecords_sensorTest (s : State) (k : Sensor) :
    sensorRecords s k (sensorTest s k).2 =
      if !(s.wind.sensors.get k).faulted && (sensorTest s k).1.faulted then
        [plainRecord s .sensorFault
          (if stallAtEnd s k then ((1 + 2 * sensorOrdinal k : Nat) : Int) else ((2 + 2 * sensorOrdinal k : Nat) : Int))]
      else if (s.wind.sensors.get k).faulted && !(sensorTest s k).1.faulted then
        [plainRecord s .sensorRecovered ((1 + sensorOrdinal k : Nat) : Int)]
      else [] := by
  obtain ⟨-, faulted, -⟩ := closedSensor_counts s k
  have change : (sensorTest s k).2 = _ := test_change ..
  rw [change, ← sensorTest, ← stallAtEnd, faulted]
  split
  · split <;> rfl
  · split <;> rfl

/-- The records of the fault and recovery tests of a window end, CROWN's before DECK's (DESIGN CHOICE, log 7). -/
theorem windowEnd_sensorRecords (s : State) :
    RecordedOf s s.windowEnd [.sensorFault, .sensorRecovered]
      (sensorRecords s .crown (sensorTest s .crown).2 ++ sensorRecords s .deck (sensorTest s .deck).2) := by
  have reaction {src : Source} (e : EventRecord) (h : SetOff src e) :
      e.kind ∉ [EventKind.sensorFault, .sensorRecovered] := by
    intro mem
    have apart : ∀ k ∈ reactionKinds, k ∉ [EventKind.sensorFault, .sensorRecovered] := by decide
    exact apart _ h.1 mem
  have parked : RecordedOf s (parkTested s) [.sensorFault, .sensorRecovered] [] :=
    (logs_parkTested s .windSensor).recordedOf reaction
  have tested : RecordedOf (parkTested s) (sensed s) [.sensorFault, .sensorRecovered] _ :=
    ⟨_, sensed_recorded s, List.filter_eq_self.mpr fun e mem => List.contains_iff_mem.mpr <|
      (List.mem_append.mp mem).elim (fun m => (sensorRecords_kind m).1) fun m => (sensorRecords_kind m).1⟩
  have condition : RecordedOf (sensed s) (flagged s) [.sensorFault, .sensorRecovered] [] :=
    (logs_flagged s).recordedOf reaction
  have judged : RecordedOf (flagged s) s.windowEnd [.sensorFault, .sensorRecovered] [] := by
    rw [windowEnd_eq_changeClass]
    unfold State.changeClass
    split
    · exact ⟨[], rfl, rfl⟩
    · have change (g : Grade) (v : Int) : RecordedOf (flagged s) ((classed s).logGrade .classChange g v)
          [.sensorFault, .sensorRecovered] [] := .congr (.append_other (classed s) _ rfl) rfl rfl
      exact (change _ _).trans ((logs_setCondition _ .wind _).recordedOf reaction)
  simpa using ((parked.trans tested).trans condition).trans judged

/-- Settles O53: the records are those of `windowEnd_sensorRecords`, each read by `sensorRecords_sensorTest`; the tests of
a VALID sensor are `validTest`, that of a FAULTED one `faultedTest`. -/
theorem sensorFaultsAndRecoveries : Obligations.SensorFaultsAndRecoveries := by
  unfold Obligations.SensorFaultsAndRecoveries
  intro s running
  have wind : s.windowEnd.refresh.wind = windAfter s := windowEnd_wind s
  refine ⟨s.windowEnd.refresh, exec_windowEnd running, ?records, fun k other ne => ?tests⟩
  case records =>
    have records := windowEnd_sensorRecords s
    simp only [sensorRecords_sensorTest, stallAtEnd_eq] at records
    simp only [wind, windAfter_sensor]
    exact records
  case tests =>
    obtain rfl := companionOf_eq ne
    intro x y
    have tested : (sensorTest s k).1 = y := ((congrArg (·.sensors.get k) wind).trans (windAfter_sensor s k)).symm
    rw [wind, windAfter_sensor]
    intro stalling cleared
    obtain ⟨count, faulted, timer, overrange, recovery⟩ := closedSensor_counts s k
    have stalls : (closedSensor s k).stalling (closedSensor s (companionOf k)).companion s.settings.stallReference = true ↔
        stalling := by
      rw [stalling_eq]
      simp only [Bool.and_eq_true, decide_eq_true_eq, Bool.not_eq_true', and_assoc]
      rfl
    refine ⟨fun valid => ?valid, fun out => ?faulted⟩
    case valid =>
      obtain ⟨fault, rested, runs⟩ := validTest _ _ _ (faulted.trans valid) tested
      simp only [stallsOut, Bool.and_eq_true, decide_eq_true_eq, stalls, count, timer, overrange] at fault runs
      exact ⟨fault, rested, fun h => ⟨fun yes => (runs h).1.trans (if_pos yes), fun no => (runs h).1.trans (if_neg no),
        (runs h).2⟩⟩
    case faulted =>
      obtain ⟨recovers, rested, runs⟩ := faultedTest _ _ _ (faulted.trans out) tested
      rw [count, recovery] at recovers runs
      exact ⟨recovers, rested, fun h => ⟨fun yes => (runs h).trans (if_pos yes), fun no => (runs h).trans (if_neg no)⟩⟩

end Sys2Proof.WindAssessment
end

section
/-! The combined wind, the wind class and its record (R127 to R130). -/

namespace Sys2Proof.WindAssessment

open Machine CabinTable StatusLoop

/-! ## The combined wind (R127) -/

/-- The combined wind leaves the sensors, the count of window ends, the class and the quiet timer. -/
theorem combine_kept (w : Wind) :
    w.combine.sensors = w.sensors ∧ w.combine.windowEnds = w.windowEnds ∧ w.combine.windClass = w.windClass ∧
    w.combine.quietTimer = w.quietTimer := by
  rw [combine_eq]
  exact ⟨rfl, rfl, rfl, rfl⟩

theorem combine_sensorCondition (w : Wind) :
    w.combine.sensorCondition = (w.sensors.crown.faulted && w.sensors.deck.faulted) := by
  unfold Wind.combine
  dsimp only
  split <;> next crown deck => rw [crown, deck]; rfl

theorem combine_bothValid {w : Wind} (crown : w.sensors.crown.faulted = false) (deck : w.sensors.deck.faulted = false) :
    w.combine.gust = max w.sensors.crown.gust w.sensors.deck.gust ∧
    w.combine.mean = max w.sensors.crown.mean w.sensors.deck.mean := by
  unfold Wind.combine
  dsimp only
  rw [crown, deck]
  exact ⟨rfl, rfl⟩

theorem combine_crownValid {w : Wind} (crown : w.sensors.crown.faulted = false) (deck : w.sensors.deck.faulted = true) :
    w.combine.gust = w.sensors.crown.gust ∧ w.combine.mean = w.sensors.crown.mean := by
  unfold Wind.combine
  dsimp only
  rw [crown, deck]
  exact ⟨rfl, rfl⟩

theorem combine_deckValid {w : Wind} (crown : w.sensors.crown.faulted = true) (deck : w.sensors.deck.faulted = false) :
    w.combine.gust = w.sensors.deck.gust ∧ w.combine.mean = w.sensors.deck.mean := by
  unfold Wind.combine
  dsimp only
  rw [crown, deck]
  exact ⟨rfl, rfl⟩

theorem combine_noneValid {w : Wind} (crown : w.sensors.crown.faulted = true) (deck : w.sensors.deck.faulted = true) :
    w.combine.gust = w.gust ∧ w.combine.mean = w.mean := by
  unfold Wind.combine
  dsimp only
  rw [crown, deck]
  exact ⟨rfl, rfl⟩

/-! ## The class (R128, R129) -/

theorem reached_iff (row : ClassRow) (g m : Nat) : row.reached g m = true ↔ row.ug ≤ g ∨ row.um ≤ m := by
  simp only [ClassRow.reached, Bool.or_eq_true, decide_eq_true_eq]

theorem fallen_iff (row : ClassRow) (g m : Nat) : row.fallen g m = true ↔ g < row.dg ∧ m < row.dm := by
  simp only [ClassRow.fallen, Bool.and_eq_true, decide_eq_true_eq]

/-- The rise level is the highest class whose rise thresholds are reached, 0 where there is none. -/
theorem riseLevel_spec (t : ClassTable) (g m : Nat) :
    t.riseLevel g m ≤ 4 ∧ (t.riseLevel g m = 0 ∨ (t.get (t.riseLevel g m)).reached g m = true) ∧
    ∀ c, t.riseLevel g m < c → c ≤ 4 → ¬(t.get c).reached g m = true := by
  unfold ClassTable.riseLevel
  by_cases r4 : t.c4.reached g m = true
  · rw [if_pos r4]
    exact ⟨Nat.le_refl _, .inr r4, by omega⟩
  rw [if_neg r4]
  by_cases r3 : t.c3.reached g m = true
  · rw [if_pos r3]
    refine ⟨by decide, .inr r3, fun c above le => ?_⟩
    obtain rfl : c = 4 := by omega
    exact r4
  rw [if_neg r3]
  by_cases r2 : t.c2.reached g m = true
  · rw [if_pos r2]
    refine ⟨by decide, .inr r2, fun c above le => ?_⟩
    obtain rfl | rfl : c = 3 ∨ c = 4 := by omega
    · exact r3
    · exact r4
  rw [if_neg r2]
  by_cases r1 : t.c1.reached g m = true
  · rw [if_pos r1]
    refine ⟨by decide, .inr r1, fun c above le => ?_⟩
    obtain rfl | rfl | rfl : c = 2 ∨ c = 3 ∨ c = 4 := by omega
    · exact r2
    · exact r3
    · exact r4
  rw [if_neg r1]
  refine ⟨by decide, .inl rfl, fun c above le => ?_⟩
  obtain rfl | rfl | rfl | rfl : c = 1 ∨ c = 2 ∨ c = 3 ∨ c = 4 := by omega
  · exact r1
  · exact r2
  · exact r3
  · exact r4

section
variable {t : ClassTable} {g m c quiet : Nat}

theorem evaluate_rises (rise : c < t.riseLevel g m) :
    t.evaluate g m c quiet = { windClass := .level (t.riseLevel g m), quietTimer := 0 } := if_pos rise

theorem evaluate_restless (level : t.riseLevel g m ≤ c) (restless : ¬(0 < c ∧ (t.get c).fallen g m = true)) :
    t.evaluate g m c quiet = { windClass := .level c, quietTimer := 0 } :=
  (if_neg (Nat.not_lt.mpr level)).trans (if_neg restless)

theorem evaluate_waits (level : t.riseLevel g m ≤ c) (calm : 0 < c ∧ (t.get c).fallen g m = true)
    (short : quiet + 250 < 1000 * (t.get c).q) :
    t.evaluate g m c quiet = { windClass := .level c, quietTimer := quiet + 250 } :=
  (if_neg (Nat.not_lt.mpr level)).trans ((if_pos calm).trans (if_neg (Nat.not_le.mpr short)))

theorem evaluate_falls (level : t.riseLevel g m ≤ c) (calm : 0 < c ∧ (t.get c).fallen g m = true)
    (complete : 1000 * (t.get c).q ≤ quiet + 250) :
    t.evaluate g m c quiet = { windClass := .level (c - 1), quietTimer := 0 } :=
  (if_neg (Nat.not_lt.mpr level)).trans ((if_pos calm).trans (if_pos complete))

end

section
variable {w : Wind} {t : ClassTable}

theorem classStep_faulted (faulted : w.sensorCondition = true) :
    w.classStep t = { windClass := w.windClass, quietTimer := 0 } := if_pos faulted

theorem classStep_pending (valid : w.sensorCondition = false) (pending : w.windClass = .pending) :
    w.classStep t =
      { windClass := if w.windowEnds < 240 then .pending else .level (t.riseLevel w.gust w.mean), quietTimer := 0 } := by
  unfold Wind.classStep
  rw [if_neg (ne_true_of_eq_false valid), pending]
  dsimp only
  split <;> rfl

theorem classStep_level (valid : w.sensorCondition = false) {c : Nat} (level : w.windClass = .level c) :
    w.classStep t = t.evaluate w.gust w.mean c w.quietTimer := by
  unfold Wind.classStep
  rw [if_neg (ne_true_of_eq_false valid), level]

end

/-! ## The record of a change (R130) -/

/-- The record of the change of the class that a window end makes. -/
def classRecord (s : State) : EventRecord :=
  { time := s.clock, kind := .classChange, cabin := none, platform := none, source := none
    grade := some (windAfter s).windClass.grade
    value := (10 * s.wind.windClass.code + (windAfter s).windClass.code : Nat) }

/-- Until the class is judged no record is a CLASS_CHANGE or of the WIND source. -/
theorem logs_beforeClass (s : State) :
    Logs (fun e => e.kind ≠ .classChange ∧ e.source ≠ some .wind) s (flagged s) := by
  have reaction (e : EventRecord) (h : SetOff .windSensor e) : e.kind ≠ .classChange ∧ e.source ≠ some .wind := by
    refine ⟨fun same => absurd (same ▸ h.1) (by decide), ?_⟩
    rcases h.2 with source | source <;> rw [source] <;> decide
  have sensor {k : Sensor} {e : EventRecord} (mem : e ∈ sensorRecords s k (sensorTest s k).2) :
      e.kind ≠ .classChange ∧ e.source ≠ some .wind := by
    obtain ⟨kind, source⟩ := sensorRecords_kind mem
    exact ⟨fun same => absurd (same ▸ kind) (by decide), by rw [source]; decide⟩
  have tested : Logs _ (parkTested s) (sensed s) :=
    ⟨_, sensed_recorded s, fun e mem => (List.mem_append.mp mem).elim sensor sensor⟩
  exact (((logs_parkTested s .windSensor).mono reaction).trans tested).trans ((logs_flagged s).mono reaction)

theorem classUnchanged_recorded {s : State} (same : (windAfter s).windClass = s.wind.windClass) :
    RecordedOf s s.windowEnd [.classChange] [] := by
  have before : RecordedOf s (flagged s) [.classChange] [] :=
    (logs_beforeClass s).recordedOf fun e h mem => h.1 (List.mem_singleton.mp mem)
  refine before.congr rfl ?_
  rw [windowEnd_eq_changeClass, State.changeClass, if_pos same.symm]
  rfl

theorem classChanged_recorded {s : State} (changed : (windAfter s).windClass ≠ s.wind.windClass) :
    ∃ before more, Recorded s s.windowEnd (before ++ classRecord s :: more) ∧
      (∀ e ∈ before, e.kind ≠ .classChange ∧ e.source ≠ some .wind) ∧ (∀ e ∈ more, e.kind ≠ .classChange) := by
  obtain ⟨before, first, apart⟩ := logs_beforeClass s
  have change : Recorded (flagged s) ((classed s).append (classRecord s)) [classRecord s] :=
    recorded_congr (recorded_append (classed s) (classRecord s)) rfl
  obtain ⟨more, rest, kinds⟩ :=
    logs_setCondition ((classed s).append (classRecord s)) .wind (windAfter s).windClass.grade
  have whole : s.windowEnd = ((classed s).append (classRecord s)).setCondition .wind (windAfter s).windClass.grade := by
    have clock : (classed s).clock = s.clock := flagged_clock s
    rw [windowEnd_eq_changeClass, State.changeClass, if_neg changed.symm, State.logGrade, clock]
    rfl
  rw [whole]
  exact ⟨before, more, recorded_trans first (recorded_trans change rest), apart,
    fun e mem same => absurd (same ▸ (kinds e mem).1) (by decide)⟩

theorem windowEnd_windCondition {s : State} (owned : ConditionsOwned s) :
    (s.windowEnd.holds.table.get .wind).cond = (windAfter s).windClass.grade := by
  rw [← windowEnd_wind]
  exact ((ownedBut_nil_iff s).mpr owned).windowEnd .wind List.not_mem_nil

/-- Settles O54: the combined wind by the cases of `Wind.combine`, the class by those of `Wind.classStep` and
`ClassTable.evaluate` with the rise level of `riseLevel_spec`, the records by `classUnchanged_recorded` and
`classChanged_recorded`. -/
theorem windClassFollowsItsThresholds : Obligations.WindClassFollowsItsThresholds := by
  unfold Obligations.WindClassFollowsItsThresholds
  intro s running owned
  have wind : s.windowEnd.refresh.wind = windAfter s := windowEnd_wind s
  refine ⟨s.windowEnd.refresh, exec_windowEnd running, ?_⟩
  rw [wind]
  intro a b g m row reached
  obtain ⟨sensors, -, windClass, quiet⟩ := combine_kept (testedWind s)
  have crown : (testedWind s).sensors.crown = a := congrArg PerSensor.crown sensors.symm
  have deck : (testedWind s).sensors.deck = b := congrArg PerSensor.deck sensors.symm
  have condition : (windAfter s).sensorCondition = (a.faulted && b.faulted) :=
    (combine_sensorCondition _).trans (by rw [crown, deck])
  have judged : ClassStep.mk (windAfter s).windClass (windAfter s).quietTimer = judgedClass s := rfl
  refine ⟨condition, fun ha hb => ?bothValid, fun ha hb => ?crownValid, fun ha hb => ?deckValid,
    fun ha hb => ?noneValid, ?record, fun valid => ?thresholds⟩
  case bothValid => exact crown ▸ deck ▸ combine_bothValid (crown ▸ ha) (deck ▸ hb)
  case crownValid => exact crown ▸ combine_crownValid (crown ▸ ha) (deck ▸ hb)
  case deckValid => exact deck ▸ combine_deckValid (crown ▸ ha) (deck ▸ hb)
  case noneValid =>
    obtain ⟨gust, mean⟩ := combine_noneValid (w := testedWind s) (crown ▸ ha) (deck ▸ hb)
    have step : judgedClass s = _ := classStep_faulted (condition.trans (by rw [ha, hb]; rfl))
    rw [← judged, windClass] at step
    exact ⟨gust, mean, congrArg ClassStep.windClass step, congrArg ClassStep.quietTimer step⟩
  case record =>
    intro grade number change
    exact ⟨windowEnd_windCondition owned, classUnchanged_recorded, classChanged_recorded⟩
  case thresholds =>
    have tests (c : Nat) : (row c).reached g m = true ↔ reached c := reached_iff _ g m
    obtain ⟨top, level, above⟩ := riseLevel_spec s.settings.classes g m
    refine ⟨s.settings.classes.riseLevel g m, top, level.imp_right (tests _).mp,
      fun c lt le h => above c lt le ((tests c).mpr h), fun pending => ?pending, fun c at_c => ?level⟩
    case pending =>
      have step : judgedClass s = _ := classStep_pending valid (windClass.trans pending)
      rw [← judged] at step
      exact ⟨congrArg ClassStep.quietTimer step, congrArg ClassStep.windClass step⟩
    case level =>
      intro calm
      have step : judgedClass s = _ := classStep_level (w := (testedWind s).combine) valid (windClass.trans at_c)
      rw [← judged, quiet] at step
      have calm_iff : (0 < c ∧ (row c).fallen g m = true) ↔ calm := and_congr_right fun _ => fallen_iff _ g m
      have outcome {x : WindClass} {n : Nat}
          (e : s.settings.classes.evaluate g m c s.wind.quietTimer = { windClass := x, quietTimer := n }) :
          (windAfter s).windClass = x ∧ (windAfter s).quietTimer = n := by
        have same := step.trans e
        exact ⟨congrArg ClassStep.windClass same, congrArg ClassStep.quietTimer same⟩
      exact ⟨fun rise => outcome (evaluate_rises rise),
        fun le restless => outcome (evaluate_restless le (mt calm_iff.mp restless)),
        fun le still short => outcome (evaluate_waits le (calm_iff.mpr still) short),
        fun le still complete => outcome (evaluate_falls le (calm_iff.mpr still) complete)⟩

end Sys2Proof.WindAssessment
end

section
/-! What a step does to the hold grades (R137) and to the occupied count with its flag (R149, R150), said once for both: a
chain of moves, each a change that the grades and the count do not read, a change of one source, or a recount. -/

namespace Sys2Proof.HoldGrades

open Machine CabinTable StatusLoop

/-! ## What R137, R149 and R150 read -/

/-- The Hold Table, the auto-release settings, the unload figures, and the number of cabins that may hold riders. -/
def gradeReads (s : State) : Holds × AutoRelease × Unload × Nat :=
  (s.holds, s.settings.auto, s.unload, occupiedCount s.cabins)

theorem gradeReads_eq_iff (s t : State) : gradeReads t = gradeReads s ↔
    t.holds = s.holds ∧ t.settings.auto = s.settings.auto ∧ t.unload = s.unload ∧
      occupiedCount t.cabins = occupiedCount s.cabins := by
  simp only [gradeReads, Prod.mk.injEq]

/-- A reaction that is no change of a source and judges no unload. -/
theorem gradeReads_reaction {s t : State} (r : Reaction s t) (holds : t.holds = s.holds) (unload : t.unload = s.unload) :
    gradeReads t = gradeReads s := by
  unfold gradeReads State.settings
  rw [holds, unload, r.store, r.cabins]

theorem gradeReads_append (s : State) (r : EventRecord) : gradeReads (s.append r) = gradeReads s :=
  gradeReads_reaction (s.append_reaction r) (s.append_holds r) (s.append_kept r).1

theorem gradeReads_appends (s : State) (xs : List EventRecord) :
    gradeReads (xs.foldl State.append s) = gradeReads s := by
  rw [appends_eq]
  rfl

theorem gradeReads_assignIfDue (s : State) (pf : Platform) : gradeReads (s.assignIfDue pf) = gradeReads s := by
  have written : gradeReads (asked s pf) = gradeReads s := by
    unfold asked
    split <;> rfl
  rw [assignIfDue_eq, askedIfAllowed]
  split
  · rfl
  · exact (gradeReads_appends _ _).trans written

theorem gradeReads_parkedTest (s : State) : gradeReads s.parkedTest = gradeReads s := by
  unfold State.parkedTest
  split
  · rfl
  · split
    · exact gradeReads_append _ _
    · rfl

theorem gradeReads_parkOnChange (s : State) (old new : Grade) : gradeReads (s.parkOnChange old new) = gradeReads s := by
  unfold State.parkOnChange
  split
  · exact gradeReads_parkedTest _
  · split <;> rfl

/-- After the unload-complete flag is judged, a change of the held grade sets off nothing that R137, R149 or R150 reads. -/
theorem gradeReads_heldChanged (s : State) (old new : Grade) :
    gradeReads (s.heldChanged old new) = gradeReads s.judgeUnload := by
  have parked := gradeReads_parkOnChange s.judgeUnload old new
  unfold State.heldChanged
  dsimp only
  split
  · exact parked
  · exact (gradeReads_assignIfDue _ .b).trans ((gradeReads_assignIfDue _ .a).trans parked)

/-- The number of cabins that may hold riders reads their occupancies alone (R149). -/
theorem occupiedCount_congr {xs ys : List Cabin} (h : ys.map Cabin.mayHoldRiders = xs.map Cabin.mayHoldRiders) :
    occupiedCount ys = occupiedCount xs := by
  have counted (cabins : List Cabin) : occupiedCount cabins = (cabins.map Cabin.mayHoldRiders).countP id := by
    rw [List.countP_map]
    rfl
  rw [counted, counted, h]

/-- A cabin changed apart from its occupancy. -/
theorem gradeReads_modifyCabin (s : State) (k : Nat) {f : Cabin → Cabin}
    (same : ∀ c : Cabin, (f c).mayHoldRiders = c.mayHoldRiders) : gradeReads (s.modifyCabin k f) = gradeReads s := by
  rw [gradeReads_eq_iff]
  exact ⟨rfl, rfl, rfl, occupiedCount_congr (map_modifyCabin fun c _ => same c)⟩

/-! ## The moves -/

/-- A change of a record that leaves the peak at the condition or above it (R137). -/
def KeepsPeak (f : HoldRecord → HoldRecord) : Prop :=
  ∀ r : HoldRecord, r.cond.value ≤ r.peak.value → (f r).cond.value ≤ (f r).peak.value

theorem keepsPeak_withCond (g : Grade) : KeepsPeak fun r => r.withCond g := by
  intro r _
  show g.value ≤ (r.peak.max g).value
  rw [Grade.value_max]
  exact Nat.le_max_right ..

theorem keepsPeak_withEvent (g : Grade) : KeepsPeak fun r => r.withEvent g := fun _ h => h

theorem keepsPeak_released : KeepsPeak HoldRecord.released := fun _ _ => Nat.le_refl _

theorem keepsPeak_switchAuto (on : Bool) : KeepsPeak fun r => r.switchAuto on := fun _ _ => Nat.le_refl _

theorem KeepsPeak.comp {f g : HoldRecord → HoldRecord} (hf : KeepsPeak f) (hg : KeepsPeak g) :
    KeepsPeak fun r => g (f r) := fun r h => hg _ (hf r h)

/-- One move of the hold grades or of the unload figures. An auto-release setting is written with the change of its source
(R140), and a write of occupancies with the recount (R149). -/
inductive GradeMove (s : State) : State → Prop
  | still {t : State} (reads : gradeReads t = gradeReads s) : GradeMove s t
  | source (src : Source) {f : HoldRecord → HoldRecord} (peak : KeepsPeak f) : GradeMove s (s.changeSource src f)
  | switched (src : Source) (v : Nat) {f : HoldRecord → HoldRecord} (peak : KeepsPeak f) :
      GradeMove s ((s.setSettings (s.settings.write (.auto src) v)).changeSource src f)
  | recounted {u : State} (holds : u.holds = s.holds) (auto : u.settings.auto = s.settings.auto) :
      GradeMove s u.recount

/-! ### R137 through a move -/

/-- A change of a source derives that source's record again, whatever it was. -/
theorem holdsDerived_changeSource_of {s : State} {src : Source} {f : HoldRecord → HoldRecord}
    (others : ∀ other, other ≠ src → RecordDerived (s.settings.auto.get other) (s.holds.table.get other))
    (peak : (f (s.holds.table.get src)).cond.value ≤ (f (s.holds.table.get src)).peak.value) :
    HoldsDerived (s.changeSource src f) := by
  have settings : (s.changeSource src f).settings = s.settings :=
    congrArg Store.working (s.changeSource_reaction src f).store
  rw [HoldsDerived, settings, State.changeSource_holds]
  refine ⟨fun other => ?_, by dsimp only⟩
  dsimp only
  by_cases e : other = src
  · subst e
    rw [HoldTable.get_set_same]
    exact ⟨peak, rfl⟩
  · rw [HoldTable.get_set_other _ _ e]
    exact others other e

theorem autoRelease_get_set_other (x : AutoRelease) {src other : Source} (on : Bool) (ne : other ≠ src) :
    (x.set src on).get other = x.get other := by
  cases src with
  | wind => cases other with | wind => exact absurd rfl ne | _ => rfl
  | windSensor => cases other with | windSensor => exact absurd rfl ne | _ => rfl
  | position => cases other with | position => exact absurd rfl ne | _ => rfl
  | planEnd => cases other with | planEnd => exact absurd rfl ne | _ => rfl
  | _ => rfl

theorem holdsDerived_move {s t : State} (m : GradeMove s t) (h : HoldsDerived s) : HoldsDerived t := by
  obtain ⟨records, held⟩ := h
  cases m with
  | still reads =>
    obtain ⟨holds, auto, -⟩ := (gradeReads_eq_iff _ _).mp reads
    rw [HoldsDerived, holds, auto]
    exact ⟨records, held⟩
  | source src peak => exact holdsDerived_changeSource_of (fun other _ => records other) (peak _ (records src).1)
  | switched src v peak =>
    refine holdsDerived_changeSource_of (fun other ne => ?_) (peak _ (records src).1)
    have auto : (s.setSettings (s.settings.write (.auto src) v)).settings.auto.get other = s.settings.auto.get other :=
      autoRelease_get_set_other _ _ ne
    rw [auto]
    exact records other
  | @recounted u holds auto =>
    have holds : u.recount.holds = s.holds := (State.judgeUnload_holds _).trans holds
    have auto : u.recount.settings.auto = s.settings.auto :=
      (congrArg (fun x : Store => x.working.auto) (State.judgeUnload_reaction _).store).trans auto
    rw [HoldsDerived, holds, auto]
    exact ⟨records, held⟩

/-! ### R149 and R150 through a move -/

theorem unloadCounted_congr {s t : State} (h : UnloadCounted s) (reads : gradeReads t = gradeReads s) :
    UnloadCounted t := by
  obtain ⟨holds, -, unload, count⟩ := (gradeReads_eq_iff _ _).mp reads
  rw [UnloadCounted, holds, unload, count]
  exact h

/-- The flag judged on a count that stands (R150). -/
theorem unloadCounted_judgeUnload {s : State} (count : s.unload.occupied = occupiedCount s.cabins) :
    UnloadCounted s.judgeUnload := by
  rw [(judgeUnload_eq s).1]
  exact ⟨count, rfl⟩

theorem unloadCounted_heldChanged {s : State} (count : s.unload.occupied = occupiedCount s.cabins) (old new : Grade) :
    UnloadCounted (s.heldChanged old new) :=
  unloadCounted_congr (unloadCounted_judgeUnload count) (gradeReads_heldChanged s old new)

/-- A change of a source judges the flag again where the held grade moves, and the flag stands where it does not (R150). -/
theorem unloadCounted_changeSource {s : State} (h : UnloadCounted s) (src : Source) (f : HoldRecord → HoldRecord) :
    UnloadCounted (s.changeSource src f) := by
  by_cases same : (s.changeSource src f).holds.held = s.holds.held
  · obtain ⟨unload, -⟩ := s.changeSource_still src f same
    rw [UnloadCounted, unload, same, (s.changeSource_reaction src f).cabins]
    exact h
  · rw [changeSource_eq rfl, if_neg (Ne.symm same)]
    refine unloadCounted_heldChanged ?_ _ _
    rw [(State.logLatch_kept _ _ _ _).1, (State.logLatch_reaction _ _ _ _).cabins]
    exact h.1

theorem unloadCounted_move {s t : State} (m : GradeMove s t) (h : UnloadCounted s) : UnloadCounted t := by
  cases m with
  | still reads => exact unloadCounted_congr h reads
  | source src => exact unloadCounted_changeSource h src _
  | switched src =>
    have stored (x : Settings) : UnloadCounted (s.setSettings x) := h
    exact unloadCounted_changeSource (stored _) src _
  | recounted => exact unloadCounted_judgeUnload rfl

/-! ## Chains of moves -/

/-- The state `t` is reached from `s` by moves of the hold grades and of the unload figures. -/
abbrev Regraded : State → State → Prop := Relation.ReflTransGen GradeMove

/-- What every move keeps, a chain of moves keeps. -/
theorem Regraded.keeps {P : State → Prop} (keep : ∀ s t : State, GradeMove s t → P s → P t) {s t : State}
    (h : Regraded s t) (hs : P s) : P t := by
  induction h with
  | refl => exact hs
  | tail _ m ih => exact keep _ _ m ih

theorem Regraded.still {s t u : State} (h : Regraded s t) (reads : gradeReads u = gradeReads t) : Regraded s u :=
  h.tail (.still reads)

theorem Regraded.append {s t : State} (h : Regraded s t) (r : EventRecord) : Regraded s (t.append r) :=
  h.still (gradeReads_append t r)

theorem Regraded.assignIfDue {s t : State} (h : Regraded s t) (pf : Platform) : Regraded s (t.assignIfDue pf) :=
  h.still (gradeReads_assignIfDue t pf)

theorem Regraded.parkedTest {s t : State} (h : Regraded s t) : Regraded s t.parkedTest :=
  h.still (gradeReads_parkedTest t)

theorem Regraded.changeSource {s t : State} (h : Regraded s t) (src : Source) {f : HoldRecord → HoldRecord}
    (peak : KeepsPeak f) : Regraded s (t.changeSource src f) := h.tail (.source src peak)

theorem Regraded.setCondition {s t : State} (h : Regraded s t) (src : Source) (g : Grade) :
    Regraded s (t.setCondition src g) := by
  unfold State.setCondition
  split
  · exact h
  · exact h.changeSource src (keepsPeak_withCond g)

theorem Regraded.deliverEvent {s t : State} (h : Regraded s t) (src : Source) (g : Grade) :
    Regraded s (t.deliverEvent src g) := by
  unfold State.deliverEvent
  split
  · exact h
  · exact h.changeSource src (keepsPeak_withEvent g)

theorem Regraded.formProgrammed {s t : State} (h : Regraded s t) (src : Source) (on : Bool) :
    Regraded s (t.formProgrammed src on) := h.setCondition src _

theorem Regraded.formDoorLate {s t : State} (h : Regraded s t) : Regraded s t.formDoorLate := h.setCondition .doorLate _

/-- The away set judged, and DOOR_AWAY's condition formed (R51). -/
theorem Regraded.judgeAway {s t : State} (h : Regraded s t) : Regraded s t.judgeAway := by
  refine Regraded.setCondition ?_ .doorAway _
  exact h.still rfl

theorem Regraded.recount {s t u : State} (h : Regraded s t) (holds : u.holds = t.holds)
    (auto : u.settings.auto = t.settings.auto) : Regraded s u.recount := h.tail (.recounted holds auto)

theorem Regraded.writeCabin {s t : State} (h : Regraded s t) (k : Nat) (f : Cabin → Cabin) :
    Regraded s (t.writeCabin k f) := h.recount rfl rfl

theorem Regraded.refresh {s t : State} (h : Regraded s t) : Regraded s t.refresh := h.still rfl

end Sys2Proof.HoldGrades
end

section
/-! Every effect of a step but a power-on is a chain of moves of the hold grades and of the unload figures. -/

namespace Sys2Proof.HoldGrades

open Machine CabinTable StatusLoop

/-! ## The visits -/

/-- The end of a visit leaves the cabin's occupancy (R29). -/
theorem visitEnd_mayHoldRiders (c : Cabin) (offered boarded : Bool) :
    (c.visitEnd offered boarded).mayHoldRiders = c.mayHoldRiders := by
  unfold Cabin.visitEnd
  rw [leaveVisit_eq, takePendingGate_eq]
  dsimp only
  split <;> rfl

theorem endInCabin_occupied (s : State) (v : Visit) : occupiedCount (s.endInCabin v).cabins = occupiedCount s.cabins := by
  unfold State.endInCabin
  split
  · rfl
  · exact occupiedCount_congr (map_modifyCabin fun c _ => visitEnd_mayHoldRiders c _ _)

theorem Regraded.endVisit {s t : State} (h : Regraded s t) (pf : Platform) (v : Visit) :
    Regraded s (t.endVisit pf v) := by
  have ended : Regraded s (endedVisit t pf v) :=
    h.still ((gradeReads_eq_iff _ _).mpr ⟨rfl, rfl, rfl, endInCabin_occupied t v⟩)
  rw [endVisit_eq]
  split
  · exact ended.formDoorLate
  · exact ended

theorem Regraded.testLatched {s t : State} (h : Regraded s t) (pf : Platform) (v : Visit) :
    Regraded s (t.testLatched pf v) := by
  unfold State.testLatched
  split
  · split
    · exact h.endVisit pf v
    · exact h.still rfl
  · exact h

theorem Regraded.beginClosing {s t : State} (h : Regraded s t) (pf : Platform) (v : Visit) :
    Regraded s (t.beginClosing pf v) := by
  refine Regraded.testLatched ?_ pf _
  exact h.still rfl

theorem Regraded.testOpen {s t : State} (h : Regraded s t) (pf : Platform) (v : Visit) :
    Regraded s (t.testOpen pf v) := by
  unfold State.testOpen
  split
  · refine Regraded.assignIfDue ?_ pf
    exact h.still rfl
  · exact h

theorem Regraded.createVisit {s t : State} (h : Regraded s t) (pf : Platform) (k : Nat) (c : Cabin) :
    Regraded s (t.createVisit pf k c) := by
  have numbered : Regraded s (t.setSequencer pf { t.sequencers.get pf with
      current := some (t.newVisit pf k c), visitNumber := (t.newVisit pf k c).number }) := h.still rfl
  unfold State.createVisit
  dsimp only
  split
  · exact numbered
  · have called := numbered.still (gradeReads_modifyCabin (State.command _ pf .opening) k
      (f := fun c => { c with inVisit := some pf }) fun _ => rfl)
    refine Regraded.testOpen (Regraded.append ?_ _) pf _
    exact called.still rfl

theorem Regraded.takeEnter {s t : State} (h : Regraded s t) (pf : Platform) (k : Nat) :
    Regraded s (t.takeEnter pf k) := by
  unfold State.takeEnter State.missBerth
  split
  · split
    · exact h
    · dsimp only
      split
      · exact (h.append _).deliverEvent _ _
      · exact h.append _
  · split
    · exact h.createVisit pf k _
    · exact h

theorem Regraded.takeClose {s t : State} (h : Regraded s t) (pf : Platform) (k : Nat) :
    Regraded s (t.takeClose pf k) := by
  unfold State.takeClose
  split
  · split
    · exact h.beginClosing pf _
    · exact h
  · exact h

theorem Regraded.makeLate {s t : State} (h : Regraded s t) (pf : Platform) (v : Visit) :
    Regraded s (t.makeLate pf v) := by
  refine Regraded.formDoorLate ?_
  exact h.still rfl

theorem Regraded.takeExit {s t : State} (h : Regraded s t) (pf : Platform) (k : Nat) :
    Regraded s (t.takeExit pf k) := by
  unfold State.takeExit
  split
  · split
    · exact h
    · dsimp only
      split
      · exact h.endVisit pf _
      · exact h.endVisit pf _
      · exact h.makeLate pf _
      · exact (h.makeLate pf _).beginClosing pf _
      · exact (h.makeLate pf _).beginClosing pf _
  · exact h

theorem Regraded.takeRetreat {s t : State} (h : Regraded s t) (pf : Platform) (k : Nat) :
    Regraded s (t.takeRetreat pf k) := by
  have closed : Regraded s (t.command pf .close) := h.still rfl
  unfold State.takeRetreat
  split
  · split
    · exact h
    split
    · exact h.endVisit pf _
    split
    · exact closed.endVisit pf _
    · exact h
  · exact h

theorem Regraded.losePosition {s t : State} (h : Regraded s t) (pf : Platform) : Regraded s (t.losePosition pf) := by
  unfold State.losePosition
  split
  · dsimp only
    split
    · exact h.endVisit pf _
    · exact h.still rfl
  · exact h

theorem Regraded.feedBack {s t : State} (h : Regraded s t) (pf : Platform) (door : DoorState) :
    Regraded s (t.feedBack pf door) := by
  unfold State.feedBack
  split
  · split
    · exact h.testOpen pf _
    · exact h.testLatched pf _
    · split
      · exact h.still rfl
      · exact h
    · exact h
    · exact h
  · exact h

theorem Regraded.expireActuator {s t : State} (h : Regraded s t) (pf : Platform) : Regraded s (t.expireActuator pf) := by
  unfold State.expireActuator
  split
  · split
    · exact h.beginClosing pf _
    · split <;> exact h.still rfl
    · exact h.still rfl
    · exact h.still rfl
    · exact h.still rfl
  · exact h.still rfl
  · exact h

/-! ## The wheel -/

theorem Regraded.handCrossings {s t : State} (h : Regraded s t) (before after : Nat) (pf : Platform) :
    Regraded s (t.handCrossings before after pf) := by
  have taken (u : State) (h : Regraded s u) (x : Nat × Crossing) : Regraded s (u.takeCrossing pf x) := by
    unfold State.takeCrossing
    split
    · exact h.takeEnter pf _
    · exact h.takeClose pf _
    · exact h.takeExit pf _
  exact List.foldlRecOn (motive := Regraded s) _ _ h fun u h x _ => taken u h x

theorem Regraded.handRetreats {s t : State} (h : Regraded s t) (before after : Nat) (pf : Platform) :
    Regraded s (t.handRetreats before after pf) :=
  List.foldlRecOn (motive := Regraded s) _ _ h fun _ h k _ => h.takeRetreat pf k

theorem Regraded.overshootTest {s t : State} (h : Regraded s t) : Regraded s t.overshootTest := by
  unfold State.overshootTest
  split
  · exact h.deliverEvent _ _
  · exact h

theorem Regraded.unparkTest {s t : State} (h : Regraded s t) : Regraded s t.unparkTest := by
  unfold State.unparkTest
  split
  · exact h
  · split
    · exact h.still rfl
    · exact h

theorem Regraded.parkTests {s t : State} (h : Regraded s t) : Regraded s t.parkTests :=
  h.unparkTest.parkedTest.overshootTest

theorem Regraded.movedTests {s t : State} (h : Regraded s t) (moved : Bool) : Regraded s (t.movedTests moved) := by
  cases moved with
  | false => exact h
  | true => exact h.parkedTest.overshootTest

theorem Regraded.position {s t : State} (h : Regraded s t) (x : Position) : Regraded s { t with position := x } :=
  h.still rfl

theorem Regraded.forwardTick {s t : State} (h : Regraded s t) : Regraded s t.forwardTick := by
  have moved := h.position (t.position.forward t.geometry)
  unfold State.forwardTick
  exact (((moved.handCrossings _ _ .a).handCrossings _ _ .b).position _).parkTests.judgeAway

theorem Regraded.reverseTest {s t : State} (h : Regraded s t) : Regraded s t.reverseTest := by
  unfold State.reverseTest
  split
  · exact (h.position _).deliverEvent _ _
  · exact h

theorem Regraded.reverseTick {s t : State} (h : Regraded s t) : Regraded s t.reverseTick := by
  have moved := h.position (t.position.backward t.geometry)
  unfold State.reverseTick
  exact ((moved.reverseTest.handRetreats _ _ .a).handRetreats _ _ .b).parkTests.judgeAway

/-- The Plan Banks turned over, counted or ended at a revolution boundary (R112). -/
theorem Regraded.boundary {s t : State} (h : Regraded s t) : Regraded s t.boundary := by
  have planned {u : State} (h : Regraded s u) (x : Plans) : Regraded s { u with plans := x } := h.still rfl
  have begun := h.position { t.position with revolutions := (t.position.revolutions + 1) % 65536 }
  unfold State.boundary State.planBoundary
  generalize ({ t with position := _ } : State) = u at begun ⊢
  have counted : Regraded s
      (if u.plans.planEnd then u else { u with plans := u.plans.setActive u.plans.active.countRevolution }) := by
    split
    · exact begun
    · exact planned begun _
  dsimp only
  generalize (if u.plans.planEnd then u else _ : State) = w at counted ⊢
  split
  · exact ((planned counted w.plans.swapped).formProgrammed .planEnd false).append _
  · split
    · exact ((planned counted { w.plans with planEnd := true }).append _).formProgrammed .planEnd true
    · exact counted

/-- An index edge within the tolerance (R4). -/
theorem Regraded.goodEdge {s t : State} (h : Regraded s t) (d : Int) : Regraded s (t.goodEdge d) := by
  have logged : Regraded s ((t.correct d).logPlain .index d) := (h.position _).append _
  have shifted : Regraded s (((t.correct d).logPlain .index d).shiftTarget d) := by
    unfold State.shiftTarget
    split
    · exact logged
    · split
      · exact logged.still rfl
      · exact logged
  unfold State.goodEdge
  dsimp only
  refine ((Regraded.boundary ?_).movedTests _).judgeAway
  split
  · exact (shifted.handCrossings _ _ .a).handCrossings _ _ .b
  · exact shifted

/-- An index edge beyond the tolerance (R5). -/
theorem Regraded.badEdge {s t : State} (h : Regraded s t) (d : Int) : Regraded s (t.badEdge d) := by
  have lost := (h.position { t.position with theta := 0, verified := false, stillCrossed := [] }).append
    (plainRecord t .indexMismatch d)
  have struck := lost.changeSource .position ((keepsPeak_withCond .unload).comp (keepsPeak_withEvent .stop))
  exact ((struck.losePosition .a).losePosition .b).boundary.judgeAway

/-- The index edge that verifies the position (R6). -/
theorem Regraded.verifyEdge {s t : State} (h : Regraded s t) : Regraded s t.verifyEdge := by
  have logged := (h.position { t.position with theta := 0, verified := true, stillCrossed := [] }).append
    (plainRecord t .index 0)
  unfold State.verifyEdge
  dsimp only
  refine ((Regraded.setCondition ?_ .position _).movedTests _).judgeAway
  unfold State.retarget
  split
  · exact logged
  · split
    · exact logged.still rfl
    · exact logged

theorem Regraded.takenEdge {s t : State} (h : Regraded s t) : Regraded s t.takenEdge := by
  unfold State.takenEdge
  split
  · dsimp only
    split
    · exact h.goodEdge _
    · exact h.badEdge _
  · exact h.verifyEdge

/-! ## The wind -/

theorem Regraded.wind {s t : State} (h : Regraded s t) (x : Wind) : Regraded s { t with wind := x } := h.still rfl

theorem Regraded.logSensor {s t : State} (h : Regraded s t) (k : Sensor) (c : SensorChange) :
    Regraded s (t.logSensor k c) := by
  cases c with
  | same => exact h
  | stalled | overran | recovered => exact h.append _

theorem Regraded.testSensors {s t : State} (h : Regraded s t) : Regraded s t.testSensors :=
  ((h.wind _).logSensor _ _).logSensor _ _

theorem Regraded.judgeClass {s t : State} (h : Regraded s t) : Regraded s t.judgeClass := by
  unfold State.judgeClass State.changeClass
  dsimp only
  split
  · exact h.wind _
  · exact ((h.wind _).append _).setCondition .wind _

theorem Regraded.windowEnd {s t : State} (h : Regraded s t) : Regraded s t.windowEnd := by
  have parked := (h.position t.position.closeWindow).parkedTest
  unfold State.windowEnd State.windWindow
  exact (((parked.wind _).testSensors.wind _).formProgrammed .windSensor _).judgeClass

/-! ## The Status Loop -/

theorem Regraded.loop {s t : State} (h : Regraded s t) (x : Loop) : Regraded s { t with loop := x } := h.still rfl

/-- The doors written, the occupancies stand (R35). -/
theorem gradeReads_writeDoors (s : State) : gradeReads s.writeDoors = gradeReads s := by
  rw [gradeReads_eq_iff]
  refine ⟨rfl, rfl, rfl, occupiedCount_congr ?_⟩
  refine List.ext_getElem? fun k => ?_
  simp only [State.writeDoors, List.getElem?_map, List.getElem?_mapIdx, Option.map_map]
  rfl

theorem Regraded.takeContacts {s t : State} (h : Regraded s t) (after : Loop) : Regraded s (t.takeContacts after) := by
  have written := (h.loop after).still (gradeReads_writeDoors _)
  rw [takeContacts_eq]
  exact ((written.still (gradeReads_appends _ _)).feedBack _ _).feedBack _ _

theorem Regraded.goodScan {s t : State} (h : Regraded s t) (stale : Bool) (r : Readings) :
    Regraded s (t.goodScan stale r) := by
  have cleared : Regraded s t.clearLoopFault := by
    unfold State.clearLoopFault
    split
    · exact ((h.loop _).append _).formProgrammed .loopFault false
    · exact h
  unfold State.goodScan
  dsimp only
  split
  · exact cleared.loop _
  · exact (cleared.loop _).takeContacts _

theorem Regraded.failedScan {s t : State} (h : Regraded s t) : Regraded s t.failedScan := by
  unfold State.failedScan
  dsimp only
  split
  · exact (((h.loop _).append _).takeContacts _).formProgrammed .loopFault true
  · exact h.loop _

theorem Regraded.endScan {s t : State} (h : Regraded s t) (pattern : Byte) (contacts : List Bool) :
    Regraded s (t.endScan pattern contacts) := by
  unfold State.endScan
  split
  · exact h
  · refine Regraded.judgeAway ?_
    split
    · exact (h.loop _).goodScan _ _
    · exact (h.loop _).failedScan

/-! ## The configuration -/

/-- Only the item of an auto-release setting writes one. -/
theorem auto_write (x : Settings) {i : Item} (v : Nat) (other : ∀ src, i ≠ .auto src) : (x.write i v).auto = x.auto := by
  cases i with
  | auto src => exact absurd rfl (other src)
  | permit k => cases k <;> rfl
  | _ => rfl

theorem Regraded.loseGeometry {s t : State} (h : Regraded s t) : Regraded s t.loseGeometry :=
  (((h.position _).setCondition .position _).formProgrammed .disagree false).judgeAway

theorem Regraded.resize {s t : State} (h : Regraded s t) (n : Nat) : Regraded s (t.resize n) := by
  unfold State.resize
  exact h.recount rfl rfl

theorem Regraded.storeItem {s t : State} (h : Regraded s t) (i : Item) (v : Nat) : Regraded s (t.storeItem i v) := by
  have stored (other : ∀ src, i ≠ .auto src) : Regraded s (t.setSettings (t.settings.write i v)) :=
    h.still ((gradeReads_eq_iff _ _).mpr ⟨rfl, auto_write _ v other, rfl, rfl⟩)
  unfold State.storeItem
  split
  · exact h
  · unfold State.itemEffect
    cases i with
    | n => exact ((stored nofun).resize _).loseGeometry
    | p => exact (stored nofun).loseGeometry
    | auto src => exact h.tail (.switched src v (keepsPeak_switchAuto _))
    | programmed src => exact (stored nofun).formProgrammed src _
    | _ => exact stored nofun

/-! ## The requests -/

/-- The drive's report read (R155 to R157, R9). -/
theorem Regraded.driveReport {s t : State} (h : Regraded s t) (d : DriveRecord) : Regraded s (t.driveReport d) := by
  have permitted {u : State} (h : Regraded s u) (x : Permit) : Regraded s { u with permit := x } := h.still rfl
  have taken : Regraded s (t.takeDriveRecord d) := (permitted (permitted h _) _).setCondition .driveSilent .none
  have formed : Regraded s ((t.takeDriveRecord d).formDriveFault (d.state = some .fault)) :=
    (permitted taken _).setCondition .driveFault _
  unfold State.driveReport State.crossCheck
  split
  · exact formed.refresh
  · split
    · exact ((formed.position _).formProgrammed .disagree _).refresh
    · exact formed.refresh

/-- The figures of a stop condition written, and the condition formed (R146, R147). -/
theorem Regraded.formStop {s t : State} (h : Regraded s t) (pf : Platform) (x : StopLine) :
    Regraded s (State.formStop { t with stops := t.stops.set pf x } pf) := by
  refine Regraded.formProgrammed ?_ _ _
  exact h.still rfl

theorem takeGate_mayHoldRiders (c : Cabin) (g : GateSetting) : (c.takeGate g).mayHoldRiders = c.mayHoldRiders := by
  rw [takeGate_eq]
  split
  · cases g <;> rfl
  · rfl

theorem takeService_mayHoldRiders (c : Cabin) (a : ServiceAction) :
    (c.takeService a).mayHoldRiders = c.mayHoldRiders := by
  rw [takeService_eq, applyService_eq]
  split <;> rfl

theorem Regraded.cancelAssigned {s t : State} (h : Regraded s t) (pf : Platform) (tag : Nat) :
    Regraded s (t.cancelAssigned pf tag) := by
  unfold State.cancelAssigned
  split <;> exact h.still rfl

theorem regraded_answered {s t : State} (a : Answered s t) : Regraded s t := by
  have here : Regraded s s := .refl
  cases a with
  | kept => exact here
  | gate k g => exact here.still (gradeReads_modifyCabin s k fun c => takeGate_mayHoldRiders c g)
  | service k a => exact here.still (gradeReads_modifyCabin s k fun c => takeService_mayHoldRiders c a)
  | configured k => exact here.still (gradeReads_modifyCabin s k fun _ => rfl)
  | declared k => exact here.writeCabin k _
  | @alighted pf v _ count =>
    have counted : Regraded s (s.setVisit pf { v with alighted := some count }) := here.still rfl
    exact ((counted.writeCabin _ _).assignIfDue pf).refresh
  | @boarded pf v _ _ tag count =>
    have counted : Regraded s (s.setVisit pf (v.setBoarded tag count)) := here.still rfl
    exact (counted.writeCabin _ _).refresh
  | dispatched pf => exact (here.beginClosing pf _).refresh
  | queued | unqueued | edited | swapAsked | locked | saving | taken | advanced => exact here.still rfl
  | unassigned pf tag => exact here.cancelAssigned pf tag
  | stopRequested pf => exact (here.formStop pf _).refresh
  | operatorHeld g => exact (here.setCondition .operator g).refresh
  | released src => exact (here.changeSource src keepsPeak_released).refresh
  | stored i => exact (here.storeItem i _).refresh
  | reported d => exact here.driveReport d

/-! ## Timers and restarts -/

theorem restartBlocks_occupied (s : State) : occupiedCount s.restartBlocks.cabins = occupiedCount s.cabins := by
  refine occupiedCount_congr ?_
  have same (c : Cabin) : c.warmRestart.mayHoldRiders = c.mayHoldRiders := by
    unfold Cabin.warmRestart
    split
    · exact visitEnd_mayHoldRiders c false false
    · rfl
  simp only [State.restartBlocks, List.map_map, Function.comp_def, same]

theorem regraded_warmRestart (s : State) (cause : RestartCause) : Regraded s (s.warmRestart cause) := by
  have struck : Regraded s s.restartBlocks :=
    .single (.still ((gradeReads_eq_iff _ _).mpr ⟨rfl, rfl, rfl, restartBlocks_occupied s⟩))
  have commanded {u : State} (h : Regraded s u) (pf : Platform) : Regraded s (u.command pf .close) := h.still rfl
  have silenced {u : State} (h : Regraded s u) : Regraded s u.restartSilence := by
    refine Regraded.setCondition ?_ .driveSilent .none
    exact h.still rfl
  have closed := commanded (commanded struck.formDoorLate.judgeAway .a) .b
  unfold State.warmRestart
  dsimp only
  exact (((silenced closed).append _).deliverEvent .restart .stop).refresh

theorem regraded_driveSilence (s : State) : Regraded s s.driveSilence := by
  unfold State.driveSilence
  split
  · refine (Regraded.setCondition ?_ .driveSilent .brake).refresh
    exact .single (.still rfl)
  · exact .refl

theorem regraded_endSave (s : State) (passed : Bool) : Regraded s (s.endSave passed) := by
  unfold State.endSave
  split
  · exact .refl
  · refine Regraded.append ?_ _
    exact .single (.still rfl)

/-- An effect of a step is a chain of moves, or a power-on (R187). -/
theorem regraded_effect {s t : State} (e : Effect s t) :
    Regraded s t ∨ ∃ openA openB rate, t = s.powerOn openA openB rate := by
  have here : Regraded s s := .refl
  cases e with
  | powerOn openA openB rate => exact .inr ⟨openA, openB, rate, rfl⟩
  | answered a => exact .inl (regraded_answered a)
  | port | queue | restartDue | millisecond | pulse | scanStart => exact .inl (here.still rfl)
  | blinkToggle | sequenceStart | sequenceEnd | refreshExpiry | shut => exact .inl (here.still rfl)
  | forwardTick => exact .inl here.forwardTick.refresh
  | reverseTick => exact .inl here.reverseTick.refresh
  | indexEdge => exact .inl here.takenEdge.refresh
  | windowEnd => exact .inl here.windowEnd.refresh
  | scanEnd pattern contacts => exact .inl (here.endScan pattern contacts).refresh
  | actuatorExpiry pf => exact .inl (here.expireActuator pf).refresh
  | lineTaken pf => exact .inl (here.formStop pf _).refresh
  | driveSilence => exact .inl (regraded_driveSilence s)
  | saveDone passed => exact .inl (regraded_endSave s passed)
  | warmRestart cause => exact .inl (regraded_warmRestart s cause)

/-- What every move keeps and a power-on establishes, every step keeps. -/
theorem step_keeps_of_moves {P : State → Prop} (move : ∀ s t : State, GradeMove s t → P s → P t)
    (powerOn : ∀ (s : State) (openA openB : Bool) (rate : Rate), P (s.powerOn openA openB rate)) {s t : State}
    (e : step s = .next t) (hs : P s) : P t := by
  refine step_keeps (fun u w effect hu => ?_) e hs
  rcases regraded_effect effect with chain | ⟨openA, openB, rate, rfl⟩
  · exact chain.keeps move hu
  · exact powerOn u openA openB rate

end Sys2Proof.HoldGrades
end

section
/-! The latched grades and the held grade (R137), the occupied count and the unload-complete flag (R149, R150), kept by every
step. -/

namespace Sys2Proof.HoldGrades

open Machine CabinTable StatusLoop

/-! ## The held grade is the largest latched grade -/

theorem latchOf_value (auto : Bool) (r : HoldRecord) :
    (latchOf auto r).value = max (if auto then r.cond else r.peak).value r.floor.value := by
  cases auto <;> exact Grade.value_max _ _

theorem foldl_max_attained (t : HoldTable) (srcs : List Source) (g : Grade) :
    srcs.foldl (fun g src => g.max (t.get src).latched) g = g ∨
    ∃ src ∈ srcs, (t.get src).latched = srcs.foldl (fun g src => g.max (t.get src).latched) g := by
  induction srcs generalizing g with
  | nil => exact .inl rfl
  | cons first rest ih =>
    rw [List.foldl_cons]
    rcases ih (g.max (t.get first).latched) with same | ⟨src, mem, attained⟩
    · rw [same, Grade.max]
      split
      · exact .inr ⟨first, List.mem_cons_self, rfl⟩
      · exact .inl rfl
    · exact .inr ⟨src, List.mem_cons_of_mem first mem, attained⟩

/-- Some source is latched at the held grade: at NONE, every one (R137). -/
theorem exists_latched_heldGrade (t : HoldTable) : ∃ src, (t.get src).latched = t.heldGrade := by
  have attained : t.heldGrade = .none ∨ ∃ src ∈ Source.all, (t.get src).latched = t.heldGrade :=
    foldl_max_attained t Source.all .none
  rcases attained with none | ⟨src, -, latched⟩
  · have below := latched_le_heldGrade t .powerOn
    rw [none] at below
    exact ⟨.powerOn, (Grade.value_injective (Nat.le_zero.mp below)).trans none.symm⟩
  · exact ⟨src, latched⟩

theorem holdsDerived_powerOn (s : State) (openA openB : Bool) (rate : Rate) :
    HoldsDerived (s.powerOn openA openB rate) := by
  rw [powerOn_eq]
  exact poweredOn_holdsDerived s openA openB rate

/-- Settles O9: every move keeps R137 by `holdsDerived_move`, a power-on establishes it, and the rest is what it says of
each source and of the held grade. -/
theorem holdsStayDerived : Obligations.HoldsStayDerived := by
  unfold Obligations.HoldsStayDerived
  intro s t derived e
  have kept : HoldsDerived t := step_keeps_of_moves (fun _ _ => holdsDerived_move) holdsDerived_powerOn e derived
  obtain ⟨records, held⟩ := kept
  refine ⟨⟨records, held⟩, fun src => ?_, held ▸ exists_latched_heldGrade t.holds.table⟩
  obtain ⟨peak, latched⟩ := records src
  exact ⟨peak, latched ▸ latchOf_value _ _, held ▸ latched_le_heldGrade t.holds.table src⟩

/-! ## The unload figures -/

/-- The saved copy is a good one, its geometry legal (R184). -/
theorem saved_ok {x : Slots} {one : Bool} {c : Copy} (saved : x.saved = some (one, c)) : c.settings.geometry.ok = true := by
  have good {c d : Option Copy} (e : goodCopy d = c) : ∀ y, c = some y → y.settings.geometry.ok = true := by
    rintro y rfl
    exact (Option.filter_eq_some_iff.mp e).2
  unfold Slots.saved at saved
  split at saved
  · cases saved
  next first _ =>
    cases saved
    exact good first _ rfl
  next _ second =>
    cases saved
    exact good second _ rfl
  next first second =>
    split at saved
    · cases saved
      exact good second _ rfl
    · cases saved
      exact good first _ rfl

/-- The configuration that power-on finds has cabins: a good copy's geometry is legal, and so is the default (R14, R184). -/
theorem startSettings_n_pos (s : State) : 0 < (startSettings s).geometry.n := by
  have legal {g : Geometry} (ok : g.ok = true) : 0 < g.n := by
    simp only [Geometry.ok, Bool.and_eq_true, decide_eq_true_eq] at ok
    omega
  unfold startSettings
  split
  next saved => exact legal (saved_ok saved)
  · exact legal (by decide)

theorem unloadCounted_powerOn (s : State) (openA openB : Bool) (rate : Rate) :
    UnloadCounted (s.powerOn openA openB rate) := by
  have cabins : occupiedCount (startCabins s) ≠ 0 := by
    rw [occupiedCount_startCabins, startCabins_length]
    exact Nat.ne_of_gt (startSettings_n_pos s)
  have incomplete (held : Bool) : false = (held && decide (occupiedCount (startCabins s) = 0)) := by
    rw [decide_eq_false cabins, Bool.and_false]
  rw [powerOn_eq]
  exact ⟨rfl, incomplete _⟩

/-- Settles O10: every move keeps the count and the flag by `unloadCounted_move`, and a power-on, with every cabin of unknown
occupancy, establishes them. -/
theorem unloadStaysCounted : Obligations.UnloadStaysCounted := by
  unfold Obligations.UnloadStaysCounted
  intro s t counted e
  exact step_keeps_of_moves (fun _ _ => unloadCounted_move) unloadCounted_powerOn e counted

end Sys2Proof.HoldGrades
end

section
/-! PLATFORM STOP (R147), a stop line taken (R146) and OPERATOR HOLD (R145): a condition formed for a source that keeps its
peak. -/

namespace Sys2Proof.HoldGrades

open Machine CabinTable BerthVisits

/-! ## A condition formed -/

/-- From `s` the condition of a source that keeps its peak has come to `g`, the figures are formed, and of the rest only the
ports may differ. -/
def ConditionFormed (s t : State) (src : Source) (g : Grade) : Prop :=
  HoldFrame { s with ports := t.ports } t [src] ∧ Formed t ∧
  t.holds.table.get src = latchedAt (s.holds.table.get src) g ∧ t.holds.held = t.holds.table.heldGrade

theorem conditionFormed_of {s t : State} (derived : HoldsDerived s) {src : Source} {g : Grade}
    (keeps : s.settings.auto.get src = false)
    (eq : t = { (s.setCondition src g).refresh with ports := t.ports }) : ConditionFormed s t src g := by
  have frame := (holdFrame_setCondition s src g).setPorts t.ports
  have holds : t.holds = (s.setCondition src g).holds := by rw [eq]; rfl
  obtain ⟨record, held⟩ := setCondition_record derived src g keeps
  rw [← eq] at frame
  rw [ConditionFormed, holds]
  refine ⟨frame, ?_, record, held⟩
  rw [eq]
  exact formed_of_same (State.refresh_formed _) rfl rfl rfl rfl rfl rfl rfl rfl (fun _ => rfl) fun _ => rfl

/-- A latch that rises is recorded (R138). -/
theorem logLatch_rising {s : State} {src : Source} {old new : Grade} (rises : old.value < new.value) :
    s.logLatch src old new = s.logHold .holdRaised src new old.value := if_pos rises

/-- A condition that raises the latch is recorded ahead of all that the held grade sets off (R138). -/
theorem setCondition_raised {s : State} (derived : HoldsDerived s) {src : Source} {g : Grade}
    (keeps : s.settings.auto.get src = false)
    (rises : (s.holds.table.get src).latched.value < (latchedAt (s.holds.table.get src) g).latched.value) :
    ∃ more, Recorded s (s.setCondition src g)
      ({ time := s.clock, kind := .holdRaised, cabin := none, platform := none, source := some src
         grade := some (latchedAt (s.holds.table.get src) g).latched
         value := (s.holds.table.get src).latched.value } :: more) := by
  obtain ⟨record, -⟩ := setCondition_record derived src g keeps
  have moves : (s.holds.table.get src).cond ≠ g := by
    intro stands
    have idle : s.setCondition src g = s := if_pos stands
    rw [idle] at record
    exact absurd (congrArg (fun r => r.latched.value) record) (Nat.ne_of_lt rises)
  have change : s.setCondition src g = s.changeSource src fun r => r.withCond g := if_neg moves
  obtain ⟨more, rest⟩ :=
    changeSource_recorded s src (fun r => r.withCond g) (x := (s.setCondition src g).holds) (by rw [change])
  rw [record, logLatch_rising rises, ← change] at rest
  have first : Recorded s (State.logHold { s with holds := (s.setCondition src g).holds } .holdRaised src
    (latchedAt (s.holds.table.get src) g).latched (s.holds.table.get src).latched.value) [_] :=
    recorded_congr (recorded_append _ _) rfl
  exact ⟨more, recorded_trans first rest⟩

/-! ## The stop lines and the stop requests -/

theorem stopSource_eq (pf : Platform) : stopSource pf = if pf = .a then .platformStopA else .platformStopB := by
  cases pf <;> rfl

/-- The line and the request of a platform written, its condition still to follow (R146, R147). -/
def stopWritten (s : State) (pf : Platform) (x : StopLine) : State := { s with stops := s.stops.set pf x }

/-- The grade at which a platform's stop condition stands (R146). -/
def stopGrade (s : State) (pf : Platform) (x : StopLine) : Grade :=
  if x.lineOpen || x.request then s.settings.programmed.get (stopSource pf) else .none

theorem formStop_eq (s : State) (pf : Platform) (x : StopLine) :
    (stopWritten s pf x).formStop pf = (stopWritten s pf x).setCondition (stopSource pf) (stopGrade s pf x) := by
  have line : (stopWritten s pf x).stops.get pf = x := PerPlatform.get_set_same _ _ _
  unfold State.formStop State.formProgrammed stopGrade
  rw [line]
  rfl

/-- The line or the request written and the condition formed: what R146 and R147 leave. -/
theorem stopFormed_of {s t : State} (derived : HoldsDerived s) {pf : Platform} {x : StopLine}
    (eq : t = { ((stopWritten s pf x).formStop pf).refresh with ports := t.ports }) :
    ConditionFormed (stopWritten s pf x) t (stopSource pf) (stopGrade s pf x) := by
  rw [formStop_eq] at eq
  have written : HoldsDerived (stopWritten s pf x) := holdsDerived_congr derived rfl rfl
  have keeps : (stopWritten s pf x).settings.auto.get (stopSource pf) = false := by cases pf <;> rfl
  exact conditionFormed_of written keeps eq

theorem formStop_stops (s : State) (pf : Platform) (x : StopLine) :
    ((stopWritten s pf x).formStop pf).stops.get pf = x := by
  rw [(State.formStop_reaction _ _).stops]
  exact PerPlatform.get_set_same _ _ _

theorem exec_stopLineTaken {s : State} (running : s.phase = .running) (pf : Platform) (lineOpen : Bool) :
    exec (.stopLineTaken pf lineOpen) s = .next
      ((stopWritten s pf { s.stops.get pf with lineOpen := lineOpen }).formStop pf).refresh :=
  State.running_of running _

theorem stopActionOfCode_of_le {action : Nat} (h : action ≤ 1) : stopActionOfCode action = some (decide (action = 1)) := by
  obtain rfl | rfl : action = 0 ∨ action = 1 := by omega
  · rfl
  · rfl

theorem stopActionOfCode_of_lt {action : Nat} (h : 1 < action) : stopActionOfCode action = none := by
  unfold stopActionOfCode
  split
  · omega
  · omega
  · rfl

theorem ownPlatformStop_badField {action : Nat} (big : 1 < action) (s : State) (pf : Platform) :
    ownPlatformStop action s pf = s.refuse .badField := by
  rw [ownPlatformStop, stopActionOfCode_of_lt big]

/-- An accepted PLATFORM STOP replies from the state it leaves (R147). -/
theorem ownPlatformStop_accepted {action : Nat} (small : action ≤ 1) (s : State) (pf : Platform) :
    let u := ((stopWritten s pf { s.stops.get pf with request := action = 1 }).formStop pf).refresh
    ownPlatformStop action s pf = u.accept (yesNo (s.stops.get pf).lineOpen ++ yesNo (action = 1) ++
      bytes1 (u.holds.table.get (stopSource pf)).cond.value ++ bytes1 (u.holds.table.get (stopSource pf)).latched.value ++
      bytes1 u.holds.held.value) := by
  intro u
  have line : u.stops.get pf = { s.stops.get pf with request := action = 1 } := formStop_stops s pf _
  rw [ownPlatformStop, stopActionOfCode_of_le small]
  show u.accept (u.stopReply pf) = _
  rw [State.stopReply, line]

theorem kindOpen_platformStop {p : Port} {pf : Platform} (h : portPlatform p = some pf) : kindOpen 0x28 p = true := by
  rcases platformPort_of h with rfl | rfl <;> rfl

/-- Settles O29: the line and the request are those of `stopWritten`, and what the condition leaves is `stopFormed_of`. -/
theorem stopsFormTheirCondition : Obligations.StopsFormTheirCondition := by
  unfold Obligations.StopsFormTheirCondition
  intro pf s derived
  rw [← stopSource_eq]
  intro src old formed
  refine ⟨fun running lineOpen => ?line, fun p action ready port => ?request⟩
  case line =>
    have ports : _ = s.ports :=
      (State.formStop_reaction (stopWritten s pf { old with lineOpen := lineOpen }) pf).ports
    exact ⟨_, exec_stopLineTaken running pf lineOpen, stopFormed_of derived rfl, ports⟩
  case request =>
    refine ⟨_, State.request_ready ready _ (kindOpen_platformStop port), ?_⟩
    rw [atPlatform_eq port]
    refine ⟨fun big => refused_of (ownPlatformStop_badField big s pf), fun small => ?_⟩
    obtain ⟨eq, replied⟩ := accepted_of (s := s) (p := p) (kind := 0x28) (ownPlatformStop_accepted small s pf)
      (State.formStop_reaction _ pf).ports
    generalize State.reply p 0x28 _ = t at eq replied ⊢
    have holds : t.holds = _ := congrArg State.holds eq
    rw [holds]
    exact ⟨stopFormed_of derived eq, replied⟩

/-! ## OPERATOR HOLD -/

theorem grade_ofValue_value (g : Grade) : Grade.ofValue g.value = some g := by cases g <;> rfl

theorem grade_ofValue_of_lt {x : Nat} (h : 5 < x) : Grade.ofValue x = none := by
  unfold Grade.ofValue
  split
  case h_7 => rfl
  all_goals omega

theorem ownOperatorHold_badField {grade : Nat} (big : 5 < grade) (s : State) :
    ownOperatorHold grade s = s.refuse .badField := by
  rw [ownOperatorHold, grade_ofValue_of_lt big]

/-- An accepted OPERATOR HOLD replies from the record it leaves (R145). -/
theorem ownOperatorHold_accepted {s : State} (derived : HoldsDerived s) (g : Grade) :
    ownOperatorHold g.value s = State.accept (s.operatorHold g) (bytes1 g.value ++
      bytes1 (latchedAt (s.holds.table.get .operator) g).latched.value ++ bytes1 (s.operatorHold g).holds.held.value) := by
  have record : (s.operatorHold g).holds.table.get .operator = latchedAt (s.holds.table.get .operator) g :=
    (setCondition_record derived .operator g rfl).1
  rw [ownOperatorHold, grade_ofValue_value]
  dsimp only
  rw [State.operatorReply, record]
  rfl

/-- Settles O30: what the condition leaves is `conditionFormed_of`, and its first record `setCondition_raised`. -/
theorem operatorHoldSetsTheCondition : Obligations.OperatorHoldSetsTheCondition := by
  unfold Obligations.OperatorHoldSetsTheCondition
  intro grade s ready derived
  refine ⟨_, State.request_ready ready _ rfl, fun big => refused_of (ownOperatorHold_badField big s), ?_⟩
  rintro g rfl old new
  obtain ⟨eq, replied⟩ := accepted_of (s := s) (p := .controlRoom) (kind := 0x40) (ownOperatorHold_accepted derived g)
    (State.setCondition_reaction s .operator g).ports
  generalize State.reply .controlRoom 0x40 _ = t at eq replied ⊢
  obtain ⟨frame, formed, record, held⟩ := conditionFormed_of derived rfl eq
  have holds : t.holds = (s.operatorHold g).holds := by rw [eq]
  have events : t.events = (s.setCondition .operator g).events := by rw [eq]; rfl
  refine ⟨frame, formed, record, held, fun rises => ?_, holds ▸ replied⟩
  obtain ⟨more, recorded⟩ := setCondition_raised derived rfl rises
  exact ⟨more, events.trans recorded⟩

end Sys2Proof.HoldGrades
end

section
/-! CONFIG SAVE, the end of a save, and CONFIG LOCK (R183, R151). -/

namespace Sys2Proof.Saves

open Machine CabinTable

/-! ## The beginning of a save -/

/-- The slot that a save writes, and the save number it carries (R183). -/
def saveTarget (x : Slots) : Bool × Nat :=
  match x.saved with
  | none => (false, 0)
  | some (one, c) => (!one, (c.number + 1) % 65536)

theorem saveTarget_of_none {x : Slots} (h : x.saved = none) : saveTarget x = (false, 0) := by rw [saveTarget, h]

theorem saveTarget_of_some {x : Slots} {one : Bool} {c : Copy} (h : x.saved = some (one, c)) :
    saveTarget x = (!one, (c.number + 1) % 65536) := by rw [saveTarget, h]

/-- The slot that does not hold the saved copy can lose its own: the saved copy stays. -/
theorem saved_set_none {x : Slots} {one : Bool} (other : ∀ b c, x.saved = some (b, c) → one = !b) :
    (x.set one none).saved = x.saved := by
  have absent : goodCopy none = none := rfl
  unfold Slots.saved at other ⊢
  cases first : goodCopy x.slot0 with
  | none =>
    cases second : goodCopy x.slot1 with
    | none => cases one <;> simp only [Slots.set, first, second, absent, if_true, if_false, Bool.false_eq_true]
    | some d =>
      obtain rfl : one = !true := other true d (by rw [first, second])
      simp only [Slots.set, second, absent, Bool.not_true, Bool.false_eq_true, if_false]
  | some c =>
    cases second : goodCopy x.slot1 with
    | none =>
      obtain rfl : one = !false := other false c (by rw [first, second])
      simp only [Slots.set, first, absent, Bool.not_false, if_true]
    | some d =>
      by_cases newer : d.newer c = true
      · obtain rfl : one = !true := other true d (by simp only [first, second, newer, if_true])
        simp only [Slots.set, second, absent, newer, Bool.not_true, Bool.false_eq_true, if_false, if_true]
      · obtain rfl : one = !false := other false c (by simp only [first, second, newer, if_false, Bool.false_eq_true])
        simp only [Slots.set, first, absent, newer, Bool.not_false, if_true, if_false, Bool.false_eq_true]

theorem beginSave_saved (s : State) : s.beginSave.store.slots.saved = s.store.slots.saved := by
  show (s.store.slots.set (saveTarget s.store.slots).1 none).saved = _
  refine saved_set_none fun b c saved => ?_
  rw [saveTarget_of_some saved]

theorem ownConfigSave_busy {s : State} (busy : s.store.saving.isSome = true) : ownConfigSave s = s.refuse .busy :=
  if_pos busy

theorem ownConfigSave_idle {s : State} (idle : s.store.saving = none) : ownConfigSave s = s.beginSave.accept [] := by
  rw [ownConfigSave, idle]
  rfl

/-! ## The end of a save -/

/-- The store written and the record appended: nothing else changes (R183). -/
theorem endSave_eq {s : State} {j : SaveJob} (job : s.store.saving = some j) (passed : Bool) :
    s.endSave passed =
      { s with
        store := { s.store with
          slots := if passed then s.store.slots.set j.intoOne (some j.copy) else s.store.slots
          saving := none }
        events := (s.endSave passed).events } ∧
    Recorded s (s.endSave passed)
      [plainRecord s .saveDone (if passed then (if j.intoOne then 1 else 0) else -1)] := by
  have ended : s.endSave passed = State.append { s with store := { s.store with
      slots := if passed then s.store.slots.set j.intoOne (some j.copy) else s.store.slots
      saving := none } } (plainRecord s .saveDone (if passed then (if j.intoOne then 1 else 0) else -1)) := by
    rw [State.endSave, job]
    rfl
  rw [ended]
  exact ⟨append_eq_of_events rfl _, recorded_congr (recorded_append _ _) rfl⟩

theorem endSave_of_none {s : State} (idle : s.store.saving = none) (passed : Bool) : s.endSave passed = s := by
  rw [State.endSave, idle]

/-- Settles O35: a save begins in the slot of `saveTarget` and leaves the saved copy by `beginSave_saved`; it ends by
`endSave_eq`, its copy the saved one by `endSave_saved`. -/
theorem saveAndLock : Obligations.SaveAndLock := by
  unfold Obligations.SaveAndLock
  intro s
  refine ⟨fun ready => ?requests, fun running passed => ?ended⟩
  case requests =>
    have locked := accepted_of (s := s) (p := .controlRoom) (kind := 0x33) (a := ownConfigLock s) rfl rfl
    refine ⟨_, _, State.request_ready ready _ rfl, State.request_ready ready _ rfl,
      fun busy => refused_of (ownConfigSave_busy busy), fun idle => ?_, locked⟩
    obtain ⟨eq, replied⟩ := accepted_of (s := s) (p := .controlRoom) (kind := 0x32) (ownConfigSave_idle idle) rfl
    refine ⟨(saveTarget s.store.slots).1, (saveTarget s.store.slots).2, fun none => ?_, fun b c saved => ?_, eq, ?_,
      replied⟩
    · rw [saveTarget_of_none none]
      exact ⟨rfl, rfl⟩
    · rw [saveTarget_of_some saved]
      exact ⟨rfl, rfl⟩
    · rw [eq]
      exact beginSave_saved s
  case ended =>
    refine ⟨_, State.running_of running _, fun idle => endSave_of_none idle passed, fun j job => ?_⟩
    obtain ⟨eq, recorded⟩ := endSave_eq job passed
    exact ⟨eq, fun kept => State.endSave_saved kept job passed, recorded⟩

end Sys2Proof.Saves
end

section
/-! Which commands a part takes that does not run, the restart that is due, and the rows that start and stop the part (R148,
R179, R187, R188). -/

namespace Sys2Proof.Starts

open Machine CabinTable StatusLoop

/-! ## The commands that only a running part takes -/

/-- The rows of the supply and of the power-on (R187). -/
def IsStart (i : Instr) : Prop :=
  i = .supplyOn ∨ i = .supplyLoss ∨ i = .restartLineHeld ∨ ∃ a b strap, i = .powerOnComplete a b strap

/-- What only a running part takes: one effect, whatever the state. -/
def OnlyRunning (i : Instr) : Prop := ∃ act : State → State, ∀ s : State, exec i s = s.running act

theorem onlyRunning_linePulse : OnlyRunning (.warmRestart .linePulse) := by
  refine ⟨fun s => s.warmRestart .linePulse, fun s => ?_⟩
  show execWarmRestart .linePulse s = _
  unfold execWarmRestart
  split
  next request => cases request
  · rfl

/-- Every other row, the restart that a request has made due aside, is taken by a running part only. -/
theorem onlyRunning_or (i : Instr) : IsStart i ∨ i = .warmRestart .request ∨ OnlyRunning i := by
  cases i with
  | supplyOn => exact .inl (.inl rfl)
  | supplyLoss => exact .inl (.inr (.inl rfl))
  | restartLineHeld => exact .inl (.inr (.inr (.inl rfl)))
  | powerOnComplete a b strap => exact .inl (.inr (.inr (.inr ⟨a, b, strap, rfl⟩)))
  | warmRestart cause =>
    cases cause with
    | request => exact .inr (.inl rfl)
    | linePulse => exact .inr (.inr onlyRunning_linePulse)
  | _ => exact .inr (.inr ⟨_, fun _ => rfl⟩)

theorem running_of_still {s : State} (still : s.phase = .off ∨ s.phase = .heldInReset) (act : State → State) :
    s.running act = .next s := by
  unfold State.running State.whenRunning
  rcases still with phase | phase <;> rw [phase]

/-- A command that finds a warm restart due acts on the state after it (R188, log 9). -/
theorem running_of_due {s : State} (due : s.phase = .restartDue) (act : State → State) :
    s.running act = (s.warmRestart .request).running act := by
  rw [State.running_of (warmRestart_phase s .request)]
  unfold State.running State.whenRunning
  rw [due]

theorem warmRestart_of_due {s : State} (due : s.phase = .restartDue) :
    exec (.warmRestart .request) s = .next (s.warmRestart .request) := by
  show execWarmRestart .request s = _
  unfold execWarmRestart
  rw [due]

theorem warmRestart_of_still {s : State} (still : s.phase = .off ∨ s.phase = .heldInReset) :
    exec (.warmRestart .request) s = .next s := by
  show execWarmRestart .request s = _
  have taken := running_of_still still fun s => s.warmRestart .request
  unfold execWarmRestart
  rcases still with phase | phase <;> rw [phase] <;> exact taken

/-! ## The rows that start and stop the part -/

theorem exec_restartLineHeld {s : State} (supplied : s.phase ≠ .off) :
    exec .restartLineHeld s = .next (s.shut .heldInReset) := congrArg _ (if_neg supplied)

theorem exec_powerOnComplete {s : State} (supplied : s.phase ≠ .off) (openA openB strap : Bool) :
    exec (.powerOnComplete openA openB strap) s = .next (s.powerOn openA openB (rateOf strap)) :=
  congrArg _ (if_neg supplied)

theorem powerOn_phase (s : State) (openA openB : Bool) (rate : Rate) :
    (s.powerOn openA openB rate).phase = .running := by
  rw [powerOn_eq]
  rfl

/-- Settles O4: a row that starts and stops the part aside, a command is taken by a running part only, by `onlyRunning_or`. -/
theorem onlyARunningPartTakesCommands : Obligations.OnlyARunningPartTakesCommands := by
  unfold Obligations.OnlyARunningPartTakesCommands
  refine ⟨fun i s still => ?still, fun i s due => ⟨warmRestart_of_due due, ?due⟩, fun s => ?starts, fun s ready => ?restart⟩
  case still =>
    rcases onlyRunning_or i with (on | loss | held | complete) | rfl | ⟨act, taken⟩
    · exact .inl on
    · exact .inr (.inl loss)
    · exact .inr (.inr (.inl held))
    · exact .inr (.inr (.inr (.inl complete)))
    · exact .inr (.inr (.inr (.inr (warmRestart_of_still still))))
    · exact .inr (.inr (.inr (.inr ((taken s).trans (running_of_still still act)))))
  case due =>
    rcases onlyRunning_or i with (on | loss | held | complete) | request | ⟨act, taken⟩
    · exact .inl on
    · exact .inr (.inl loss)
    · exact .inr (.inr (.inl held))
    · exact .inr (.inr (.inr (.inl complete)))
    · exact .inr (.inr (.inr (.inr (.inl request))))
    · refine .inr (.inr (.inr (.inr (.inr ?_))))
      rw [taken, taken, running_of_due due]
  case starts =>
    exact ⟨⟨_, rfl, rfl, rfl⟩, ⟨_, rfl, rfl, rfl⟩, fun supplied => ⟨⟨_, exec_restartLineHeld supplied, rfl, rfl⟩,
      fun openA openB strap => ⟨_, exec_powerOnComplete supplied openA openB strap, powerOn_phase _ _ _ _⟩⟩⟩
  case restart =>
    exact ⟨_, State.request_ready ready _ rfl, accepted_reply s .controlRoom 0x4F []⟩

end Sys2Proof.Starts
end

section
/-! R162: a park record stands exactly while the held grade is PARK, kept by every step. A change of one source is all that moves
the held grade, and it creates or removes the record as it does; every other effect leaves the two as they were. -/

namespace Sys2Proof

open Machine CabinTable StatusLoop

/-! ## The record through a change of one source -/

/-- A record appended leaves the Permit Unit. -/
theorem append_permit (s : State) (r : EventRecord) : (s.append r).permit = s.permit :=
  let ⟨_, permit, _⟩ := s.append_kept r
  permit

/-- The parked test leaves a record where there was one (R165). -/
theorem parkedTest_isSome (s : State) : s.parkedTest.permit.park.isSome = s.permit.park.isSome := by
  unfold State.parkedTest
  split
  · rfl
  next park =>
    split
    · rw [State.logBerth, append_permit, park]
      rfl
    · rfl

/-- An assignment leaves the Permit Unit (R94). -/
theorem assignIfDue_permit (s : State) (pf : Platform) : (s.assignIfDue pf).permit = s.permit := by
  have written : (asked s pf).permit = s.permit := by
    unfold asked
    split <;> rfl
  rw [assignIfDue_eq, askedIfAllowed]
  split
  · rfl
  · rw [appends_eq]
    exact written

theorem judgeUnload_permit (s : State) : s.judgeUnload.permit = s.permit := by
  rw [(judgeUnload_eq s).1]

/-- Whether a record stands after a change of the held grade from `old` to `new`, of what stood before it (R162). -/
def standsAfter (old new : Grade) (before : Bool) : Bool :=
  if new = .park ∧ old ≠ .park then true else if old = .park ∧ new ≠ .park then false else before

theorem parkOnChange_isSome (s : State) (old new : Grade) :
    (s.parkOnChange old new).permit.park.isSome = standsAfter old new s.permit.park.isSome := by
  unfold State.parkOnChange standsAfter
  split
  · exact parkedTest_isSome _
  · split <;> rfl

theorem heldChanged_isSome (s : State) (old new : Grade) :
    (s.heldChanged old new).permit.park.isSome = standsAfter old new s.permit.park.isSome := by
  have changed := parkOnChange_isSome s.judgeUnload old new
  rw [judgeUnload_permit] at changed
  unfold State.heldChanged
  dsimp only
  split
  · exact changed
  · rw [assignIfDue_permit, assignIfDue_permit]
    exact changed

theorem standsAfter_iff {old new : Grade} {before : Bool} (kept : old = .park ↔ before = true) :
    new = .park ↔ standsAfter old new before = true := by
  unfold standsAfter
  split
  next created => exact iff_of_true created.1 rfl
  · split
    next removed => exact iff_of_false removed.2 Bool.false_ne_true
    · rw [← kept]
      tauto

/-! ## What keeps it -/

/-- The held grade as it was, and a record standing where one stood. -/
theorem ParkKept.keep {s t : State} (h : ParkKept s) (held : t.holds.held = s.holds.held)
    (park : t.permit.park.isSome = s.permit.park.isSome) : ParkKept t := by
  rw [ParkKept, held, park]
  exact h

theorem ParkKept.changeSource {s : State} (h : ParkKept s) (src : Source) (f : HoldRecord → HoldRecord) :
    ParkKept (s.changeSource src f) := by
  by_cases same : (s.changeSource src f).holds.held = s.holds.held
  · obtain ⟨-, permit, -⟩ := s.changeSource_still src f same
    exact h.keep same (by rw [permit])
  · have permit (x : Holds) (old new : Grade) : (State.logLatch { s with holds := x } src old new).permit = s.permit :=
      let ⟨_, permit, _⟩ := State.logLatch_kept { s with holds := x } src old new
      permit
    have change := changeSource_eq (s := s) (src := src) (f := f) rfl
    rw [if_neg (Ne.symm same)] at change
    have stands := congrArg (fun t : State => t.permit.park.isSome) change
    rw [heldChanged_isSome, permit] at stands
    rw [ParkKept, stands]
    exact standsAfter_iff h

section

variable {s : State} (h : ParkKept s)
include h

theorem ParkKept.setCondition (src : Source) (g : Grade) : ParkKept (s.setCondition src g) := by
  unfold State.setCondition
  split
  · exact h
  · exact h.changeSource src _

theorem ParkKept.deliverEvent (src : Source) (g : Grade) : ParkKept (s.deliverEvent src g) := by
  unfold State.deliverEvent
  split
  · exact h
  · exact h.changeSource src _

theorem ParkKept.formProgrammed (src : Source) (on : Bool) : ParkKept (s.formProgrammed src on) := h.setCondition src _

theorem ParkKept.formDoorLate : ParkKept s.formDoorLate := h.setCondition .doorLate _

/-- The away set judged, and DOOR_AWAY's condition formed (R51). -/
theorem ParkKept.judgeAway : ParkKept s.judgeAway := by
  refine ParkKept.setCondition ?_ .doorAway _
  exact h.keep rfl rfl

theorem ParkKept.append (r : EventRecord) : ParkKept (s.append r) :=
  h.keep (by rw [s.append_holds]) (by rw [append_permit])

theorem ParkKept.appends (xs : List EventRecord) : ParkKept (xs.foldl State.append s) :=
  List.foldlRecOn (motive := ParkKept) _ _ h fun _ h r _ => h.append r

theorem ParkKept.assignIfDue (pf : Platform) : ParkKept (s.assignIfDue pf) :=
  h.keep (by rw [s.assignIfDue_holds]) (by rw [assignIfDue_permit])

theorem ParkKept.judgeUnload : ParkKept s.judgeUnload :=
  h.keep (by rw [s.judgeUnload_holds]) (by rw [judgeUnload_permit])

theorem ParkKept.writeCabin (k : Nat) (f : Cabin → Cabin) : ParkKept (s.writeCabin k f) := by
  refine ParkKept.judgeUnload ?_
  exact h.keep rfl rfl

theorem ParkKept.parkedTest : ParkKept s.parkedTest := h.keep (by rw [s.parkedTest_holds]) (parkedTest_isSome s)

theorem ParkKept.unparkTest : ParkKept s.unparkTest := by
  unfold State.unparkTest
  split
  · exact h
  next park =>
    split
    · exact h.keep rfl (by rw [park]; rfl)
    · exact h

theorem ParkKept.overshootTest : ParkKept s.overshootTest := by
  unfold State.overshootTest
  split
  · exact h.deliverEvent _ _
  · exact h

theorem ParkKept.parkTests : ParkKept s.parkTests := h.unparkTest.parkedTest.overshootTest

theorem ParkKept.movedTests (moved : Bool) : ParkKept (s.movedTests moved) := by
  cases moved with
  | false => exact h
  | true => exact h.parkedTest.overshootTest

/-- A target moved, where the record's state lets it (R167). -/
theorem ParkKept.shiftTarget (d : Int) : ParkKept (s.shiftTarget d) := by
  unfold State.shiftTarget
  split
  · exact h
  next park =>
    split
    · exact h.keep rfl (by rw [park]; rfl)
    · exact h

theorem ParkKept.retarget : ParkKept s.retarget := by
  unfold State.retarget
  split
  · exact h
  next park =>
    split
    · exact h.keep rfl (by rw [park]; rfl)
    · exact h

theorem ParkKept.refresh : ParkKept s.refresh := h.keep rfl rfl

/-! ## The visits -/

theorem ParkKept.endVisit (pf : Platform) (v : Visit) : ParkKept (s.endVisit pf v) := by
  have ended : ParkKept (endedVisit s pf v) := h.keep rfl rfl
  rw [endVisit_eq]
  split
  · exact ended.formDoorLate
  · exact ended

theorem ParkKept.testLatched (pf : Platform) (v : Visit) : ParkKept (s.testLatched pf v) := by
  unfold State.testLatched
  split
  · split
    · exact h.endVisit pf v
    · exact h.keep rfl rfl
  · exact h

theorem ParkKept.beginClosing (pf : Platform) (v : Visit) : ParkKept (s.beginClosing pf v) := by
  refine ParkKept.testLatched ?_ pf _
  exact h.keep rfl rfl

theorem ParkKept.testOpen (pf : Platform) (v : Visit) : ParkKept (s.testOpen pf v) := by
  unfold State.testOpen
  split
  · refine ParkKept.assignIfDue ?_ pf
    exact h.keep rfl rfl
  · exact h

theorem ParkKept.createVisit (pf : Platform) (k : Nat) (c : Cabin) : ParkKept (s.createVisit pf k c) := by
  unfold State.createVisit
  dsimp only
  split
  · exact h.keep rfl rfl
  · refine ParkKept.testOpen (ParkKept.append ?_ _) pf _
    exact h.keep rfl rfl

theorem ParkKept.takeEnter (pf : Platform) (k : Nat) : ParkKept (s.takeEnter pf k) := by
  unfold State.takeEnter State.missBerth
  split
  · split
    · exact h
    · dsimp only
      split
      · exact (h.append _).deliverEvent _ _
      · exact h.append _
  · split
    · exact h.createVisit pf k _
    · exact h

theorem ParkKept.takeClose (pf : Platform) (k : Nat) : ParkKept (s.takeClose pf k) := by
  unfold State.takeClose
  split
  · split
    · exact h.beginClosing pf _
    · exact h
  · exact h

theorem ParkKept.makeLate (pf : Platform) (v : Visit) : ParkKept (s.makeLate pf v) := by
  refine ParkKept.formDoorLate ?_
  exact h.keep rfl rfl

theorem ParkKept.takeExit (pf : Platform) (k : Nat) : ParkKept (s.takeExit pf k) := by
  unfold State.takeExit
  split
  · split
    · exact h
    · dsimp only
      split
      · exact h.endVisit pf _
      · exact h.endVisit pf _
      · exact h.makeLate pf _
      · exact (h.makeLate pf _).beginClosing pf _
      · exact (h.makeLate pf _).beginClosing pf _
  · exact h

theorem ParkKept.takeCrossing (pf : Platform) (x : Nat × Crossing) : ParkKept (s.takeCrossing pf x) := by
  unfold State.takeCrossing
  split
  · exact h.takeEnter pf _
  · exact h.takeClose pf _
  · exact h.takeExit pf _

theorem ParkKept.takeRetreat (pf : Platform) (k : Nat) : ParkKept (s.takeRetreat pf k) := by
  have closed : ParkKept (s.command pf .close) := h.keep rfl rfl
  unfold State.takeRetreat
  split
  · split
    · exact h
    · split
      · exact h.endVisit pf _
      · split
        · exact closed.endVisit pf _
        · exact h
  · exact h

theorem ParkKept.losePosition (pf : Platform) : ParkKept (s.losePosition pf) := by
  unfold State.losePosition
  split
  · dsimp only
    split
    · exact h.endVisit pf _
    · exact h.keep rfl rfl
  · exact h

theorem ParkKept.feedBack (pf : Platform) (door : DoorState) : ParkKept (s.feedBack pf door) := by
  unfold State.feedBack
  split
  · split
    · exact h.testOpen pf _
    · exact h.testLatched pf _
    · split
      · exact h.keep rfl rfl
      · exact h
    · exact h
    · exact h
  · exact h

theorem ParkKept.expireActuator (pf : Platform) : ParkKept (s.expireActuator pf) := by
  unfold State.expireActuator
  split
  · split
    · exact h.beginClosing pf _
    · split <;> exact h.keep rfl rfl
    · exact h.keep rfl rfl
    · exact h.keep rfl rfl
    · exact h.keep rfl rfl
  · exact h.keep rfl rfl
  · exact h

/-! ## The wheel -/

theorem ParkKept.position (x : Position) : ParkKept { s with position := x } := h.keep rfl rfl

theorem ParkKept.handCrossings (before after : Nat) (pf : Platform) : ParkKept (s.handCrossings before after pf) :=
  List.foldlRecOn (motive := ParkKept) _ _ h fun _ h x _ => h.takeCrossing pf x

theorem ParkKept.handRetreats (before after : Nat) (pf : Platform) : ParkKept (s.handRetreats before after pf) :=
  List.foldlRecOn (motive := ParkKept) _ _ h fun _ h k _ => h.takeRetreat pf k

theorem ParkKept.forwardTick : ParkKept s.forwardTick := by
  have moved := h.position (s.position.forward s.geometry)
  unfold State.forwardTick
  exact (((moved.handCrossings _ _ .a).handCrossings _ _ .b).position _).parkTests.judgeAway

theorem ParkKept.reverseTest : ParkKept s.reverseTest := by
  unfold State.reverseTest
  split
  · exact (h.position _).deliverEvent _ _
  · exact h

theorem ParkKept.reverseTick : ParkKept s.reverseTick := by
  have moved := h.position (s.position.backward s.geometry)
  unfold State.reverseTick
  exact ((moved.reverseTest.handRetreats _ _ .a).handRetreats _ _ .b).parkTests.judgeAway

theorem ParkKept.plans (x : Plans) : ParkKept { s with plans := x } := h.keep rfl rfl

/-- The Plan Banks turned over, counted or ended at a revolution boundary (R112). -/
theorem ParkKept.planBoundary : ParkKept s.planBoundary := by
  have counted : ParkKept
      (if s.plans.planEnd then s else { s with plans := s.plans.setActive s.plans.active.countRevolution }) := by
    split
    · exact h
    · exact h.plans _
  unfold State.planBoundary
  dsimp only
  generalize (if s.plans.planEnd then s else _ : State) = u at counted ⊢
  split
  · exact ((counted.plans _).formProgrammed .planEnd false).append _
  · split
    · exact ((counted.plans _).append _).formProgrammed .planEnd true
    · exact counted

theorem ParkKept.boundary : ParkKept s.boundary := (h.position _).planBoundary

/-- An index edge within the tolerance (R4). -/
theorem ParkKept.goodEdge (d : Int) : ParkKept (s.goodEdge d) := by
  have shifted : ParkKept (((s.correct d).logPlain .index d).shiftTarget d) := ((h.position _).append _).shiftTarget d
  unfold State.goodEdge
  dsimp only
  refine ((ParkKept.boundary ?_).movedTests _).judgeAway
  split
  · exact (shifted.handCrossings _ _ .a).handCrossings _ _ .b
  · exact shifted

/-- An index edge beyond the tolerance (R5). -/
theorem ParkKept.badEdge (d : Int) : ParkKept (s.badEdge d) := by
  unfold State.badEdge
  exact (((((h.position _).append _).changeSource .position _).losePosition .a).losePosition .b).boundary.judgeAway

/-- The index edge that verifies the position (R6). -/
theorem ParkKept.verifyEdge : ParkKept s.verifyEdge := by
  unfold State.verifyEdge
  exact ((((h.position _).append _).retarget.setCondition .position _).movedTests _).judgeAway

theorem ParkKept.takenEdge : ParkKept s.takenEdge := by
  unfold State.takenEdge
  split
  · dsimp only
    split
    · exact h.goodEdge _
    · exact h.badEdge _
  · exact h.verifyEdge

/-! ## The wind -/

theorem ParkKept.wind (x : Wind) : ParkKept { s with wind := x } := h.keep rfl rfl

theorem ParkKept.logSensor (k : Sensor) (c : SensorChange) : ParkKept (s.logSensor k c) := by
  cases c with
  | same => exact h
  | stalled | overran | recovered => exact h.append _

theorem ParkKept.testSensors : ParkKept s.testSensors := ((h.wind _).logSensor _ _).logSensor _ _

theorem ParkKept.judgeClass : ParkKept s.judgeClass := by
  unfold State.judgeClass State.changeClass
  dsimp only
  split
  · exact h.wind _
  · exact ((h.wind _).append _).setCondition .wind _

theorem ParkKept.windowEnd : ParkKept s.windowEnd := by
  unfold State.windowEnd State.windWindow
  exact (((((h.position _).parkedTest.wind _).testSensors).wind _).formProgrammed .windSensor _).judgeClass

/-! ## The Status Loop -/

theorem ParkKept.loop (x : Loop) : ParkKept { s with loop := x } := h.keep rfl rfl

theorem ParkKept.takeContacts (after : Loop) : ParkKept (s.takeContacts after) := by
  have written : ParkKept (State.writeDoors { s with loop := after }) := h.keep rfl rfl
  rw [takeContacts_eq]
  exact ((written.appends _).feedBack _ _).feedBack _ _

theorem ParkKept.clearLoopFault : ParkKept s.clearLoopFault := by
  unfold State.clearLoopFault
  split
  · exact ((h.loop _).append _).formProgrammed .loopFault false
  · exact h

theorem ParkKept.goodScan (stale : Bool) (r : Readings) : ParkKept (s.goodScan stale r) := by
  unfold State.goodScan
  dsimp only
  split
  · exact h.clearLoopFault.loop _
  · exact (h.clearLoopFault.loop _).takeContacts _

theorem ParkKept.failedScan : ParkKept s.failedScan := by
  unfold State.failedScan
  dsimp only
  split
  · exact (((h.loop _).append _).takeContacts _).formProgrammed .loopFault true
  · exact h.loop _

theorem ParkKept.endScan (pattern : Byte) (contacts : List Bool) : ParkKept (s.endScan pattern contacts) := by
  unfold State.endScan
  split
  · exact h
  · refine ParkKept.judgeAway ?_
    split
    · exact (h.loop _).goodScan _ _
    · exact (h.loop _).failedScan

/-! ## The configuration -/

theorem ParkKept.loseGeometry : ParkKept s.loseGeometry :=
  (((h.position _).setCondition .position _).formProgrammed .disagree false).judgeAway

theorem ParkKept.resize (n : Nat) : ParkKept (s.resize n) := by
  refine ParkKept.judgeUnload ?_
  exact h.keep rfl rfl

theorem ParkKept.storeItem (i : Item) (v : Nat) : ParkKept (s.storeItem i v) := by
  have stored : ParkKept (s.setSettings (s.settings.write i v)) := h.keep rfl rfl
  unfold State.storeItem
  split
  · exact h
  · unfold State.itemEffect
    cases i with
    | n => exact (stored.resize _).loseGeometry
    | p => exact stored.loseGeometry
    | auto src => exact stored.changeSource src _
    | programmed src => exact stored.formProgrammed src _
    | _ => exact stored

/-! ## The requests -/

theorem ParkKept.crossCheck : ParkKept s.crossCheck := by
  unfold State.crossCheck
  split
  · exact h
  · split
    · exact (h.position _).formProgrammed .disagree _
    · exact h

/-- The drive's report read (R155 to R157, R9). -/
theorem ParkKept.driveReport (d : DriveRecord) : ParkKept (s.driveReport d) := by
  have taken : ParkKept (s.takeDriveRecord d) := by
    refine ParkKept.setCondition ?_ .driveSilent .none
    exact h.keep rfl rfl
  have formed : ParkKept ((s.takeDriveRecord d).formDriveFault (d.state = some .fault)) := by
    refine ParkKept.setCondition ?_ .driveFault _
    exact taken.keep rfl rfl
  exact formed.crossCheck.refresh

/-- The figures of a stop condition written, and the condition formed (R146, R147). -/
theorem ParkKept.formStop (pf : Platform) (x : StopLine) :
    ParkKept (State.formStop { s with stops := s.stops.set pf x } pf) := by
  refine ParkKept.formProgrammed ?_ _ _
  exact h.keep rfl rfl

theorem ParkKept.cancelAssigned (pf : Platform) (tag : Nat) : ParkKept (s.cancelAssigned pf tag) := by
  unfold State.cancelAssigned
  split <;> exact h.keep rfl rfl

theorem ParkKept.answered {t : State} (a : Answered s t) : ParkKept t := by
  cases a with
  | kept => exact h
  | gate | service | configured | queued | unqueued | edited | swapAsked | locked | saving | taken => exact h.keep rfl rfl
  | declared => exact h.writeCabin _ _
  | @alighted pf v _ count =>
    have counted : ParkKept (s.setVisit pf { v with alighted := some count }) := h.keep rfl rfl
    exact ((counted.writeCabin _ _).assignIfDue pf).refresh
  | @boarded pf v _ _ tag count =>
    have counted : ParkKept (s.setVisit pf (v.setBoarded tag count)) := h.keep rfl rfl
    exact (counted.writeCabin _ _).refresh
  | dispatched pf => exact (h.beginClosing pf _).refresh
  | unassigned pf tag => exact h.cancelAssigned pf tag
  | stopRequested pf => exact (h.formStop pf _).refresh
  | operatorHeld g => exact (h.setCondition .operator g).refresh
  | released src => exact (h.changeSource src _).refresh
  | stored i => exact (h.storeItem i _).refresh
  | reported d => exact h.driveReport d
  | advanced n held park => exact h.keep rfl (by rw [park]; rfl)

/-! ## Timers and restarts -/

theorem ParkKept.warmRestart (cause : RestartCause) : ParkKept (s.warmRestart cause) := by
  have struck : ParkKept s.restartBlocks := h.keep rfl rfl
  have judged := struck.formDoorLate.judgeAway
  have silenced {u : State} (h : ParkKept u) : ParkKept u.restartSilence := by
    refine ParkKept.setCondition ?_ .driveSilent .none
    exact h.keep rfl rfl
  unfold State.warmRestart
  dsimp only
  refine (((silenced ?_).append _).deliverEvent .restart .stop).refresh
  exact judged.keep rfl rfl

theorem ParkKept.driveSilence : ParkKept s.driveSilence := by
  unfold State.driveSilence
  split
  · refine (ParkKept.setCondition ?_ .driveSilent .brake).refresh
    exact h.keep rfl rfl
  · exact h

theorem ParkKept.endSave (passed : Bool) : ParkKept (s.endSave passed) := by
  unfold State.endSave
  split
  · exact h
  · refine ParkKept.append ?_ _
    exact h.keep rfl rfl

end

/-- A power-on holds STOP at least and finds no park record (R153, R169). -/
theorem parkKept_powerOn (s : State) (openA openB : Bool) (rate : Rate) : ParkKept (s.powerOn openA openB rate) := by
  have stop := holds_atPowerOn_stop (startSettings s).programmed openA openB
  have held : (Holds.atPowerOn (startSettings s).programmed openA openB).held ≠ .park := by
    intro park
    rw [park] at stop
    exact absurd stop (by decide)
  rw [powerOn_eq]
  exact iff_of_false held Bool.false_ne_true

/-- Every effect keeps a park record exactly while the held grade is PARK. -/
theorem ParkKept.effect {s t : State} (h : ParkKept s) (e : Effect s t) : ParkKept t := by
  cases e with
  | answered a => exact h.answered a
  | port | queue | restartDue | millisecond | pulse | scanStart => exact h.keep rfl rfl
  | blinkToggle | sequenceStart | sequenceEnd | refreshExpiry | shut => exact h.keep rfl rfl
  | forwardTick => exact h.forwardTick.refresh
  | reverseTick => exact h.reverseTick.refresh
  | indexEdge => exact h.takenEdge.refresh
  | windowEnd => exact h.windowEnd.refresh
  | scanEnd pattern contacts => exact (h.endScan pattern contacts).refresh
  | actuatorExpiry pf => exact (h.expireActuator pf).refresh
  | lineTaken pf => exact (h.formStop pf _).refresh
  | driveSilence => exact h.driveSilence
  | saveDone passed => exact h.endSave passed
  | warmRestart cause => exact h.warmRestart cause
  | powerOn openA openB rate => exact parkKept_powerOn s openA openB rate

/-- Settles O14: every effect of a step keeps R162, the changes of one source by `ParkKept.changeSource`. -/
theorem parkRecordStandsWithPark : Obligations.ParkRecordStandsWithPark := by
  unfold Obligations.ParkRecordStandsWithPark
  intro s t kept e
  exact step_keeps (fun _ _ effect h => h.effect effect) e kept

end Sys2Proof
end

section
/-! The speed ceiling: the least of the terms of Table 9-3 (R159). -/

namespace Sys2Proof.SpeedPermit

open Machine CabinTable StatusLoop

/-- A bound that may not apply joins the terms where it does. -/
theorem isLeast_bounded {S : Set Nat} {x : Nat} (h : IsLeast S x) (t : Option Nat) :
    IsLeast (S ∪ {y | t = some y}) (bounded x t) := by
  cases t with
  | none => simpa [bounded] using h
  | some b =>
    have single : {y | some b = some y} = {b} := by
      ext y
      simp [eq_comm]
    rw [single, bounded]
    exact h.union isLeast_singleton

theorem visit_working_iff (v : Visit) : v.working = true ↔ v.state ∈ [.opening, .opened, .closing] := by
  simp [Visit.working, or_assoc]

theorem sequencer_working_iff (q : Sequencer) :
    q.working = true ↔ ∃ v, q.current = some v ∧ v.state ∈ [.opening, .opened, .closing] := by
  unfold Sequencer.working
  cases q.current with
  | none => simp
  | some v => simp only [visit_working_iff, Option.some.injEq, exists_eq_left']

theorem parkTerm_eq (s : State) (r : ParkRecord) :
    s.parkTerm r =
      let root := isqrt (2 * s.settings.deceleration * (max 0 (r.target - s.position.tau).toInt).toNat)
      if r.state = .stepping then min root s.settings.speeds.step else root := by
  have positive (z : Int) : (max 0 z).toNat = z.toNat := by omega
  unfold State.parkTerm State.parkRemainder
  rw [positive]
  cases r.state <;> simp

/-- The grade term of Table 9-3, a park record standing exactly while the held grade is PARK (R162). -/
theorem gradeTerm_iff {s : State} (kept : ParkKept s) (x : Nat) :
    s.gradeTerm = some x ↔
      (s.holds.held = .limit ∧ x = s.settings.speeds.limit) ∨
      (s.holds.held = .unload ∧ x = s.settings.speeds.unload) ∨
      (s.holds.held = .park ∧ some x = s.permit.park.map s.parkTerm) ∨
      (s.holds.held ∈ [.stop, .brake] ∧ x = 0) := by
  unfold ParkKept at kept
  unfold State.gradeTerm
  cases held : s.holds.held with
  | park =>
    obtain ⟨r, park⟩ := Option.isSome_iff_exists.mp (kept.mp held)
    simp [park, eq_comm]
  | none | limit | unload | stop | brake => simp [eq_comm]

/-- The terms of Table 9-3 that apply, in the order in which the ceiling takes them. -/
def ceilingTerms (s : State) : Set Nat :=
  {s.permit.drive.speed} ∪ ({s.plans.active.speed} ∪ {s.settings.speeds.absolute}) ∪ {x | s.gradeTerm = some x} ∪
    {x | (if s.sequencers.a.working || s.sequencers.b.working then some s.settings.speeds.boarding else none) = some x} ∪
    {x | (if s.position.verified then none else some s.settings.speeds.homing) = some x}

theorem ceilingNow_isLeast (s : State) : IsLeast (ceilingTerms s) s.ceilingNow :=
  isLeast_bounded (isLeast_bounded (isLeast_bounded
    (isLeast_singleton.union (isLeast_singleton.union isLeast_singleton)) _) _) _

/-- The terms one by one. -/
theorem mem_ceilingTerms (s : State) (x : Nat) :
    x ∈ ceilingTerms s ↔
      x = s.permit.drive.speed ∨ x = s.plans.active.speed ∨ x = s.settings.speeds.absolute ∨ s.gradeTerm = some x ∨
      ((s.sequencers.a.working = true ∨ s.sequencers.b.working = true) ∧ x = s.settings.speeds.boarding) ∨
      (s.position.verified = false ∧ x = s.settings.speeds.homing) := by
  simp only [ceilingTerms, Set.mem_union, Set.mem_singleton_iff, Set.mem_ofPred_eq, Option.ite_none_right_eq_some,
    Option.ite_none_left_eq_some, Option.some.injEq, Bool.or_eq_true, Bool.not_eq_true, eq_comm (b := x), or_assoc]

/-- Settles O16: the ceiling is the least of `ceilingTerms`, and these are the terms of the statement. -/
theorem ceilingIsTheLeastTerm : Obligations.CeilingIsTheLeastTerm := by
  unfold Obligations.CeilingIsTheLeastTerm
  intro s formed kept parkTerm working terms
  have park : parkTerm = s.permit.park.map s.parkTerm := by
    simp only [parkTerm, ← parkTerm_eq]
  have same (x : Nat) : x ∈ ceilingTerms s ↔ terms x := by
    rw [mem_ceilingTerms, gradeTerm_iff kept, sequencer_working_iff, sequencer_working_iff, ← park]
    simp only [terms, or_assoc]
    rfl
  obtain ⟨attained, least⟩ := ceilingNow_isLeast s
  rw [formed.ceiling]
  exact ⟨(same _).mp attained, fun x applies => least ((same x).mpr applies)⟩

end Sys2Proof.SpeedPermit
end

section
/-! The park figures (R163, R164) and PARK ADVANCE (R168). -/

namespace Sys2Proof.SpeedPermit

open Machine CabinTable StatusLoop

/-! ## The integer root (R164) -/

/-- With the root between a candidate and the candidate raised by 2^k, the k bits below decide it. -/
theorem isqrtBits_spec {n k root : Nat} (low : root * root ≤ n) (high : n < (root + 2 ^ k) * (root + 2 ^ k)) :
    isqrtBits n k root * isqrtBits n k root ≤ n ∧ n < (isqrtBits n k root + 1) * (isqrtBits n k root + 1) := by
  induction k generalizing root with
  | zero => exact ⟨low, high⟩
  | succ k ih =>
    have doubled : root + 2 ^ (k + 1) = root + 2 ^ k + 2 ^ k := by omega
    rw [doubled] at high
    unfold isqrtBits
    dsimp only
    split
    next fits => exact ih fits high
    next exceeds => exact ih low (Nat.lt_of_not_le exceeds)

theorem isqrt_spec {n : Nat} (h : n < 2 ^ 64) : isqrt n * isqrt n ≤ n ∧ n < (isqrt n + 1) * (isqrt n + 1) :=
  isqrtBits_spec (Nat.zero_le n) h

/-! ## The park target (R163) -/

/-- The division of R163 rounds up. -/
theorem roundedUp_spec {a : Nat} (x : Nat) (pos : 0 < a) :
    x ≤ a * ((x + a - 1) / a) ∧ a * ((x + a - 1) / a) < x + a := by
  have split := Nat.div_add_mod (x + a - 1) a
  have small := Nat.mod_lt (x + a - 1) pos
  omega

/-- The way on to the next point at the offset `o`, the wheel round `p` being a number of whole pitches (R163). -/
theorem way_on {p pitch : Nat} (o stop : Nat) (whole : pitch ∣ p) (pos : 0 < pitch) :
    ∃ ahead : Nat, (ahead : Int) = ((o : Int) - (stop % p : Nat)) % (pitch : Int) ∧ ahead < pitch ∧
      ((stop + ahead : Nat) : Int) % pitch = (o : Int) % pitch := by
  have nonneg := Int.emod_nonneg ((o : Int) - (stop % p : Nat)) (Int.natCast_ne_zero.mpr pos.ne')
  have below := Int.emod_lt_of_pos ((o : Int) - (stop % p : Nat)) (Int.natCast_pos.mpr pos)
  obtain ⟨ahead, is⟩ := Int.eq_ofNat_of_zero_le nonneg
  refine ⟨ahead, is.symm, by omega, ?_⟩
  have round : ((stop % p : Nat) : Int) ≡ stop [ZMOD pitch] := by
    exact_mod_cast (Nat.mod_modEq stop p).of_dvd whole
  have on : (ahead : Int) ≡ o - (stop % p : Nat) [ZMOD pitch] := is ▸ Int.mod_modEq _ _
  have sum := round.symm.add on
  rwa [add_sub_cancel] at sum

/-- A legal geometry has whole pitches, none of them empty (R14). -/
theorem pitch_of_ok {g : Geometry} (ok : g.ok = true) : 0 < g.pitch ∧ g.pitch ∣ g.p := by
  have room : g.enter + g.exit < g.pitch ∧ g.p % g.n = 0 := by
    simp only [Geometry.ok, Bool.and_eq_true, decide_eq_true_eq] at ok
    tauto
  exact ⟨Nat.zero_lt_of_lt room.1, Nat.div_dvd_of_dvd (Nat.dvd_of_mod_eq_zero room.2)⟩

/-- Settles O40: the target by `roundedUp_spec` and `way_on`, the root by `isqrt_spec`. -/
theorem parkFiguresAreExact : Obligations.ParkFiguresAreExact := by
  unfold Obligations.ParkFiguresAreExact
  refine ⟨fun s o sound least => ?target, fun n => isqrt_spec⟩
  case target =>
    intro a v pitch
    obtain ⟨ok, -⟩ := sound
    obtain ⟨pos, whole⟩ : 0 < pitch ∧ pitch ∣ s.geometry.p := pitch_of_ok ok
    let stopping := (v * v + 2 * a - 1) / (2 * a)
    obtain ⟨up, down⟩ := roundedUp_spec (v * v) (show 0 < 2 * a by omega)
    obtain ⟨ahead, is, short, centred⟩ := way_on o (s.position.theta + stopping) whole pos
    refine ⟨stopping, ahead, ?_, up, down, short, centred⟩
    have forward : v = s.position.v.toNat := by omega
    have way : ahead = (((o : Int) - ((s.position.theta + stopping) % s.geometry.p : Nat)) % (pitch : Int)).toNat :=
      congrArg Int.toNat is
    rw [way]
    simp only [stopping, forward]
    rfl

/-! ## PARK ADVANCE (R168) -/

section

variable {count : Nat} {s : State} (fits : ¬(count = 0 ∨ s.geometry.n ≤ count))
include fits

theorem ownParkAdvance_otherGrade (other : s.holds.held ≠ .park) : ownParkAdvance count s = s.refuse .wrongState :=
  (if_neg fits).trans (if_pos other)

theorem ownParkAdvance_notParked (held : s.holds.held = .park)
    (moving : s.permit.park.map ParkRecord.state ≠ some .parked) : ownParkAdvance count s = s.refuse .wrongState := by
  refine (if_neg fits).trans ((if_neg (not_not.mpr held)).trans ?_)
  cases park : s.permit.park with
  | none => rfl
  | some r =>
    rw [park] at moving
    exact if_pos fun parked => moving (congrArg some parked)

/-- The last test and the advance, for a record in PARKED (R168). -/
theorem ownParkAdvance_parked {r : ParkRecord} (held : s.holds.held = .park) (park : s.permit.park = some r)
    (parked : r.state = .parked) :
    ownParkAdvance count s =
      if s.sequencers.a.working = true ∨ s.sequencers.b.working = true then s.refuse .pending
      else State.accept (s.advance r count) (optionSigned4 (s.advance r count).remainder) := by
  refine (if_neg fits).trans ((if_neg (not_not.mpr held)).trans ?_)
  rw [park]
  exact if_neg (not_not.mpr parked)

end

/-- A record in STEPPING has its remainder in the reply (R164, R168). -/
theorem advance_remainder (s : State) (r : ParkRecord) (count : Nat) :
    optionSigned4 (s.advance r count).remainder =
      signed4 (r.target + BitVec.ofNat 32 (count * s.geometry.pitch) - s.position.tau).toInt := by
  rw [remainder_eq]
  rfl

/-- Settles O39: PARK ADVANCE by its tests in order, the reply by `advance_remainder`. -/
theorem parkAdvanceMovesTheTarget : Obligations.ParkAdvanceMovesTheTarget := by
  unfold Obligations.ParkAdvanceMovesTheTarget
  intro count s ready
  refine ⟨_, State.request_ready ready _ rfl, ?_⟩
  intro refused bad working
  have berths : (s.sequencers.a.working = true ∨ s.sequencers.b.working = true) ↔ working := by
    rw [sequencer_working_iff, sequencer_working_iff]
    exact (exists_platform (P := fun pf => ∃ v, (s.sequencers.get pf).current = some v ∧ v.state ∈ _)).symm
  refine ⟨fun wrong => refused_of (if_pos wrong), fun fits other => refused_of (ownParkAdvance_otherGrade fits other),
    fun fits held moving => refused_of (ownParkAdvance_notParked fits held moving), fun r park parked held fits => ?_⟩
  have tests := ownParkAdvance_parked fits held park parked
  refine ⟨fun busy => refused_of (tests.trans (if_pos (berths.mpr busy))), fun free => ?_⟩
  exact accepted_of (s := s) ((tests.trans (if_neg (mt berths.mp free))).trans
    (congrArg (State.accept _) (advance_remainder s r count))) rfl

end Sys2Proof.SpeedPermit
end

section
/-! The items of the working configuration (Table 11-1): what an item reads after a write of itself and of another item, which
written value stays as judged, and CONFIG WRITE (R181, R158). -/

namespace Sys2Proof.ConfigItems

open Machine CabinTable StatusLoop HoldGrades

/-! ## The items that have a code -/

/-- What the codes of Table 11-1 name: the thresholds of the classes 1 to 4, and the hold settings of the sources that have
them. -/
def Listed : Item → Prop
  | .threshold _ c => 1 ≤ c ∧ c ≤ 4
  | .quiet c => 1 ≤ c ∧ c ≤ 4
  | .programmed src => src.programmedRange.isSome = true
  | .auto src => src.autoCapable = true
  | _ => True

theorem listed_of_threshold {code : Nat} {i : Item} (h : thresholdOfCode code = some i) : Listed i := by
  unfold thresholdOfCode at h
  dsimp only at h
  split_ifs at h with out
  all_goals
    cases h
    simp only [Listed]
    omega

theorem listed_of_holdItem {code : Nat} {i : Item} (h : holdItemOfCode code = some i) : Listed i := by
  unfold holdItemOfCode at h
  split at h
  · split at h
    · split at h
      next ranged =>
        cases h
        exact ranged
      · cases h
    · cases h
  · split at h
    · split at h
      · split at h
        next capable =>
          cases h
          exact capable
        · cases h
      · cases h
    · cases h

theorem listed_of_ofCode {code : Nat} {i : Item} (h : Item.ofCode code = some i) : Listed i := by
  unfold Item.ofCode at h
  split at h
  rotate_right
  · split at h
    · exact listed_of_threshold h
    · exact listed_of_holdItem h
  all_goals
    cases h
    trivial

/-! ## The geometry items -/

theorem platform_code_of_ofCode {v : Nat} {pf : Platform} (h : Platform.ofCode v = some pf) : Platform.code pf = v := by
  unfold Platform.ofCode at h
  split at h <;> cases h <;> rfl

theorem role_code_of_ofCode {v : Nat} {r : Role} (h : Role.ofCode v = some r) : r.code = v := by
  unfold Role.ofCode at h
  split at h <;> cases h <;> rfl

theorem role_ofCode_code (r : Role) : Role.ofCode r.code = some r := by cases r <;> rfl

theorem withItem_read_same {g g' : Geometry} {i : Item} {v : Nat} (h : g.withItem i v = some g') : g'.read i = v := by
  cases i with
  | n | p | enter | close | exit | beta =>
    cases h
    rfl
  | park =>
    obtain ⟨pf, code, rfl⟩ := Option.map_eq_some_iff.mp h
    exact platform_code_of_ofCode code
  | role pf =>
    obtain ⟨r, code, rfl⟩ := Option.map_eq_some_iff.mp h
    simp only [Geometry.read, PerPlatform.get_set_same]
    exact role_code_of_ofCode code
  | _ => cases h

theorem withItem_read_other {g g' : Geometry} {i j : Item} {v : Nat} (h : g.withItem i v = some g') (other : j ≠ i) :
    g'.read j = g.read j := by
  cases i with
  | n | p | enter | close | exit | beta =>
    cases h
    cases j <;> first | rfl | exact absurd rfl other
  | park =>
    obtain ⟨pf, -, rfl⟩ := Option.map_eq_some_iff.mp h
    cases j <;> first | rfl | exact absurd rfl other
  | role pf =>
    obtain ⟨r, -, rfl⟩ := Option.map_eq_some_iff.mp h
    cases j with
    | role pf' =>
      simp only [Geometry.read, PerPlatform.get_set_other _ _ fun e => other (congrArg Item.role e)]
    | _ => rfl
  | _ => cases h

/-- A geometry item written as it stands. -/
theorem withItem_read (g : Geometry) {i : Item} (h : i.isGeometry = true) : g.withItem i (g.read i) = some g := by
  cases i with
  | n | p | enter | close | exit | beta => rfl
  | park => simp [Geometry.withItem, Geometry.read, platform_ofCode_code]
  | role pf => simp [Geometry.withItem, Geometry.read, role_ofCode_code, set_get_self]
  | _ => cases h

/-- The settings read and write a geometry item by their geometry. -/
theorem settings_geometry (x : Settings) {i : Item} (v : Nat) (h : i.isGeometry = true) :
    x.read i = x.geometry.read i ∧
    x.write i v = { x with geometry := (x.geometry.withItem i v).getD x.geometry } := by
  cases i with
  | n | p | enter | close | exit | beta | park | role => exact ⟨rfl, rfl⟩
  | _ => cases h

theorem withItem_of_judge {x : Settings} {i : Item} {value v : Nat} (geometry : i.isGeometry = true)
    (judged : x.judge i value = some v) : ∃ g, x.geometry.withItem i v = some g := by
  cases i with
  | n | p | enter | close | exit | beta | park | role =>
    simp only [Settings.judge] at judged
    split at judged
    next g named =>
      split at judged
      · cases judged
        exact ⟨g, named⟩
      · cases judged
    · cases judged
  | _ => cases geometry

/-! ## The thresholds, the speeds and the hold settings -/

@[simp] theorem classes_get_set_same (t : ClassTable) (c : Nat) (r : ClassRow) : (t.set c r).get c = r := by
  unfold ClassTable.get ClassTable.set
  split_ifs <;> rfl

theorem classes_get_set_other (t : ClassTable) {c d : Nat} (r : ClassRow) (hc : 1 ≤ c ∧ c ≤ 4) (hd : 1 ≤ d ∧ d ≤ 4)
    (other : d ≠ c) : (t.set c r).get d = t.get d := by
  unfold ClassTable.get ClassTable.set
  split_ifs <;> first | rfl | omega

theorem classes_set_get_self (t : ClassTable) (c : Nat) : t.set c (t.get c) = t := by
  unfold ClassTable.get ClassTable.set
  split_ifs <;> rfl

@[simp] theorem column_withColumn_same (r : ClassRow) (col : Column) (v : Nat) : (r.withColumn col v).column col = v := by
  cases col <;> rfl

theorem column_withColumn_other (r : ClassRow) {col other : Column} (v : Nat) (ne : other ≠ col) :
    (r.withColumn col v).column other = r.column other := by
  cases col <;> cases other <;> first | rfl | exact absurd rfl ne

theorem withColumn_column (r : ClassRow) (col : Column) : r.withColumn col (r.column col) = r := by cases col <;> rfl

@[simp] theorem withColumn_q (r : ClassRow) (col : Column) (v : Nat) : (r.withColumn col v).q = r.q := by cases col <;> rfl

theorem column_withQ (r : ClassRow) (col : Column) (q : Nat) : ({ r with q := q } : ClassRow).column col = r.column col := by
  cases col <;> rfl

theorem perSensor_set_get_self {α : Type} (x : PerSensor α) (k : Sensor) : x.set k (x.get k) = x := by cases k <;> rfl

theorem programmed_get_set_same (x : Programmed) {src : Source} (g : Grade) (ranged : src.programmedRange.isSome = true) :
    (x.set src g).get src = g := by
  cases src with
  | windSensor | platformStopA | platformStopB | loopFault | disagree | planEnd | berthMiss => rfl
  | _ => cases ranged

theorem programmed_set_get_self (x : Programmed) (src : Source) : x.set src (x.get src) = x := by cases src <;> rfl

theorem autoRelease_get_set_same (x : AutoRelease) {src : Source} (on : Bool) (capable : src.autoCapable = true) :
    (x.set src on).get src = on := by
  cases src with
  | wind | windSensor | position | planEnd => rfl
  | _ => cases capable

theorem autoRelease_set_get_self (x : AutoRelease) (src : Source) : x.set src (x.get src) = x := by cases src <;> rfl

/-- R158: the speeds after a write of the absolute maximum. -/
theorem withAbsolute_eq (x : Speeds) (v : Nat) :
    let clip (y : Nat) : Nat := if v < x.absolute then min v y else y
    x.withAbsolute v =
      { absolute := v, limit := clip x.limit, unload := clip x.unload, boarding := clip x.boarding, step := clip x.step
        homing := clip x.homing } := by
  unfold Speeds.withAbsolute
  dsimp only
  split <;> rfl

theorem withAbsolute_absolute (x : Speeds) : x.withAbsolute x.absolute = x := if_neg (Nat.lt_irrefl _)

theorem writePermit_read_same (x : Settings) (k : PermitItem) (v : Nat) : (x.writePermit k v).readPermit k = v := by
  cases k with
  | absolute =>
    simp only [Settings.writePermit, Settings.readPermit, withAbsolute_eq]
  | _ => rfl

theorem writePermit_read_other (x : Settings) {k l : PermitItem} (v : Nat) (ne : l ≠ k) (low : k ≠ .absolute) :
    (x.writePermit k v).readPermit l = x.readPermit l := by
  cases k with
  | absolute => exact absurd rfl low
  | _ => cases l <;> first | rfl | exact absurd rfl ne

theorem writePermit_read (x : Settings) (k : PermitItem) : x.writePermit k (x.readPermit k) = x := by
  cases k with
  | absolute => simp only [Settings.writePermit, Settings.readPermit, withAbsolute_absolute]
  | _ => rfl

/-! ## An item after a write -/

/-- A geometry item written leaves every item but the geometry's. -/
theorem read_setGeometry (x : Settings) (g : Geometry) {j : Item} (h : j.isGeometry = false) :
    ({ x with geometry := g } : Settings).read j = x.read j := by
  cases j with
  | n | p | enter | close | exit | beta | park | role => cases h
  | permit k => cases k <;> rfl
  | _ => rfl

/-- R181: an item reads as stored. -/
theorem read_write_same {x : Settings} {i : Item} {value v : Nat} (listed : Listed i) (judged : x.judge i value = some v) :
    (x.write i v).read i = v := by
  by_cases geometry : i.isGeometry = true
  · obtain ⟨g, named⟩ := withItem_of_judge geometry judged
    obtain ⟨-, write⟩ := settings_geometry x v geometry
    obtain ⟨read, -⟩ := settings_geometry (x.write i v) v geometry
    rw [read, write, named]
    exact withItem_read_same named
  cases i with
  | n | p | enter | close | exit | beta | park | role => exact absurd rfl geometry
  | factor k => exact PerSensor.get_set_same _ _ _
  | threshold col c => simp only [Settings.write, Settings.read, classes_get_set_same, column_withColumn_same]
  | quiet c => simp only [Settings.write, Settings.read, classes_get_set_same]
  | programmed src =>
    have ranged := ranged_of_judge judged
    simp only [Settings.judge] at judged
    split at judged
    · cases judged
      simp only [Settings.write, Settings.read, programmed_get_set_same _ _ ranged, grade_ofValue_value, Option.getD_some]
    · cases judged
  | auto src =>
    simp only [Settings.judge] at judged
    split at judged
    · cases judged
      simp only [Settings.write, Settings.read, autoRelease_get_set_same _ _ listed, decide_eq_true_eq]
      split <;> omega
    · cases judged
  | permit k => exact writePermit_read_same x k v
  | _ => rfl

/-- A write of a speed or of another permit setting leaves what is not one of them. -/
theorem read_writePermit (x : Settings) (k : PermitItem) (v : Nat) {j : Item} (other : ∀ l, j ≠ .permit l) :
    (x.writePermit k v).read j = x.read j := by
  cases j with
  | permit l => exact absurd rfl (other l)
  | _ => cases k <;> rfl

/-- R181: every other item reads as before, but for the speeds after a write of the absolute maximum (R158). -/
theorem read_write_other {x : Settings} {i j : Item} {v : Nat} (listed : Listed i) (listed' : Listed j) (other : j ≠ i)
    (low : i = .permit .absolute → ∀ y, j ≠ .permit y) : (x.write i v).read j = x.read j := by
  by_cases geometry : i.isGeometry = true
  · obtain ⟨-, write⟩ := settings_geometry x v geometry
    rw [write]
    by_cases too : j.isGeometry = true
    · obtain ⟨read, -⟩ := settings_geometry x v too
      obtain ⟨read', -⟩ :=
        settings_geometry { x with geometry := (x.geometry.withItem i v).getD x.geometry } v too
      rw [read, read']
      cases named : x.geometry.withItem i v with
      | none => rfl
      | some g => exact withItem_read_other named other
    · exact read_setGeometry x _ (Bool.not_eq_true _ ▸ too)
  cases i with
  | n | p | enter | close | exit | beta | park | role => exact absurd rfl geometry
  | factor k =>
    cases j with
    | factor l => exact PerSensor.get_set_other _ _ fun e => other (congrArg Item.factor e)
    | _ => rfl
  | threshold col c =>
    cases j with
    | threshold col' d =>
      by_cases same : d = c
      · subst same
        have ne : col' ≠ col := fun e => other (congrArg (Item.threshold · d) e)
        simp only [Settings.write, Settings.read, classes_get_set_same, column_withColumn_other _ _ ne]
      · simp only [Settings.write, Settings.read, classes_get_set_other _ _ listed listed' same]
    | quiet d =>
      by_cases same : d = c
      · subst same
        simp only [Settings.write, Settings.read, classes_get_set_same, withColumn_q]
      · simp only [Settings.write, Settings.read, classes_get_set_other _ _ listed listed' same]
    | _ => rfl
  | quiet c =>
    cases j with
    | threshold col d =>
      by_cases same : d = c
      · subst same
        simp only [Settings.write, Settings.read, classes_get_set_same, column_withQ]
      · simp only [Settings.write, Settings.read, classes_get_set_other _ _ listed listed' same]
    | quiet d =>
      have ne : d ≠ c := fun e => other (congrArg Item.quiet e)
      simp only [Settings.write, Settings.read, classes_get_set_other _ _ listed listed' ne]
    | _ => rfl
  | programmed src =>
    cases j with
    | programmed src' =>
      have ne : src' ≠ src := fun e => other (congrArg Item.programmed e)
      simp only [Settings.write, Settings.read, programmed_get_set_other _ _ ne]
    | _ => rfl
  | auto src =>
    cases j with
    | auto src' =>
      have ne : src' ≠ src := fun e => other (congrArg Item.auto e)
      simp only [Settings.write, Settings.read, autoRelease_get_set_other _ _ ne]
    | _ => rfl
  | permit k =>
    by_cases absolute : k = .absolute
    · subst absolute
      exact read_writePermit x .absolute v (low rfl)
    · cases j with
      | permit l => exact writePermit_read_other x v (fun e => other (congrArg Item.permit e)) absolute
      | _ => exact read_writePermit x k v (by simp)
  | _ => cases j <;> first | rfl | exact absurd rfl other

/-- The value an item holds written again changes no setting. -/
theorem write_read (x : Settings) (i : Item) : x.write i (x.read i) = x := by
  by_cases geometry : i.isGeometry = true
  · obtain ⟨read, write⟩ := settings_geometry x (x.read i) geometry
    rw [write, read, withItem_read _ geometry]
    rfl
  cases i with
  | n | p | enter | close | exit | beta | park | role => exact absurd rfl geometry
  | factor k => simp only [Settings.write, Settings.read, perSensor_set_get_self]
  | threshold col c => simp only [Settings.write, Settings.read, withColumn_column, classes_set_get_self]
  | quiet c => exact congrArg (fun t => { x with classes := t }) (classes_set_get_self x.classes c)
  | programmed src =>
    simp only [Settings.write, Settings.read, grade_ofValue_value, Option.getD_some, programmed_set_get_self]
  | auto src =>
    have same : decide (x.read (.auto src) = 1) = x.auto.get src := by
      cases on : x.auto.get src <;> simp [Settings.read, on]
    have auto : x.auto.set src (x.read (.auto src) = 1) = x.auto :=
      (congrArg (x.auto.set src) same).trans (autoRelease_set_get_self _ _)
    exact congrArg (fun y => { x with auto := y }) auto
  | permit k => exact writePermit_read x k
  | _ => rfl

/-! ## CONFIG WRITE -/

theorem loseGeometry_kept (s : State) : s.loseGeometry.store = s.store ∧ s.loseGeometry.ports = s.ports := by
  have formed (u : State) : Reaction u ((u.formPosition).formProgrammed .disagree false) :=
    u.formPosition_reaction.trans (State.formProgrammed_reaction _ _ _)
  have judged (u : State) : u.judgeAway.store = u.store ∧ u.judgeAway.ports = u.ports :=
    let ⟨_, _, _, _, store, ports⟩ := judgeAway_kept u
    ⟨store, ports⟩
  obtain ⟨store, ports⟩ := judged _
  exact ⟨store.trans (formed _).store, ports.trans (formed _).ports⟩

theorem resize_kept (s : State) (n : Nat) : (s.resize n).store = s.store ∧ (s.resize n).ports = s.ports :=
  have r := State.judgeUnload_reaction _
  ⟨r.store, r.ports⟩

/-- What the owning rule of an item adds leaves the settings and the ports. -/
theorem itemEffect_kept (s : State) (i : Item) : (s.itemEffect i).store = s.store ∧ (s.itemEffect i).ports = s.ports := by
  cases i with
  | n =>
    obtain ⟨store, ports⟩ := resize_kept s s.geometry.n
    obtain ⟨store', ports'⟩ := loseGeometry_kept (s.resize s.geometry.n)
    exact ⟨store'.trans store, ports'.trans ports⟩
  | p => exact loseGeometry_kept s
  | programmed src =>
    have r := s.formProgrammed_reaction src (s.holding src)
    exact ⟨r.store, r.ports⟩
  | auto src =>
    have r := s.changeSource_reaction src fun r => r.switchAuto (s.settings.auto.get src)
    exact ⟨r.store, r.ports⟩
  | _ => exact ⟨rfl, rfl⟩

/-- A write stores its value, also where the item holds it already (R181). -/
theorem storeItem_settings (s : State) (i : Item) (v : Nat) : (s.storeItem i v).settings = s.settings.write i v := by
  unfold State.storeItem
  split
  next same => rw [← same, write_read]
  · exact congrArg Store.working (itemEffect_kept _ i).1

theorem storeItem_ports (s : State) (i : Item) (v : Nat) : (s.storeItem i v).ports = s.ports := by
  unfold State.storeItem
  split
  · rfl
  · exact (itemEffect_kept _ i).2

/-- An item whose owning rule names no further effect. -/
theorem storeItem_plain (s : State) {i : Item} (v : Nat) (n : i ≠ .n) (p : i ≠ .p) (programmed : ∀ src, i ≠ .programmed src)
    (auto : ∀ src, i ≠ .auto src) : s.storeItem i v = s.setSettings (s.settings.write i v) := by
  unfold State.storeItem
  split
  next same =>
    rw [← same, write_read]
    rfl
  · cases i with
    | n => exact absurd rfl n
    | p => exact absurd rfl p
    | programmed src => exact absurd rfl (programmed src)
    | auto src => exact absurd rfl (auto src)
    | _ => rfl

theorem geometryWritable_iff (s : State) :
    s.geometryWritable = true ↔
      s.position.v = 0 ∧ s.holds.held ∈ [.stop, .brake] ∧ s.sequencers.a.current = none ∧
      s.sequencers.b.current = none := by
  have stopped : s.holds.held.atLeast .stop = true ↔ s.holds.held ∈ [.stop, .brake] := by
    cases s.holds.held <;> decide
  simp only [State.geometryWritable, Bool.and_eq_true, decide_eq_true_eq, Option.isNone_iff_eq_none, stopped, and_assoc]

theorem speedsReply_eq (x : Settings) (i : Item) :
    x.speedsReply i = if i = .permit .absolute then
        bytes4 x.speeds.limit ++ bytes4 x.speeds.unload ++ bytes4 x.speeds.boarding ++ bytes4 x.speeds.step ++
          bytes4 x.speeds.homing
      else [] := by
  unfold Settings.speedsReply
  split
  · rfl
  next other => exact (if_neg other).symm

theorem ownConfigWrite_refused {code : Nat} {i : Item} (named : Item.ofCode code = some i) {value : Nat} {s : State}
    {r : Result} (judged : s.judgeWrite i value = .error r) : ownConfigWrite code value s = s.refuse r := by
  unfold ownConfigWrite
  rw [named]
  dsimp only
  rw [judged]

theorem ownConfigWrite_accepted {code : Nat} {i : Item} (named : Item.ofCode code = some i) {value v : Nat} {s : State}
    (judged : s.judgeWrite i value = .ok v) :
    ownConfigWrite code value s =
      State.accept (s.storeItem i v).refresh ((s.storeItem i v).refresh.writeReply code i) := by
  unfold ownConfigWrite
  rw [named]
  dsimp only
  rw [judged]

theorem ownConfigWrite_unknown {code : Nat} (unknown : Item.ofCode code = none) (value : Nat) (s : State) :
    ownConfigWrite code value s = s.refuse .badField := by
  unfold ownConfigWrite
  rw [unknown]

/-- The test of the lock, passed. -/
theorem lockTest_passed {s : State} {i : Item} (free : ¬(s.store.lock = true ∧ i.lockable = true)) :
    ¬(s.store.lock && i.lockable) = true := by rwa [Bool.and_eq_true]

/-- The test of the wheel at rest, passed. -/
theorem restTest_passed {s : State} {i : Item} (rest : i.isGeometry = true → s.geometryWritable = true) :
    ¬(i.isGeometry && !s.geometryWritable) = true := by
  rw [Bool.and_eq_true, Bool.not_eq_true', not_and, Bool.not_eq_false]
  exact rest

section

variable {s : State} {i : Item} (idle : ¬s.store.saving.isSome = true)
include idle

theorem judgeWrite_locked (value : Nat) (locked : s.store.lock = true ∧ i.lockable = true) :
    s.judgeWrite i value = .error .locked := by
  refine (if_neg idle).trans (if_pos ?_)
  rw [locked.1, locked.2]
  rfl

variable (free : ¬(s.store.lock = true ∧ i.lockable = true))
include free

theorem judgeWrite_moving (value : Nat) (geometry : i.isGeometry = true) (moving : ¬s.geometryWritable = true) :
    s.judgeWrite i value = .error .wrongState := by
  have test : (i.isGeometry && !s.geometryWritable) = true := by
    rw [geometry, Bool.eq_false_of_not_eq_true moving]
    rfl
  exact (if_neg idle).trans ((if_neg (lockTest_passed free)).trans (if_pos test))

variable (rest : i.isGeometry = true → s.geometryWritable = true)
include rest

theorem judgeWrite_outOfRange {value : Nat} (judged : s.settings.judge i value = none) :
    s.judgeWrite i value = .error .badField := by
  unfold State.judgeWrite
  rw [if_neg idle, if_neg (lockTest_passed free), if_neg (restTest_passed rest), judged]

theorem judgeWrite_judged {value v : Nat} (judged : s.settings.judge i value = some v) : s.judgeWrite i value = .ok v := by
  unfold State.judgeWrite
  rw [if_neg idle, if_neg (lockTest_passed free), if_neg (restTest_passed rest), judged]

end

/-- The state and the reply of an accepted write: the settings written, no port but its own touched (R181). -/
theorem configWrite_reply {code : Nat} {i : Item} (named : Item.ofCode code = some i) {value v : Nat} {s t : State}
    (judged : s.judgeWrite i value = .ok v) (here : t = State.reply .controlRoom 0x30 (ownConfigWrite code value s)) :
    t = { (s.storeItem i v).refresh with ports := t.ports } ∧ t.settings = s.settings.write i v ∧
    Replied s t .controlRoom 0x30 .accepted (bytes2 code ++ bytes4 (t.settings.read i) ++ t.settings.speedsReply i) := by
  obtain ⟨eq, replied⟩ := accepted_of (s := s) (p := .controlRoom) (kind := 0x30) (ownConfigWrite_accepted named judged)
    (storeItem_ports s i v)
  rw [← here] at eq replied
  have settings : t.settings = (s.storeItem i v).settings := by
    rw [eq]
    rfl
  refine ⟨eq, settings.trans (storeItem_settings s i v), ?_⟩
  rw [settings]
  exact replied

/-- Settles O32: the tests of CONFIG WRITE in order; accepted, the settings are those of `Settings.write`, of which
`read_write_same` and `read_write_other` say what each item reads. -/
theorem configWriteStoresTheItem : Obligations.ConfigWriteStoresTheItem := by
  unfold Obligations.ConfigWriteStoresTheItem
  intro code value s ready formed
  refine ⟨_, State.request_ready ready _ rfl, fun unknown => refused_of (ownConfigWrite_unknown unknown value s),
    fun i named => ?_⟩
  intro writable
  have writable_iff : s.geometryWritable = true ↔ writable := geometryWritable_iff s
  have refused {r : Result} (judged : s.judgeWrite i value = .error r) :
      RepliedOnly s (State.reply .controlRoom 0x30 (ownConfigWrite code value s)) .controlRoom 0x30 r [] :=
    refused_of (ownConfigWrite_refused named judged)
  split
  next busy => exact refused (if_pos busy)
  next idle =>
    split
    next locked => exact refused (judgeWrite_locked idle value locked)
    next free =>
      refine ⟨fun geometry moving => refused (judgeWrite_moving idle free value geometry (mt writable_iff.mp moving)),
        fun rest => ?_⟩
      have rest : i.isGeometry = true → s.geometryWritable = true := fun geometry => writable_iff.mpr (rest geometry)
      refine ⟨fun judged => refused (judgeWrite_outOfRange idle free rest judged), fun x judged => ?_⟩
      have listed := listed_of_ofCode named
      have same : (s.settings.write i x).read i = x := read_write_same listed judged
      obtain ⟨eq, settings, replied⟩ := configWrite_reply named (judgeWrite_judged idle free rest judged) rfl
      generalize State.reply .controlRoom 0x30 (ownConfigWrite code value s) = t at eq settings replied ⊢
      rw [speedsReply_eq, settings, same] at replied
      rw [settings]
      refine ⟨same, fun k j code' other low => read_write_other listed (listed_of_ofCode code') other low, replied, ?_, ?_, ?_⟩
      · rintro rfl
        exact ⟨withAbsolute_eq s.settings.speeds x, rfl, rfl⟩
      · intro holds
        have kept : s.storeItem i x = s := if_pos holds
        rw [kept, show s.refresh = s from formed] at eq
        exact eq
      · intro n p programmed auto
        rw [storeItem_plain s x n p programmed auto] at eq
        exact eq

end Sys2Proof.ConfigItems
end

section
/-! The edge that verifies the position (R6, R167) in a state whose position is unverified with a point still crossed. -/

namespace Sys2Proof.SpeedPermit

open Machine CabinTable StatusLoop

theorem judgeAway_position (s : State) : s.judgeAway.position = s.position :=
  let ⟨_, position, _⟩ := judgeAway_kept s
  position

theorem movedTests_position (s : State) (moved : Bool) : (s.movedTests moved).position = s.position := by
  cases moved with
  | false => rfl
  | true =>
    rw [State.movedTests_true]
    unfold State.overshootTest
    split
    · exact (State.deliverEvent_reaction _ _ _).position.trans s.parkedTest_reaction.position
    · exact s.parkedTest_reaction.position

theorem retarget_position (s : State) : s.retarget.position = s.position := by
  unfold State.retarget
  split
  · rfl
  · split <;> rfl

/-- The position after the verifying edge, its away set judged last (R6). -/
theorem verifyEdge_position (s : State) :
    s.verifyEdge.position = { s.position with theta := 0, verified := true, stillCrossed := [] } := by
  refine (judgeAway_position _).trans ((movedTests_position _ _).trans ?_)
  rw [(State.formPosition_reaction _).position, retarget_position, (State.logPlain_reaction _ _ _).position]

/-- A part after reset, its wheel last run forward, whose unverified position holds a point still crossed. -/
def unverifiedCrossed : State :=
  { State.reset with
    position := { State.reset.position with
      lastDirection := .forward, stillCrossed := [{ platform := .a, cabin := 0, point := .close, theta := 200 }] } }

/-- Refutes O60: its last clause takes any running state, and has the verifying edge write θ and the verified flag alone, so
that points still crossed stay crossed; the edge empties them (log 23). `WheelSound`, under which an unverified position has
none, is no hypothesis there, and `unverifiedCrossed` has one. -/
theorem not_parkRecordFollowsItsTests : ¬ Obligations.ParkRecordFollowsItsTests := by
  unfold Obligations.ParkRecordFollowsItsTests
  intro statement
  obtain ⟨-, -, -, -, edges⟩ := statement
  obtain ⟨-, verifying⟩ := edges unverifiedCrossed rfl
  obtain ⟨t, run, unmoved, -⟩ := verifying rfl rfl
  have stated := unmoved nofun
  have verified : unverifiedCrossed.takenEdge = unverifiedCrossed.verifyEdge := if_neg Bool.false_ne_true
  have run' := exec_indexEdge (s := unverifiedCrossed) rfl rfl
  rw [verified, run] at run'
  obtain rfl := Host.Outcome.next.inj run'
  have emptied : unverifiedCrossed.verifyEdge.refresh.position.stillCrossed = [] :=
    congrArg Position.stillCrossed (verifyEdge_position unverifiedCrossed)
  rw [stated, State.refresh_position, judgeAway_position, (State.formPosition_reaction _).position,
    (State.append_reaction _ _).position] at emptied
  exact absurd emptied (List.cons_ne_nil _ _)

end Sys2Proof.SpeedPermit
end

section
/-! The byte receiver of a port (R173, R174): what it does with the bytes of a frame, what it discards, and the end of a
reply. -/

namespace Sys2Proof.LinkPorts

open Machine

/-! ## Writing a port -/

theorem perPort_set_get {α : Type} (x : PerPort α) (p : Port) : x.set p (x.get p) = x := by cases p <;> rfl

theorem perPort_set_set {α : Type} (x : PerPort α) (p : Port) (v w : α) : (x.set p v).set p w = x.set p w := by
  cases p <;> rfl

/-- A port written with what it holds. -/
theorem setPort_held {s : State} {p : Port} {x : PortState} (h : s.ports.states.get p = x) : s.setPort p x = s := by
  subst h
  unfold State.setPort
  rw [perPort_set_get]

@[simp] theorem setPort_setPort (s : State) (p : Port) (x y : PortState) :
    (s.setPort p x).setPort p y = s.setPort p y := by
  unfold State.setPort
  rw [perPort_set_set]

@[simp] theorem setPort_get (s : State) (p : Port) (x : PortState) : (s.setPort p x).ports.states.get p = x :=
  PerPort.get_set_same _ _ _

theorem inReply_eq_true_iff {x : PortState} : inReply x = true ↔ ∃ r, x = .reply r := by
  cases x <;> simp [inReply]

/-! ## One byte (R173) -/

theorem receive_sync {s : State} {p : Port} (h : s.ports.states.get p = .hunt) :
    s.receive p 0xA5#8 = s.setPort p (.head none) := by simp [State.receive, h]

theorem receive_kind (s : State) (p : Port) (kind : Byte) :
    (s.setPort p (.head none)).receive p kind = s.setPort p (.head (some kind)) := by simp [State.receive]

theorem receive_length (s : State) (p : Port) (kind length : Byte) :
    (s.setPort p (.head (some kind))).receive p length =
      s.setPort p (if 64 < length.toNat then .hunt else .body kind length []) := by
  by_cases long : 64 < length.toNat <;> simp [State.receive, long]

theorem endFrame_setPort (s : State) (p : Port) (x : PortState) (kind length : Byte) (got : List Byte) :
    (s.setPort p x).endFrame p kind length got = s.endFrame p kind length got := by simp [State.endFrame]

/-- A byte of a frame's body: the frame ends with the last byte of its CRC. -/
theorem receive_body (s : State) (p : Port) (kind length : Byte) (got : List Byte) (byte : Byte) :
    (s.setPort p (.body kind length got)).receive p byte =
      if got.length + 1 = length.toNat + 2 then s.endFrame p kind length (got ++ [byte])
      else s.setPort p (.body kind length (got ++ [byte])) := by
  simp [State.receive, endFrame_setPort]

theorem receive_inReply {s : State} {p : Port} (h : inReply (s.ports.states.get p) = true) (byte : Byte) :
    s.receive p byte = s := by
  obtain ⟨r, held⟩ := inReply_eq_true_iff.mp h
  simp [State.receive, held]

/-! ## The bytes of a frame -/

theorem receiveAll_cons (s : State) (p : Port) (byte : Byte) (rest : List Byte) :
    s.receiveAll p (byte :: rest) = (s.receive p byte).receiveAll p rest := rfl

theorem receiveAll_append (s : State) (p : Port) (xs ys : List Byte) :
    s.receiveAll p (xs ++ ys) = (s.receiveAll p xs).receiveAll p ys := List.foldl_append

/-- All bytes that arrive in REPLY are discarded (R174). -/
theorem receiveAll_inReply {s : State} {p : Port} (h : inReply (s.ports.states.get p) = true) (bytes : List Byte) :
    s.receiveAll p bytes = s := by
  induction bytes with
  | nil => rfl
  | cons byte rest ih => rw [receiveAll_cons, receive_inReply h, ih]

/-- The sync byte, the kind and a length above 64 (R173). -/
theorem receiveAll_long {s : State} {p : Port} (h : s.ports.states.get p = .hunt) (kind : Byte) {length : Byte}
    (long : 64 < length.toNat) : s.receiveAll p [0xA5#8, kind, length] = s := by
  simp only [receiveAll_cons, receive_sync h, receive_kind, receive_length, if_pos long]
  exact setPort_held h

/-- The sync byte, the kind and a length that a frame may have. -/
theorem receiveAll_head {s : State} {p : Port} (h : s.ports.states.get p = .hunt) (kind : Byte) {length : Byte}
    (short : length.toNat ≤ 64) (rest : List Byte) :
    s.receiveAll p (0xA5#8 :: kind :: length :: rest) = (s.setPort p (.body kind length [])).receiveAll p rest := by
  simp only [receiveAll_cons, receive_sync h, receive_kind, receive_length, if_neg (Nat.not_lt.mpr short)]

/-- Bytes of a body that do not yet end its frame. -/
theorem receiveAll_body (s : State) (p : Port) (kind length : Byte) (got bytes : List Byte)
    (room : got.length + bytes.length < length.toNat + 2) :
    (s.setPort p (.body kind length got)).receiveAll p bytes = s.setPort p (.body kind length (got ++ bytes)) := by
  induction bytes generalizing got with
  | nil => rw [List.append_nil]; rfl
  | cons byte rest ih =>
    rw [List.length_cons] at room
    rw [receiveAll_cons, receive_body, if_neg (by omega), ih _ (by rw [List.length_append, List.length_singleton]; omega),
      List.append_assoc, List.singleton_append]

/-- A frame received whole, its CRC right or wrong. -/
theorem receiveAll_frame {s : State} {p : Port} (h : s.ports.states.get p = .hunt) (kind : Byte) {length : Byte}
    (short : length.toNat ≤ 64) {got : List Byte} (whole : got.length = length.toNat + 2) :
    s.receiveAll p (0xA5#8 :: kind :: length :: got) =
      if got.drop length.toNat = crcBytes (kind :: length :: got.take length.toNat) then
        s.route p kind (got.take length.toNat)
      else s := by
  rw [receiveAll_head h kind short]
  obtain rfl | ⟨init, last, rfl⟩ := got.eq_nil_or_concat'
  · exact absurd whole (by simp)
  · rw [List.length_append, List.length_singleton] at whole
    rw [receiveAll_append, receiveAll_body _ _ _ _ _ _ (by simp; omega), receiveAll_cons, receive_body, List.nil_append,
      if_pos whole]
    simp only [State.endFrame, setPort_held h]
    rfl

/-! ## Gaps and framing errors -/

theorem discardFrame_inReply {s : State} {p : Port} (h : inReply (s.ports.states.get p) = true) :
    s.discardFrame p = s := by
  obtain ⟨r, held⟩ := inReply_eq_true_iff.mp h
  simp [State.discardFrame, held]

/-- Out of REPLY a discard leaves the port in HUNT. -/
theorem discardFrame_ready {s : State} {p : Port} (h : inReply (s.ports.states.get p) = false) :
    s.discardFrame p = s.setPort p .hunt := by
  unfold State.discardFrame
  split
  · next held => exact (setPort_held held).symm
  · rfl
  · rfl
  · next r held => rw [held] at h; cases h

/-- A frame cut short changes nothing (R173). -/
theorem discardFrame_cut {s : State} {p : Port} (h : s.ports.states.get p = .hunt) {kind length : Byte}
    {got bytes : List Byte} (short : length.toNat ≤ 64) (cut : got.length < length.toNat + 2)
    (received : bytes = [] ∨ bytes = [0xA5#8] ∨ bytes = [0xA5#8, kind] ∨ bytes = 0xA5#8 :: kind :: length :: got) :
    (s.receiveAll p bytes).discardFrame p = s := by
  have discarded (x : PortState) (out : inReply x = false) : (s.setPort p x).discardFrame p = s := by
    rw [discardFrame_ready (by rw [setPort_get]; exact out), setPort_setPort, setPort_held h]
  obtain rfl | rfl | rfl | rfl := received
  · exact (discardFrame_ready (s := s) (by rw [h]; rfl)).trans (setPort_held h)
  · rw [receiveAll_cons, receive_sync h]
    exact discarded _ rfl
  · rw [receiveAll_cons, receive_sync h, receiveAll_cons, receive_kind]
    exact discarded _ rfl
  · rw [receiveAll_head h kind short, receiveAll_body _ _ _ _ _ _ (by simpa using cut)]
    exact discarded _ rfl

/-! ## The end of a reply -/

/-- The end of a reply, in a running part (R174, R188). -/
theorem endReply_reply {s : State} {p : Port} {r : Reply} (running : s.phase = .running)
    (h : s.ports.states.get p = .reply r) :
    s.endReply p =
      { s with phase := if r.kind = 0x4F ∧ r.result = .accepted then .restartDue else .running
               ports := { s.ports with states := s.ports.states.set p .hunt } } := by
  have restarts : r.restarts = true ↔ r.kind = 0x4F ∧ r.result = .accepted := by simp [Reply.restarts]
  simp only [State.endReply, h, restarts]
  split
  · rfl
  · rw [← running]; rfl

theorem endReply_ready {s : State} {p : Port} (h : inReply (s.ports.states.get p) = false) : s.endReply p = s := by
  unfold State.endReply
  split
  · next held => rw [held] at h; cases h
  · rfl

/-- Settles O7: a frame received whole is that of `receiveAll_frame`, one cut short `discardFrame_cut`, and the end of a
reply `endReply_reply`. -/
theorem portsReturnToHunt : Obligations.PortsReturnToHunt := by
  unfold Obligations.PortsReturnToHunt
  refine ⟨fun p s running => ⟨fun hunt => ⟨?wrongCrc, ?long, ?cut⟩, fun ready => ?gap, fun busy bytes => ?reply⟩,
    fun p s running => ⟨fun r held => ?ends, fun ready => ?other⟩⟩
  case wrongCrc =>
    intro kind length got short whole wrong
    refine (State.running_of running _).trans ?_
    rw [receiveAll_frame hunt kind short whole, if_neg wrong]
  case long =>
    intro kind length long
    refine (State.running_of running _).trans ?_
    rw [receiveAll_long hunt kind long]
  case cut =>
    intro kind length got bytes short cut received
    have unchanged : s.running (fun s => (s.receiveAll p bytes).discardFrame p) = .next s := by
      rw [State.running_of running, discardFrame_cut hunt short cut received]
    exact ⟨unchanged, unchanged⟩
  case gap =>
    have discarded : s.running (fun s => (s.receiveAll p []).discardFrame p) = .next (s.setPort p .hunt) :=
      (State.running_of running _).trans (congrArg _ (discardFrame_ready ready))
    exact ⟨discarded, discarded⟩
  case reply =>
    have lost : s.running (fun s => (s.receiveAll p bytes).discardFrame p) = .next s := by
      rw [State.running_of running, receiveAll_inReply busy, discardFrame_inReply busy]
    refine ⟨(State.running_of running _).trans ?_, lost, lost⟩
    rw [receiveAll_inReply busy]
  case ends => exact (State.running_of running _).trans (congrArg _ (endReply_reply running held))
  case other => exact (State.running_of running _).trans (congrArg _ (endReply_ready ready))

end Sys2Proof.LinkPorts
end

section
/-! The request rows and their frames (R175, Table 10-4): which owner a row's kind and payload name, which payloads a row
spells, and the tests of the port (R174, R175). -/

namespace Sys2Proof.LinkPorts

open Machine

/-! ## Fields of a payload, sent and read -/

theorem mod_of_fits1 {x : Nat} (h : fits1 x = true) : x % 256 = x := Nat.mod_eq_of_lt (of_decide_eq_true h)

theorem toNat_of_fits1 {x : Nat} (h : fits1 x = true) : (BitVec.ofNat 8 x).toNat = x :=
  (BitVec.toNat_ofNat x 8).trans (mod_of_fits1 h)

theorem field2_of_fits2 {x : Nat} (h : fits2 x = true) : field2 (BitVec.ofNat 8 (x / 256)) (BitVec.ofNat 8 x) = x := by
  have bound : x < 65536 := of_decide_eq_true h
  simp only [field2, BitVec.toNat_ofNat]
  omega

theorem field4_of_fits4 {x : Nat} (h : fits4 x = true) :
    field4 (BitVec.ofNat 8 (x / 16777216)) (BitVec.ofNat 8 (x / 65536)) (BitVec.ofNat 8 (x / 256)) (BitVec.ofNat 8 x) =
      x := by
  have bound : x < 4294967296 := of_decide_eq_true h
  simp only [field4, field2, BitVec.toNat_ofNat]
  omega

theorem fits1_toNat (x : Byte) : fits1 x.toNat = true := decide_eq_true x.isLt

theorem field2_lt (x y : Byte) : field2 x y < 65536 := by
  have hx := x.isLt
  have hy := y.isLt
  unfold field2
  omega

theorem fits2_field2 (x y : Byte) : fits2 (field2 x y) = true := decide_eq_true (field2_lt x y)

theorem fits4_field4 (a b c d : Byte) : fits4 (field4 a b c d) = true := by
  have high := field2_lt a b
  have low := field2_lt c d
  refine decide_eq_true ?_
  unfold field4
  omega

theorem bytes1_toNat (x : Byte) : bytes1 x.toNat = [x] := by simp [bytes1]

theorem ofNat_eq_of_mod {n : Nat} {x : Byte} (h : n % 256 = x.toNat) : BitVec.ofNat 8 n = x :=
  BitVec.eq_of_toNat_eq ((BitVec.toNat_ofNat n 8).trans h)

theorem bytes2_field2 (x y : Byte) : bytes2 (field2 x y) = [x, y] := by
  have hx := x.isLt
  have hy := y.isLt
  have high : BitVec.ofNat 8 (field2 x y / 256) = x := ofNat_eq_of_mod (by unfold field2; omega)
  have low : BitVec.ofNat 8 (field2 x y) = y := ofNat_eq_of_mod (by unfold field2; omega)
  rw [bytes2, high, low]

theorem bytes4_eq (x : Nat) : bytes4 x = bytes2 (x / 65536) ++ bytes2 x := by
  simp [bytes4, bytes2, Nat.div_div_eq_div_mul]

/-- Bytes beyond the low two of a 2-byte field are not sent. -/
theorem bytes2_add (m n : Nat) : bytes2 (65536 * m + n) = bytes2 n := by
  have high : BitVec.ofNat 8 ((65536 * m + n) / 256) = BitVec.ofNat 8 (n / 256) :=
    BitVec.eq_of_toNat_eq (by simp only [BitVec.toNat_ofNat]; omega)
  have low : BitVec.ofNat 8 (65536 * m + n) = BitVec.ofNat 8 n :=
    BitVec.eq_of_toNat_eq (by simp only [BitVec.toNat_ofNat]; omega)
  rw [bytes2, high, low, bytes2]

theorem bytes4_field4 (a b c d : Byte) : bytes4 (field4 a b c d) = [a, b, c, d] := by
  have low := field2_lt c d
  have high : field4 a b c d / 65536 = field2 a b := by unfold field4; omega
  rw [bytes4_eq, high, field4, bytes2_add, bytes2_field2, bytes2_field2, List.cons_append, List.singleton_append]

/-! ## Party records -/

/-- A party record whose fields fit their widths. -/
def recordFits (r : Nat × Nat) : Bool := fits2 r.1 && fits1 r.2

theorem recordFields_records {xs : List (Nat × Nat)} (fits : xs.all recordFits = true) :
    recordFields (xs.flatMap recordBytes) = some xs := by
  induction xs with
  | nil => rfl
  | cons x rest ih =>
    rw [List.all_cons, Bool.and_eq_true, recordFits, Bool.and_eq_true] at fits
    obtain ⟨⟨tag, count⟩, others⟩ := fits
    rw [List.flatMap_cons]
    show (recordFields (rest.flatMap recordBytes)).map _ = _
    rw [ih others, Option.map_some, field2_of_fits2 tag, toNat_of_fits1 count]

/-- The bytes read as party records are those records', each of three bytes. -/
theorem records_of_recordFields {bytes : List Byte} {xs : List (Nat × Nat)} (read : recordFields bytes = some xs) :
    xs.flatMap recordBytes = bytes ∧ xs.all recordFits = true ∧ bytes.length = 3 * xs.length := by
  induction bytes using recordFields.induct generalizing xs with
  | case1 =>
    obtain rfl := Option.some.inj read
    exact ⟨rfl, rfl, rfl⟩
  | case2 hi lo count rest ih =>
    obtain ⟨ys, others, rfl⟩ := Option.map_eq_some_iff.mp read
    obtain ⟨bytes, fits, length⟩ := ih others
    refine ⟨?_, ?_, ?_⟩
    · rw [List.flatMap_cons, bytes, recordBytes, bytes2_field2, bytes1_toNat]; rfl
    · rw [List.all_cons, fits, recordFits, fits2_field2, fits1_toNat]; rfl
    · simp only [List.length_cons, length]; omega
  | case3 => simp [recordFields] at read

/-! ## From a row to its owner -/

/-- A request row is the request of its frame's kind, taken to an owner; where its fields fit, the routing by bytes takes
it to the same owner. -/
def RowOwned (i : Instr) (f : RequestFrame) : Prop :=
  ∃ own : State → Answer, (∀ s : State, exec i s = s.request f.port f.kind.toNat own) ∧
    (i.wf = true → ownerOf f.port f.kind.toNat f.payload = some own)

/-- The owner of a party declaration, read back from its bytes. -/
theorem declareOwner_records {cabin count : Nat} {xs : List (Nat × Nat)} (hc : fits1 cabin = true)
    (hn : fits1 count = true) (few : xs.length ≤ 20) (fits : xs.all recordFits = true) :
    declareOwner (bytes1 cabin ++ bytes1 count ++ bytes1 xs.length ++ xs.flatMap recordBytes) =
      some (ownOccupancyDeclare cabin count xs) := by
  have length : (BitVec.ofNat 8 xs.length).toNat = xs.length := toNat_of_fits1 (decide_eq_true (by omega))
  show (match recordFields (xs.flatMap recordBytes) with
    | some ys => if ys.length = (BitVec.ofNat 8 xs.length).toNat then
        some (ownOccupancyDeclare (BitVec.ofNat 8 cabin).toNat (BitVec.ofNat 8 count).toNat ys) else none
    | none => none) = _
  rw [recordFields_records fits, length]
  simp only [if_true, toNat_of_fits1 hc, toNat_of_fits1 hn]

theorem rowOwned_of_requestFrame {i : Instr} {f : RequestFrame} (h : requestFrame i = some f) : RowOwned i f := by
  cases i
  case statusQuery | configSave | configLock | planSwap | restart | listClear =>
    obtain rfl := Option.some.inj h
    exact ⟨_, fun _ => rfl, fun _ => rfl⟩
  case cabinRead | berthQuery | queueQuery | dispatch | platformStop | operatorHold | holdRelease | holdRead |
      parkAdvance | eventTake =>
    obtain rfl := Option.some.inj h
    refine ⟨_, fun _ => rfl, fun wf => ?_⟩
    rw [Instr.wf] at wf
    simp [ownerOf, oneByteOwner, bytes1, mod_of_fits1 wf]
  case partyCancel | alightCount | cabinHold | configRead | cabinService | planRead =>
    obtain rfl := Option.some.inj h
    refine ⟨_, fun _ => rfl, fun wf => ?_⟩
    simp only [Instr.wf, Bool.and_eq_true] at wf
    simp [ownerOf, twoByteOwner, bytes1, bytes2, mod_of_fits1, field2_of_fits2, wf]
  case driveReport | partyAdd | boardCount | configWrite | cabinWrite =>
    obtain rfl := Option.some.inj h
    refine ⟨_, fun _ => rfl, fun wf => ?_⟩
    simp only [Instr.wf, Bool.and_eq_true] at wf
    simp [ownerOf, longOwner, bytes1, bytes2, bytes4, mod_of_fits1, field2_of_fits2, field4_of_fits4, wf]
  case entrySet | entryRemove | settings =>
    obtain rfl := Option.some.inj h
    refine ⟨_, fun _ => rfl, fun wf => ?_⟩
    simp only [Instr.wf, Bool.and_eq_true] at wf
    simp [ownerOf, planEditOwner, bytes1, bytes2, mod_of_fits1, field2_of_fits2, wf]
  case occupancyDeclare p cabin count records =>
    obtain rfl := Option.some.inj h
    refine ⟨_, fun _ => rfl, fun wf => ?_⟩
    simp only [Instr.wf, Bool.and_eq_true, decide_eq_true_eq] at wf
    obtain ⟨⟨⟨hc, hn⟩, few⟩, fits⟩ := wf
    exact declareOwner_records hc hn few fits
  all_goals cases h

/-! ## From a payload to its row -/

/-- Some row of the table spells this kind and payload. -/
def Spelled (kind : Nat) (payload : List Byte) : Prop :=
  ∃ (i : Instr) (f : RequestFrame), i.wf = true ∧ requestFrame i = some f ∧ f.kind.toNat = kind ∧ f.payload = payload

theorem spelled_of {i : Instr} {p : Port} {k : Byte} {sent payload : List Byte} (wf : i.wf = true)
    (frame : requestFrame i = some ⟨p, k, sent⟩) (bytes : sent = payload) : Spelled k.toNat payload :=
  ⟨i, _, wf, frame, rfl, bytes⟩

theorem spelled_empty {kind : Nat} {own : State → Answer} (h : emptyOwner kind = some own) : Spelled kind [] := by
  unfold emptyOwner at h
  split at h
  · exact spelled_of (i := .statusQuery .drive) rfl rfl rfl
  · exact spelled_of (i := .configSave .drive) rfl rfl rfl
  · exact spelled_of (i := .configLock .drive) rfl rfl rfl
  · exact spelled_of (i := .planSwap .drive) rfl rfl rfl
  · exact spelled_of (i := .restart .drive) rfl rfl rfl
  · cases h

theorem spelled_oneByte {p : Port} {kind : Nat} {x : Byte} {own : State → Answer}
    (h : oneByteOwner p kind x.toNat = some own) : Spelled kind [x] := by
  have fits := fits1_toNat x
  have sent := bytes1_toNat x
  unfold oneByteOwner at h
  split at h
  · exact spelled_of (i := .cabinRead p x.toNat) fits rfl sent
  · exact spelled_of (i := .berthQuery p x.toNat) fits rfl sent
  · exact spelled_of (i := .queueQuery p x.toNat) fits rfl sent
  · exact spelled_of (i := .dispatch p x.toNat) fits rfl sent
  · exact spelled_of (i := .platformStop p x.toNat) fits rfl sent
  · exact spelled_of (i := .operatorHold p x.toNat) fits rfl sent
  · exact spelled_of (i := .holdRelease p x.toNat) fits rfl sent
  · exact spelled_of (i := .holdRead p x.toNat) fits rfl sent
  · exact spelled_of (i := .parkAdvance p x.toNat) fits rfl sent
  · exact spelled_of (i := .eventTake p x.toNat) fits rfl sent
  · cases h

theorem spelled_twoByte {p : Port} {kind : Nat} {x y : Byte} {own : State → Answer}
    (h : twoByteOwner p kind x y = some own) : Spelled kind [x, y] := by
  have fits : (fits1 x.toNat && fits1 y.toNat) = true := by rw [fits1_toNat, fits1_toNat]; rfl
  have sent : bytes1 x.toNat ++ bytes1 y.toNat = [x, y] := by rw [bytes1_toNat, bytes1_toNat]; rfl
  unfold twoByteOwner at h
  split at h
  · exact spelled_of (i := .partyCancel p (field2 x y)) (fits2_field2 x y) rfl (bytes2_field2 x y)
  · exact spelled_of (i := .alightCount p x.toNat y.toNat) fits rfl sent
  · exact spelled_of (i := .cabinHold p x.toNat y.toNat) fits rfl sent
  · exact spelled_of (i := .configRead p (field2 x y)) (fits2_field2 x y) rfl (bytes2_field2 x y)
  · exact spelled_of (i := .cabinService p x.toNat y.toNat) fits rfl sent
  · exact spelled_of (i := .planRead p x.toNat y.toNat) fits rfl sent
  · cases h

theorem spelled_long {p : Port} {kind : Nat} {payload : List Byte} {own : State → Answer}
    (h : longOwner p kind payload = some own) : Spelled kind payload := by
  unfold longOwner at h
  split at h
  · next a b c d e f =>
    exact spelled_of (i := .driveReport p (field2 a b) (field2 c d) e.toNat f.toNat)
      (by simp [Instr.wf, fits1_toNat, fits2_field2]) rfl (by simp [bytes1_toNat, bytes2_field2])
  · next a b c d e =>
    exact spelled_of (i := .partyAdd p (field2 a b) c.toNat d.toNat e.toNat)
      (by simp [Instr.wf, fits1_toNat, fits2_field2]) rfl (by simp [bytes1_toNat, bytes2_field2])
  · next a b c d =>
    exact spelled_of (i := .boardCount p a.toNat (field2 b c) d.toNat)
      (by simp [Instr.wf, fits1_toNat, fits2_field2]) rfl (by simp [bytes1_toNat, bytes2_field2])
  · next a b c d e f =>
    exact spelled_of (i := .configWrite p (field2 a b) (field4 c d e f))
      (by simp [Instr.wf, fits2_field2, fits4_field4]) rfl (by simp [bytes2_field2, bytes4_field4])
  · next a b c d =>
    exact spelled_of (i := .cabinWrite p a.toNat b.toNat c.toNat d.toNat)
      (by simp [Instr.wf, fits1_toNat]) rfl (by simp [bytes1_toNat])
  · cases h

/-- A PLAN EDIT whose length is the one its operation calls for is a row's, or has an operation that R108 refuses. -/
theorem spelled_planEdit {payload : List Byte} {own : State → Answer} (h : planEditOwner payload = some own) :
    Spelled 0x38 payload ∨ own = fun s => s.refuse .badField := by
  unfold planEditOwner at h
  split at h
  · next op =>
    split at h
    · next isClear =>
      exact .inl (spelled_of (i := .listClear .drive) rfl rfl (by rw [← isClear, bytes1_toNat]))
    · split at h
      · cases h
      · exact .inr (Option.some.inj h).symm
  · next op cabin platform =>
    split at h
    · next isRemove =>
      exact .inl (spelled_of (i := .entryRemove .drive cabin.toNat platform.toNat)
        (by simp [Instr.wf, fits1_toNat]) rfl (by simp [← isRemove, bytes1_toNat]))
    · cases h
  · next op a b c d e =>
    split at h
    · next isSet =>
      exact .inl (spelled_of (i := .entrySet .drive a.toNat b.toNat c.toNat (field2 d e))
        (by simp [Instr.wf, fits1_toNat, fits2_field2]) rfl (by simp [← isSet, bytes1_toNat, bytes2_field2]))
    · split at h
      · next isSettings =>
        exact .inl (spelled_of (i := .settings .drive a.toNat b.toNat (field2 c d) e.toNat)
          (by simp [Instr.wf, fits1_toNat, fits2_field2]) rfl (by simp [← isSettings, bytes1_toNat, bytes2_field2]))
      · cases h
  · cases h

/-- A whole party declaration within the 64 bytes of a payload has at most 20 records. -/
theorem spelled_declare {payload : List Byte} {own : State → Answer} (h : declareOwner payload = some own)
    (short : payload.length ≤ 64) : Spelled 0x36 payload := by
  unfold declareOwner at h
  split at h
  · next cabin count k rest =>
    split at h
    · next xs read =>
      split at h
      · next counted =>
        obtain ⟨sent, fits, length⟩ := records_of_recordFields read
        have few : xs.length ≤ 20 := by simp only [List.length_cons, length] at short; omega
        refine spelled_of (i := .occupancyDeclare .drive cabin.toNat count.toNat xs) ?_ rfl ?_
        · simp only [Instr.wf, fits1_toNat, few, decide_true, Bool.true_and]
          exact fits
        · rw [sent, counted, bytes1_toNat, bytes1_toNat, bytes1_toNat]; rfl
      · cases h
    · cases h
  · cases h

/-- What the routing by bytes takes to an owner is a row's frame, or a PLAN EDIT that R108 refuses. -/
theorem spelled_of_ownerOf {p : Port} {kind : Nat} {payload : List Byte} {own : State → Answer}
    (h : ownerOf p kind payload = some own) (short : payload.length ≤ 64) :
    Spelled kind payload ∨ own = fun s => s.refuse .badField := by
  unfold ownerOf at h
  split at h
  · next declare => exact .inl (declare ▸ spelled_declare h short)
  split at h
  · next edit => exact edit ▸ spelled_planEdit h
  split at h
  · exact .inl (spelled_empty h)
  · exact .inl (spelled_oneByte h)
  · exact .inl (spelled_twoByte h)
  · exact .inl (spelled_long h)

/-! ## The tests of the port (R174, R175) -/

/-- The kinds open on a port. -/
def openKinds : Port → List Nat
  | .drive => [0x01, 0x02, 0x10]
  | .platformA | .platformB => [0x01, 0x02, 0x20, 0x21, 0x22, 0x23, 0x24, 0x25, 0x26, 0x27, 0x28]
  | .controlRoom =>
    [0x01, 0x02, 0x23, 0x27, 0x30, 0x31, 0x32, 0x33, 0x34, 0x35, 0x36, 0x38, 0x39, 0x3A, 0x40, 0x41, 0x42, 0x43, 0x48,
      0x4F]

theorem kindOpen_of_lt {kind : Nat} (h : 0x4F < kind) (p : Port) : kindOpen kind p = false := by
  obtain ⟨k, rfl⟩ := Nat.exists_eq_add_of_le h
  rw [Nat.add_comm]
  rfl

theorem kindOpen_iff (kind : Nat) (p : Port) : kindOpen kind p = true ↔ kind ∈ openKinds p := by
  have small : ∀ k : Fin 0x50, kindOpen k p = true ↔ (k : Nat) ∈ openKinds p := by cases p <;> decide
  have kinds : ∀ k ∈ openKinds p, k ≤ 0x4F := by cases p <;> decide
  rcases Nat.lt_or_ge 0x4F kind with high | low
  · rw [kindOpen_of_lt high]
    exact ⟨nofun, fun listed => absurd (kinds kind listed) (by omega)⟩
  · exact small ⟨kind, by omega⟩

/-- A frame by its bytes that no row spells. -/
theorem route_unspelled {s : State} {p : Port} {kind : Byte} {payload : List Byte}
    (ready : inReply (s.ports.states.get p) = false) (short : payload.length ≤ 64)
    (unspelled : ¬ Spelled kind.toNat payload) :
    s.route p kind payload =
      State.reply p kind.toNat (s.refuse (if kindOpen kind.toNat p then .badField else .refusedPort)) := by
  unfold State.route
  rw [State.take_ready ready]
  split
  · split
    · next own owner =>
      obtain spelled | refused := spelled_of_ownerOf owner short
      · exact absurd spelled unspelled
      · rw [refused]
    · rfl
  · rfl

/-- Settles O5: a row is the request of its frame's kind, by `rowOwned_of_requestFrame`, the kinds open on a port are those
of `kindOpen_iff`, and a frame that no row spells is answered by `route_unspelled`. -/
theorem portsAreTestedFirst : Obligations.PortsAreTestedFirst := by
  unfold Obligations.PortsAreTestedFirst
  refine ⟨⟨rfl, ?lost, ?closed, fun kind => ⟨kindOpen_iff kind .drive, ?platforms, kindOpen_iff kind .controlRoom⟩⟩,
    ?unspelled⟩
  case lost =>
    intro i f s frame running busy
    obtain ⟨own, run, -⟩ := rowOwned_of_requestFrame frame
    exact (run s).trans (State.request_inReply running busy _ own)
  case closed =>
    intro i f s frame ready closed
    obtain ⟨own, run, -⟩ := rowOwned_of_requestFrame frame
    exact ⟨_, (run s).trans (State.request_closed ready own closed), refused_reply s _ _ _⟩
  case platforms =>
    rintro p (rfl | rfl)
    · exact kindOpen_iff kind .platformA
    · exact kindOpen_iff kind .platformB
  case unspelled =>
    intro p kind payload s ready short noRow
    have unspelled : ¬ Spelled kind.toNat payload := by
      rintro ⟨i, f, wf, frame, same, bytes⟩
      exact noRow i f wf frame (BitVec.eq_of_toNat_eq same) bytes
    refine ⟨_, (State.running_of ready.1 _).trans ?_, refused_reply s p _ _⟩
    rw [route_unspelled ready.2 short unspelled]

end Sys2Proof.LinkPorts
end

section
/-! The bytes of a request frame (R172, R173, R175 to R177): they act as the row they spell; the codes, the fields and the
header. -/

namespace Sys2Proof.LinkPorts

open Machine

/-! ## A row's bytes -/

/-- A row's kind and payload, routed by bytes, are the row (R175). -/
theorem exec_eq_route {i : Instr} {f : RequestFrame} (wf : i.wf = true) (h : requestFrame i = some f) (s : State) :
    exec i s = s.running fun s => s.route f.port f.kind f.payload := by
  obtain ⟨own, run, owner⟩ := rowOwned_of_requestFrame h
  simp only [run, State.request, State.route, owner wf]

theorem records_length (xs : List (Nat × Nat)) : (xs.flatMap recordBytes).length = 3 * xs.length := by
  induction xs with
  | nil => rfl
  | cons x rest ih => rw [List.flatMap_cons, List.length_append, ih]; show 3 + _ = _; rw [List.length_cons]; omega

/-- A row's payload fits the 64 bytes of Table 10-1. -/
theorem payload_length_le {i : Instr} {f : RequestFrame} (wf : i.wf = true) (h : requestFrame i = some f) :
    f.payload.length ≤ 64 := by
  cases i
  case occupancyDeclare p cabin count records =>
    obtain rfl := Option.some.inj h
    simp only [Instr.wf, Bool.and_eq_true, decide_eq_true_eq] at wf
    obtain ⟨⟨-, few⟩, -⟩ := wf
    simp only [List.length_append, CabinTable.bytes1_length, records_length]
    omega
  all_goals cases h <;> simp

/-- A row's bytes, received by a port in HUNT, are routed as its kind and payload (R173). -/
theorem receiveAll_bytes {s : State} {f : RequestFrame} (hunt : s.ports.states.get f.port = .hunt)
    (short : f.payload.length ≤ 64) : s.receiveAll f.port f.bytes = s.route f.port f.kind f.payload := by
  have length : (BitVec.ofNat 8 f.payload.length).toNat = f.payload.length :=
    toNat_of_fits1 (decide_eq_true (by omega))
  have whole := receiveAll_frame hunt f.kind (length := BitVec.ofNat 8 f.payload.length) (by rw [length]; exact short)
    (got := f.payload ++ crcBytes (f.kind :: BitVec.ofNat 8 f.payload.length :: f.payload))
    (by rw [length, List.length_append]; rfl)
  rw [length, List.take_left, List.drop_left, if_pos rfl] at whole
  exact whole

/-! ## The CRC, the codes and the fields -/

/-- Eight shifts a byte (R172). -/
theorem crcByte_eq (x : BitVec 16) (b : Byte) :
    crcByte x b = Nat.repeat crcShift 8 (x ^^^ (b.zeroExtend 16 <<< 8)) := rfl

/-- The check string of R172. -/
theorem crc16_digits :
    crc16 [0x31#8, 0x32#8, 0x33#8, 0x34#8, 0x35#8, 0x36#8, 0x37#8, 0x38#8, 0x39#8] = 0x29B1#16 := by decide +kernel

/-- A reply frame after its sync byte, byte by byte (Table 10-1). -/
theorem reply_body_eq (r : Reply) :
    r.body = [r.kind + 128, r.result.code, r.header.held.value, r.header.windClass.code, r.header.flags,
      r.payload.length].map (BitVec.ofNat 8) ++ r.payload := rfl

/-- A flag of a reply's header, at its place. -/
theorem flag_eq (place : Nat) (x : Bool) : (if x then 2 ^ place else 0) = 2 ^ place * x.toNat := by cases x <;> simp

theorem flags_eq (h : Header) :
    let bit (place : Nat) (x : Bool) : Nat := if x then 2 ^ place else 0
    h.flags = bit 0 h.verified + bit 1 h.parked + bit 2 h.unloadComplete + bit 3 h.loopFault + bit 4 h.eventsWaiting +
      bit 5 h.rollover := by
  simp only [flag_eq, Header.flags]
  omega

/-- Numbers are sent most significant byte first (R176). -/
theorem bytes_eq (x : Nat) :
    let byte (place : Nat) : Byte := BitVec.ofNat 8 (x / 256 ^ place)
    bytes1 x = [byte 0] ∧ bytes2 x = [byte 1, byte 0] ∧ bytes4 x = [byte 3, byte 2, byte 1, byte 0] := by
  simp [bytes1, bytes2, bytes4]

theorem yesNo_eq (z : Bool) : yesNo z = [if z then 1#8 else 0#8] := by cases z <;> rfl

/-- Settles O6: the CRC byte by byte is `crc16_append`, the frames, the codes and the payloads are those of their
definitions, the header's parked flag is `parkedFlag_eq`, and a row's bytes act as the row by `exec_eq_route` and
`receiveAll_bytes`. -/
theorem frameBytesActAsTheirRow : Obligations.FrameBytesActAsTheirRow := by
  unfold Obligations.FrameBytesActAsTheirRow
  refine ⟨?crc, ?frames, ?header, ?codes, ?payloads, ?rows⟩
  case crc => exact fun bytes b => ⟨rfl, (crc16_append bytes b).trans (crcByte_eq _ b), crc16_digits, rfl⟩
  case frames =>
    intro f r
    refine ⟨rfl, ?_, rfl, rfl⟩
    rw [Reply.frame, reply_body_eq, flags_eq]
    rfl
  case header =>
    intro s p stood
    rw [State.header, State.parkedFlag_eq]
  case codes =>
    refine ⟨⟨rfl, rfl, rfl⟩, ⟨rfl, rfl, rfl, rfl, rfl, rfl, rfl, rfl, rfl, rfl, rfl, rfl, rfl, rfl⟩,
      fun tag r => ⟨rfl, rfl, rfl, rfl, rfl, rfl⟩, fun x y z => ?_⟩
    obtain ⟨one, two, four⟩ := bytes_eq x
    exact ⟨one, two, four, rfl, yesNo_eq z, rfl, rfl, rfl, rfl, rfl, rfl, rfl, rfl, rfl⟩
  case payloads =>
    intro p a b c d xs
    exact ⟨⟨rfl, rfl, rfl, rfl, rfl, rfl, rfl, rfl, rfl, rfl, rfl, rfl⟩, ⟨rfl, rfl, rfl, rfl, rfl, rfl, rfl⟩,
      ⟨rfl, rfl, rfl, rfl, rfl, rfl⟩, ⟨rfl, rfl, rfl, rfl, rfl, rfl⟩⟩
  case rows =>
    intro i f s wf frame
    have row := exec_eq_route wf frame s
    refine ⟨row.symm, fun running hunt => ?_⟩
    rw [row, State.running_of running, ← receiveAll_bytes hunt (payload_length_le wf frame)]
    exact State.running_of running _

end Sys2Proof.LinkPorts
end

section
/-! R185: a step appends records to the Event Stack, a power-on and EVENT TAKE aside. An append keeps the bound, so
every step does. -/

namespace Sys2Proof.EventStack

open Machine CabinTable StatusLoop WindAssessment

/-! ## Records appended -/

/-- The Event Stack of `t` is that of `s` with records appended, or none. -/
def Appended (s t : State) : Prop := ∃ xs : List EventRecord, Recorded s t xs

theorem Appended.refl (s : State) : Appended s s := ⟨[], rfl⟩

theorem Appended.trans {s t u : State} (h : Appended s t) (k : Appended t u) : Appended s u := by
  obtain ⟨xs, first⟩ := h
  obtain ⟨ys, second⟩ := k
  exact ⟨xs ++ ys, recorded_trans first second⟩

theorem appended_of_recordedOf {s t : State} {kinds : List EventKind} {xs : List EventRecord}
    (h : RecordedOf s t kinds xs) : Appended s t :=
  let ⟨as, recorded, _⟩ := h
  ⟨as, recorded⟩

/-- Appending keeps the stack at 256 records or fewer. -/
theorem Appended.bounded {s t : State} (h : Appended s t) (bounded : EventsBounded s) : EventsBounded t := by
  obtain ⟨xs, recorded⟩ := h
  have appends : EventsBounded (xs.foldl State.append s) :=
    List.foldlRecOn (motive := EventsBounded) xs _ bounded fun u fewer r _ => u.append_bounded r fewer
  rw [EventsBounded, recorded]
  exact appends

section

variable {s t : State} (h : Appended s t)
include h

theorem Appended.keep {u : State} (events : u.events = t.events) : Appended s u := h.trans ⟨[], events⟩

theorem Appended.reaction {u : State} (r : Reaction t u) : Appended s u := h.trans r.events

theorem Appended.append (r : EventRecord) : Appended s (t.append r) := h.reaction (t.append_reaction r)

theorem Appended.setCondition (src : Source) (g : Grade) : Appended s (t.setCondition src g) :=
  h.reaction (t.setCondition_reaction src g)

theorem Appended.formDoorLate : Appended s t.formDoorLate := h.reaction t.formDoorLate_reaction

theorem Appended.deliverEvent (src : Source) (g : Grade) : Appended s (t.deliverEvent src g) :=
  h.reaction (t.deliverEvent_reaction src g)

theorem Appended.formProgrammed (src : Source) (on : Bool) : Appended s (t.formProgrammed src on) :=
  h.reaction (t.formProgrammed_reaction src on)

theorem Appended.changeSource (src : Source) (f : HoldRecord → HoldRecord) : Appended s (t.changeSource src f) :=
  h.reaction (t.changeSource_reaction src f)

theorem Appended.assignIfDue (pf : Platform) : Appended s (t.assignIfDue pf) := h.reaction (t.assignIfDue_reaction pf)

theorem Appended.judgeAway : Appended s t.judgeAway := h.trans (judgeAway_recorded t)

theorem Appended.refresh : Appended s t.refresh := h.keep rfl

/-- The occupied count, and UNLOAD_COMPLETE where it becomes due (R149, R150). -/
theorem Appended.recount : Appended s t.recount := by
  refine Appended.reaction ?_ (State.judgeUnload_reaction _)
  exact h.keep rfl

theorem Appended.writeCabin (k : Nat) (f : Cabin → Cabin) : Appended s (t.writeCabin k f) := by
  refine Appended.recount ?_
  exact h.keep rfl

/-! ## The visits -/

theorem Appended.endVisit (pf : Platform) (v : Visit) : Appended s (t.endVisit pf v) :=
  h.trans (appended_of_recordedOf (noConflict_endVisit t pf v))

theorem Appended.feedBack (pf : Platform) (door : DoorState) : Appended s (t.feedBack pf door) :=
  h.trans (appended_of_recordedOf (noConflict_feedBack t pf door))

/-- A visit enters CLOSING, and may end at once with its door latched (R70). -/
theorem Appended.beginClosing (pf : Platform) (v : Visit) : Appended s (t.beginClosing pf v) := by
  have closing (w : Visit) : Appended s (((t.command pf .close).setVisit pf w).startTimer pf) := h.keep rfl
  unfold State.beginClosing State.testLatched
  dsimp only
  split
  · split
    · exact (closing _).endVisit pf _
    · exact h.keep rfl
  · exact closing _

theorem Appended.testOpen (pf : Platform) (v : Visit) : Appended s (t.testOpen pf v) := by
  unfold State.testOpen
  split
  · refine Appended.assignIfDue ?_ pf
    exact h.keep rfl
  · exact h

/-- A visit begins with VISIT_START, and may find its door open at once (R62, R65). -/
theorem Appended.createVisit (pf : Platform) (k : Nat) (c : Cabin) : Appended s (t.createVisit pf k c) := by
  unfold State.createVisit
  dsimp only
  split
  · exact h.keep rfl
  · refine Appended.testOpen (Appended.append ?_ _) pf _
    exact h.keep rfl

theorem Appended.takeEnter (pf : Platform) (k : Nat) : Appended s (t.takeEnter pf k) := by
  unfold State.takeEnter State.missBerth
  split
  · split
    · exact h
    · dsimp only
      split
      · exact (h.append _).deliverEvent _ _
      · exact h.append _
  · split
    · exact h.createVisit pf k _
    · exact h

theorem Appended.takeClose (pf : Platform) (k : Nat) : Appended s (t.takeClose pf k) := by
  unfold State.takeClose
  split
  · split
    · exact h.beginClosing pf _
    · exact h
  · exact h

theorem Appended.makeLate (pf : Platform) (v : Visit) : Appended s (t.makeLate pf v) := by
  refine Appended.formDoorLate ?_
  exact h.keep rfl

theorem Appended.takeExit (pf : Platform) (k : Nat) : Appended s (t.takeExit pf k) := by
  unfold State.takeExit
  split
  next v _ =>
    split
    · exact h
    · dsimp only
      cases v.state with
      | passing | secured => exact h.endVisit pf v
      | closing => exact h.makeLate pf _
      | opening | opened => exact (h.makeLate pf _).beginClosing pf _
  · exact h

theorem Appended.takeCrossing (pf : Platform) (x : Nat × Crossing) : Appended s (t.takeCrossing pf x) := by
  unfold State.takeCrossing
  split
  · exact h.takeEnter pf _
  · exact h.takeClose pf _
  · exact h.takeExit pf _

theorem Appended.takeRetreat (pf : Platform) (k : Nat) : Appended s (t.takeRetreat pf k) := by
  unfold State.takeRetreat
  split
  · split
    · exact h
    · split
      · exact h.endVisit pf _
      · split
        · refine Appended.endVisit ?_ pf _
          exact h.keep rfl
        · exact h
  · exact h

theorem Appended.losePosition (pf : Platform) : Appended s (t.losePosition pf) := by
  rw [State.losePosition_eq]
  split
  · exact h
  · split
    · exact h.endVisit pf _
    · exact h.keep rfl

theorem Appended.expireActuator (pf : Platform) : Appended s (t.expireActuator pf) := by
  unfold State.expireActuator
  split
  next v _ _ =>
    cases v.state with
    | opening => exact h.beginClosing pf _
    | closing => dsimp only; split <;> exact h.keep rfl
    | passing | opened | secured => exact h.keep rfl
  · exact h.keep rfl
  · exact h

/-! ## The wheel -/

theorem Appended.handCrossings (before after : Nat) (pf : Platform) : Appended s (t.handCrossings before after pf) :=
  List.foldlRecOn (motive := Appended s) _ _ h fun _ h x _ => h.takeCrossing pf x

theorem Appended.handRetreats (before after : Nat) (pf : Platform) : Appended s (t.handRetreats before after pf) :=
  List.foldlRecOn (motive := Appended s) _ _ h fun _ h k _ => h.takeRetreat pf k

theorem Appended.parkTests : Appended s t.parkTests := h.reaction (followed_parkTests t).reach

theorem Appended.movedTests (moved : Bool) : Appended s (t.movedTests moved) := by
  cases moved with
  | false => exact h
  | true =>
    rw [State.movedTests_true, State.overshootTest]
    have parked := h.reaction t.parkedTest_reaction
    split
    · exact parked.deliverEvent _ _
    · exact parked

theorem Appended.forwardTick : Appended s t.forwardTick := by
  have moved : Appended s { t with position := t.position.forward t.geometry } := h.keep rfl
  have handed := (moved.handCrossings t.position.theta (t.position.forward t.geometry).theta .a).handCrossings
    t.position.theta (t.position.forward t.geometry).theta .b
  refine Appended.judgeAway (Appended.parkTests ?_)
  exact handed.keep rfl

theorem Appended.reverseTick : Appended s t.reverseTick := by
  have moved (x : Position) : Appended s { t with position := x } := h.keep rfl
  have tested : Appended s (State.reverseTest { t with position := t.position.backward t.geometry }) := by
    unfold State.reverseTest
    split
    · exact (moved _).deliverEvent _ _
    · exact moved _
  exact ((tested.handRetreats _ _ .a).handRetreats _ _ .b).parkTests.judgeAway

/-- The Plan Banks turned over, counted or ended at a revolution boundary (R112). -/
theorem Appended.boundary : Appended s t.boundary := by
  have planned (u : State) (h : Appended s u) (x : Plans) : Appended s { u with plans := x } := h.keep rfl
  unfold State.boundary State.planBoundary
  dsimp only
  generalize counted : (if t.plans.planEnd then _ else _ : State) = u
  have begun : Appended s u := by
    rw [← counted]
    split <;> exact h.keep rfl
  split
  · exact ((planned u begun _).formProgrammed .planEnd false).append _
  · split
    · exact ((planned u begun _).append _).formProgrammed .planEnd true
    · exact begun

/-- An index edge within the tolerance (R4, R167). -/
theorem Appended.goodEdge (d : Int) : Appended s (t.goodEdge d) := by
  have corrected : Appended s (t.correct d) := h.keep rfl
  have logged : Appended s ((t.correct d).logPlain .index d) := corrected.append _
  have shifted : Appended s (((t.correct d).logPlain .index d).shiftTarget d) := by
    unfold State.shiftTarget
    split
    · exact logged
    · split
      · exact logged.keep rfl
      · exact logged
  unfold State.goodEdge
  dsimp only
  refine ((Appended.boundary ?_).movedTests _).judgeAway
  split
  · exact (shifted.handCrossings _ _ .a).handCrossings _ _ .b
  · exact shifted

/-- An index edge beyond the tolerance (R5). -/
theorem Appended.badEdge (d : Int) : Appended s (t.badEdge d) := by
  have lost : Appended s { t with position :=
      { t.position with theta := 0, verified := false, stillCrossed := [] } } := h.keep rfl
  exact (((((lost.append _).changeSource .position _).losePosition .a).losePosition .b).boundary).judgeAway

/-- The index edge that verifies the position (R6). -/
theorem Appended.verifyEdge : Appended s t.verifyEdge := by
  have verified : Appended s { t with position :=
      { t.position with theta := 0, verified := true, stillCrossed := [] } } := h.keep rfl
  have logged := verified.append (plainRecord t .index 0)
  unfold State.verifyEdge
  dsimp only
  refine ((Appended.setCondition ?_ .position _).movedTests _).judgeAway
  unfold State.retarget
  split
  · exact logged
  · split
    · exact logged.keep rfl
    · exact logged

theorem Appended.takenEdge : Appended s t.takenEdge := by
  unfold State.takenEdge
  split
  · dsimp only
    split
    · exact h.goodEdge _
    · exact h.badEdge _
  · exact h.verifyEdge

/-- A window end: the records ahead of the class, then those of its change (R120). -/
theorem Appended.windowEnd : Appended s t.windowEnd := by
  obtain ⟨xs, recorded, -⟩ := logs_beforeClass t
  have before : Appended s (flagged t) := h.trans ⟨xs, recorded⟩
  rw [windowEnd_eq_changeClass]
  refine Appended.reaction ?_ (changeClass_reaction _ _ _)
  exact before.keep rfl

/-! ## The Status Loop -/

theorem Appended.loop (x : Loop) : Appended s { t with loop := x } := h.keep rfl

theorem Appended.takeContacts (after : Loop) : Appended s (t.takeContacts after) := by
  have written : Appended s (State.writeDoors { t with loop := after }) := h.keep rfl
  rw [takeContacts_eq]
  exact ((written.trans ⟨_, rfl⟩).feedBack _ _).feedBack _ _

theorem Appended.goodScan (stale : Bool) (r : Readings) : Appended s (t.goodScan stale r) := by
  have cleared : Appended s t.clearLoopFault := by
    unfold State.clearLoopFault
    split
    · exact ((h.loop _).append _).formProgrammed .loopFault false
    · exact h
  unfold State.goodScan
  dsimp only
  split
  · exact cleared.loop _
  · exact (cleared.loop _).takeContacts _

theorem Appended.failedScan : Appended s t.failedScan := by
  unfold State.failedScan
  dsimp only
  split
  · exact (((h.loop _).append _).takeContacts _).formProgrammed .loopFault true
  · exact h.loop _

theorem Appended.endScan (pattern : Byte) (contacts : List Bool) : Appended s (t.endScan pattern contacts) := by
  unfold State.endScan
  split
  · exact h
  · refine Appended.judgeAway ?_
    split
    · exact (h.loop _).goodScan _ _
    · exact (h.loop _).failedScan

/-! ## The requests -/

/-- The effects of a changed configuration item: a new N, a lost geometry, a hold source's settings (R181). -/
theorem Appended.storeItem (i : Item) (v : Nat) : Appended s (t.storeItem i v) := by
  have stored : Appended s (t.setSettings (t.settings.write i v)) := h.keep rfl
  have lost {u : State} (h : Appended s u) : Appended s u.loseGeometry := by
    refine ((Appended.setCondition ?_ .position _).formProgrammed .disagree false).judgeAway
    exact h.keep rfl
  have resized (n : Nat) : Appended s ((t.setSettings (t.settings.write i v)).resize n) := by
    refine Appended.recount ?_
    exact stored.keep rfl
  unfold State.storeItem State.itemEffect
  split
  · exact h
  · cases i with
    | n => exact lost (resized _)
    | p => exact lost stored
    | auto src => exact stored.changeSource src _
    | programmed src => exact stored.formProgrammed src _
    | _ => exact stored

theorem Appended.restartSilence : Appended s t.restartSilence := by
  refine Appended.setCondition ?_ .driveSilent .none
  exact h.keep rfl

/-- The drive's report read (R155 to R157, R9). -/
theorem Appended.driveReport (d : DriveRecord) : Appended s (t.driveReport d) := by
  have taken : Appended s (t.takeDriveRecord d) := by
    refine Appended.restartSilence ?_
    exact h.keep rfl
  have judged : Appended s ((t.takeDriveRecord d).formDriveFault (d.state = some .fault)) := by
    refine Appended.setCondition ?_ .driveFault _
    exact taken.keep rfl
  unfold State.driveReport State.crossCheck
  refine Appended.refresh ?_
  split
  · exact judged
  · split
    · refine Appended.formProgrammed ?_ .disagree _
      exact judged.keep rfl
    · exact judged

/-- The figures of a stop condition written, and the condition formed (R146, R147). -/
theorem Appended.formStop (pf : Platform) (x : StopLine) :
    Appended s (State.formStop { t with stops := t.stops.set pf x } pf) := by
  refine Appended.reaction ?_ (State.formStop_reaction _ pf)
  exact h.keep rfl

/-! ## Timers and restarts -/

/-- A warm restart keeps the Event Stack and appends to it (R188). -/
theorem Appended.warmRestart (cause : RestartCause) : Appended s (t.warmRestart cause) := by
  have struck : Appended s t.restartBlocks := h.keep rfl
  have judged := struck.formDoorLate.judgeAway
  unfold State.warmRestart
  dsimp only
  refine (((Appended.restartSilence ?_).append _).deliverEvent .restart .stop).refresh
  exact judged.keep rfl

theorem Appended.driveSilence : Appended s t.driveSilence := by
  unfold State.driveSilence
  split
  · refine (Appended.setCondition ?_ .driveSilent .brake).refresh
    exact h.keep rfl
  · exact h

theorem Appended.endSave (passed : Bool) : Appended s (t.endSave passed) := by
  unfold State.endSave
  split
  · exact h
  · refine Appended.append ?_ _
    exact h.keep rfl

end

/-! ## Every effect -/

/-- The state that EVENT TAKE of `count` records leaves, the reply aside (R186). -/
def eventsTaken (s : State) (count : Nat) : State :=
  { s with events := { records := s.events.records.drop count, rollover := false } }

/-- A request appends records, or it is EVENT TAKE and takes the oldest (R186). -/
theorem appended_answered {s t : State} (a : Answered s t) :
    Appended s t ∨ ∃ count, t = eventsTaken s count := by
  have here := Appended.refl s
  cases a with
  | taken count => exact .inr ⟨count, rfl⟩
  | kept => exact .inl here
  | gate | service | configured | queued | unqueued | edited | swapAsked | locked | saving | advanced =>
    exact .inl (here.keep rfl)
  | declared => exact .inl (here.writeCabin _ _)
  | @alighted pf v _ count =>
    have counted : Appended s (s.setVisit pf { v with alighted := some count }) := here.keep rfl
    exact .inl ((counted.writeCabin _ _).assignIfDue pf).refresh
  | @boarded pf v _ _ tag count =>
    have counted : Appended s (s.setVisit pf (v.setBoarded tag count)) := here.keep rfl
    exact .inl (counted.writeCabin _ _).refresh
  | dispatched pf => exact .inl (here.beginClosing pf _).refresh
  | unassigned pf tag =>
    unfold State.cancelAssigned
    split <;> exact .inl (here.keep rfl)
  | stopRequested pf => exact .inl (here.formStop pf _).refresh
  | operatorHeld g => exact .inl (here.setCondition .operator g).refresh
  | released src => exact .inl (here.changeSource src _).refresh
  | stored i => exact .inl (here.storeItem i _).refresh
  | reported d => exact .inl (here.driveReport d)

/-- An effect of a step appends records, or is EVENT TAKE's, or a power-on's (R187). -/
theorem appended_effect {s t : State} (e : Effect s t) :
    Appended s t ∨ (∃ count, t = eventsTaken s count) ∨
      ∃ openA openB rate, t = s.powerOn openA openB rate := by
  have here := Appended.refl s
  cases e with
  | answered a => exact (appended_answered a).imp_right .inl
  | powerOn openA openB rate => exact .inr (.inr ⟨openA, openB, rate, rfl⟩)
  | port | queue | restartDue | millisecond | pulse | scanStart => exact .inl (here.keep rfl)
  | blinkToggle | sequenceStart | sequenceEnd | refreshExpiry | shut => exact .inl (here.keep rfl)
  | forwardTick => exact .inl here.forwardTick.refresh
  | reverseTick => exact .inl here.reverseTick.refresh
  | indexEdge => exact .inl here.takenEdge.refresh
  | windowEnd => exact .inl here.windowEnd.refresh
  | scanEnd pattern contacts => exact .inl (here.endScan pattern contacts).refresh
  | actuatorExpiry pf => exact .inl (here.expireActuator pf).refresh
  | lineTaken pf => exact .inl (here.formStop pf _).refresh
  | driveSilence => exact .inl here.driveSilence
  | saveDone passed => exact .inl (here.endSave passed)
  | warmRestart cause => exact .inl (here.warmRestart cause)

/-- A power-on leaves one record at most (R184, R187). -/
theorem eventsBounded_powerOn (s : State) (openA openB : Bool) (rate : Rate) :
    EventsBounded (s.powerOn openA openB rate) := by
  have few : (startRecords s).length ≤ 1 := by
    unfold startRecords
    split <;> simp
  rw [powerOn_eq]
  exact few.trans (by decide)

/-- Every effect keeps the stack at 256 records or fewer (R185). -/
theorem eventsBounded_effect (s t : State) (e : Effect s t) (h : EventsBounded s) : EventsBounded t := by
  rcases appended_effect e with appended | ⟨count, rfl⟩ | ⟨openA, openB, rate, rfl⟩
  · exact appended.bounded h
  · exact (s.events.records.drop_sublist count).length_le.trans h
  · exact eventsBounded_powerOn s openA openB rate

end Sys2Proof.EventStack
end

section
/-! One record appended (R185), and EVENT TAKE (R186). -/

namespace Sys2Proof.EventStack

open Machine CabinTable StatusLoop

/-! ## One record appended -/

/-- With room the record goes to the end. -/
theorem append_events_of_lt {s : State} (room : s.events.records.length < 256) (r : EventRecord) :
    (s.append r).events = { records := s.events.records ++ [r], rollover := s.events.rollover } := by
  rw [State.append, if_pos room]

/-- With 256 records held the oldest gives way. -/
theorem append_events_of_full {s : State} {oldest : EventRecord} {rest : List EventRecord}
    (held : s.events.records = oldest :: rest) (full : s.events.records.length = 256) (r : EventRecord) :
    (s.append r).events = { records := rest ++ [r], rollover := true } := by
  rw [State.append, if_neg (by omega), held]
  rfl

/-! ## EVENT TAKE -/

theorem ownEventTake_badField {count : Nat} (bad : count = 0 ∨ 8 < count) (s : State) :
    ownEventTake count s = s.refuse .badField := if_pos bad

theorem ownEventTake_accepted {count : Nat} (least : 1 ≤ count) (most : count ≤ 8) (s : State) :
    ownEventTake count s =
      { state := eventsTaken s count, result := .accepted
        payload := listBytes EventRecord.bytes (s.events.records.take count), rollover := some s.events.rollover } :=
  if_neg (by omega)

/-- In the control room's header the flag given stands in for the rollover flag (R177, R186). -/
theorem header_controlRoom (s : State) (flag : Bool) :
    s.header .controlRoom (some flag) = { s.header .controlRoom none with rollover := flag } := rfl

/-- The ports after a reply: the reply on its own, the others and the rate as they were. -/
theorem reply_ports (p : Port) (kind : Nat) (a : Answer) :
    (State.reply p kind a).ports.states.get p =
      .reply { kind := kind, result := a.result, header := a.state.header p a.rollover, payload := a.payload } ∧
    (∀ q, q ≠ p → (State.reply p kind a).ports.states.get q = a.state.ports.states.get q) ∧
    (State.reply p kind a).ports.rate = a.state.ports.rate :=
  ⟨PerPort.get_set_same _ _ _, fun _ other => PerPort.get_set_other _ _ other, rfl⟩

/-- Settles O36: EVENT TAKE by its test and the reply of `reply_ports`; the bound by `eventsBounded_effect`, the append
by its two cases. -/
theorem eventStackIsTakenOldestFirst : Obligations.EventStackIsTakenOldestFirst := by
  unfold Obligations.EventStackIsTakenOldestFirst
  refine ⟨fun count s ready => ⟨_, State.request_ready ready _ rfl, fun bad => ?bad, fun least most => ?taken⟩,
    fun s t bounded e => step_keeps eventsBounded_effect e bounded,
    fun s r => ⟨append_eq_of_events rfl r, fun room => append_events_of_lt room r, fun full => ?full⟩⟩
  case bad => exact refused_of (ownEventTake_badField bad s)
  case taken =>
    obtain ⟨own, others, rate⟩ := reply_ports .controlRoom 0x48 (ownEventTake count s)
    rw [ownEventTake_accepted least most] at own others rate ⊢
    exact ⟨rfl, others, rate, _, own, rfl, rfl, rfl, rfl, header_controlRoom (eventsTaken s count) _, rfl⟩
  case full =>
    obtain ⟨oldest, rest, held⟩ := List.exists_cons_of_length_pos (full ▸ (by decide : 0 < 256))
    exact ⟨oldest, rest, held, append_events_of_full held full r⟩

end Sys2Proof.EventStack
end

section
/-! The queue of commands: a step takes the command at its front (O1), and no command's meaning touches the queue (O3). A
millisecond alone puts rows into it. -/

namespace Sys2Proof.CommandQueue

open Machine CabinTable StatusLoop WindAssessment

/-- Settles O1: `step` reads the front of the queue. -/
theorem stepRunsTheFrontCommand : Obligations.StepRunsTheFrontCommand := by
  unfold Obligations.StepRunsTheFrontCommand
  intro c rest s front
  unfold step
  rw [front]

/-! ## Changes of a hold source and records -/

@[simp] theorem pending_append (s : State) (r : EventRecord) : (s.append r).pending = s.pending :=
  (s.append_reaction r).pending

@[simp] theorem pending_appends (s : State) (xs : List EventRecord) : (xs.foldl State.append s).pending = s.pending := by
  rw [appends_eq]

@[simp] theorem pending_changeSource (s : State) (src : Source) (f : HoldRecord → HoldRecord) :
    (s.changeSource src f).pending = s.pending := (s.changeSource_reaction src f).pending

@[simp] theorem pending_setCondition (s : State) (src : Source) (g : Grade) :
    (s.setCondition src g).pending = s.pending := (s.setCondition_reaction src g).pending

@[simp] theorem pending_deliverEvent (s : State) (src : Source) (g : Grade) :
    (s.deliverEvent src g).pending = s.pending := (s.deliverEvent_reaction src g).pending

@[simp] theorem pending_formProgrammed (s : State) (src : Source) (on : Bool) :
    (s.formProgrammed src on).pending = s.pending := (s.formProgrammed_reaction src on).pending

@[simp] theorem pending_formDoorLate (s : State) : s.formDoorLate.pending = s.pending := s.formDoorLate_reaction.pending

@[simp] theorem pending_assignIfDue (s : State) (pf : Platform) : (s.assignIfDue pf).pending = s.pending :=
  (s.assignIfDue_reaction pf).pending

@[simp] theorem pending_judgeAway (s : State) : s.judgeAway.pending = s.pending := (judgeAway_reaction s).pending

@[simp] theorem pending_recount (s : State) : s.recount.pending = s.pending := (State.judgeUnload_reaction _).pending

@[simp] theorem pending_writeCabin (s : State) (k : Nat) (f : Cabin → Cabin) : (s.writeCabin k f).pending = s.pending :=
  pending_recount _

/-- The figures of a stop condition written, and the condition formed (R146, R147). -/
theorem pending_formStop (s : State) (pf : Platform) (x : StopLine) :
    (State.formStop { s with stops := s.stops.set pf x } pf).pending = s.pending := (State.formStop_reaction _ pf).pending

/-- A stop line's level taken (R146). -/
theorem pending_takeLine (s : State) (pf : Platform) (lineOpen : Bool) : (s.takeLine pf lineOpen).pending = s.pending :=
  (State.refresh_pending _).trans (pending_formStop s pf _)

/-! ## The visits -/

@[simp] theorem pending_endVisit (s : State) (pf : Platform) (v : Visit) : (s.endVisit pf v).pending = s.pending :=
  (fed_endVisit s pf v).pending

@[simp] theorem pending_testOpen (s : State) (pf : Platform) (v : Visit) : (s.testOpen pf v).pending = s.pending :=
  (fed_testOpen s pf v).pending

@[simp] theorem pending_feedBack (s : State) (pf : Platform) (door : DoorState) :
    (s.feedBack pf door).pending = s.pending := (fed_feedBack s pf door).pending

@[simp] theorem pending_beginClosing (s : State) (pf : Platform) (v : Visit) :
    (s.beginClosing pf v).pending = s.pending := (fed_testLatched _ pf _).pending

@[simp] theorem pending_createVisit (s : State) (pf : Platform) (k : Nat) (c : Cabin) :
    (s.createVisit pf k c).pending = s.pending := by
  unfold State.createVisit
  dsimp only
  split
  · rfl
  · exact (pending_testOpen _ pf _).trans (pending_append _ _)

theorem pending_takeEnter (s : State) (pf : Platform) (k : Nat) : (s.takeEnter pf k).pending = s.pending := by
  unfold State.takeEnter State.missBerth
  split
  · split
    · rfl
    · dsimp only
      split
      · exact (pending_deliverEvent _ _ _).trans (pending_append _ _)
      · exact pending_append _ _
  · split
    · exact pending_createVisit s pf k _
    · rfl

theorem pending_takeClose (s : State) (pf : Platform) (k : Nat) : (s.takeClose pf k).pending = s.pending := by
  unfold State.takeClose
  split
  · split
    · exact pending_beginClosing s pf _
    · rfl
  · rfl

@[simp] theorem pending_makeLate (s : State) (pf : Platform) (v : Visit) : (s.makeLate pf v).pending = s.pending :=
  pending_formDoorLate _

theorem pending_takeExit (s : State) (pf : Platform) (k : Nat) : (s.takeExit pf k).pending = s.pending := by
  unfold State.takeExit
  split
  next v _ =>
    split
    · rfl
    · dsimp only
      cases v.state with
      | passing | secured => exact pending_endVisit s pf v
      | closing => exact pending_makeLate s pf _
      | opening | opened => exact (pending_beginClosing _ pf _).trans (pending_makeLate s pf _)
  · rfl

@[simp] theorem pending_takeCrossing (s : State) (pf : Platform) (x : Nat × Crossing) :
    (s.takeCrossing pf x).pending = s.pending := by
  unfold State.takeCrossing
  split
  · exact pending_takeEnter s pf _
  · exact pending_takeClose s pf _
  · exact pending_takeExit s pf _

@[simp] theorem pending_takeRetreat (s : State) (pf : Platform) (k : Nat) : (s.takeRetreat pf k).pending = s.pending := by
  unfold State.takeRetreat
  split
  · split
    · rfl
    · split
      · exact pending_endVisit s pf _
      · split
        · exact pending_endVisit _ pf _
        · rfl
  · rfl

@[simp] theorem pending_losePosition (s : State) (pf : Platform) : (s.losePosition pf).pending = s.pending := by
  rw [State.losePosition_eq]
  split
  · rfl
  · split
    · exact pending_endVisit s pf _
    · rfl

@[simp] theorem pending_expireActuator (s : State) (pf : Platform) : (s.expireActuator pf).pending = s.pending := by
  unfold State.expireActuator
  split
  next v _ _ =>
    cases v.state with
    | opening => exact pending_beginClosing s pf _
    | closing => dsimp only; split <;> rfl
    | passing | opened | secured => rfl
  · rfl
  · rfl

/-! ## The wheel -/

@[simp] theorem pending_handCrossings (s : State) (before after : Nat) (pf : Platform) :
    (s.handCrossings before after pf).pending = s.pending :=
  List.foldlRecOn (motive := fun u : State => u.pending = s.pending) _ _ rfl
    fun u kept x _ => (pending_takeCrossing u pf x).trans kept

@[simp] theorem pending_handRetreats (s : State) (before after : Nat) (pf : Platform) :
    (s.handRetreats before after pf).pending = s.pending :=
  List.foldlRecOn (motive := fun u : State => u.pending = s.pending) _ _ rfl
    fun u kept k _ => (pending_takeRetreat u pf k).trans kept

@[simp] theorem pending_parkTests (s : State) : s.parkTests.pending = s.pending := (followed_parkTests s).reach.pending

@[simp] theorem pending_movedTests (s : State) (moved : Bool) : (s.movedTests moved).pending = s.pending := by
  cases moved with
  | false => rfl
  | true =>
    have parked := s.parkedTest_reaction.pending
    rw [State.movedTests_true, State.overshootTest]
    split
    · exact (pending_deliverEvent _ _ _).trans parked
    · exact parked

theorem pending_forwardTick (s : State) : s.forwardTick.pending = s.pending := by
  simp [State.forwardTick, State.passOver]

@[simp] theorem pending_reverseTest (s : State) : s.reverseTest.pending = s.pending := by
  unfold State.reverseTest
  split
  · exact pending_deliverEvent _ _ _
  · rfl

theorem pending_reverseTick (s : State) : s.reverseTick.pending = s.pending := by simp [State.reverseTick]

/-- The Plan Banks turned over, counted or ended at a revolution boundary (R112). -/
@[simp] theorem pending_boundary (s : State) : s.boundary.pending = s.pending := by
  unfold State.boundary State.planBoundary
  dsimp only
  generalize counted : (if s.plans.planEnd then _ else _ : State) = u
  have begun : u.pending = s.pending := by
    rw [← counted]
    split <;> rfl
  split
  · exact ((pending_append _ _).trans (pending_formProgrammed _ _ _)).trans begun
  · split
    · exact ((pending_formProgrammed _ _ _).trans (pending_append _ _)).trans begun
    · exact begun

@[simp] theorem pending_shiftTarget (s : State) (d : Int) : (s.shiftTarget d).pending = s.pending := by
  unfold State.shiftTarget
  split
  · rfl
  · split <;> rfl

@[simp] theorem pending_retarget (s : State) : s.retarget.pending = s.pending := by
  unfold State.retarget
  split
  · rfl
  · split <;> rfl

/-- An index edge within the tolerance (R4). -/
theorem pending_goodEdge (s : State) (d : Int) : (s.goodEdge d).pending = s.pending := by
  have shifted : (((s.correct d).logPlain .index d).shiftTarget d).pending = s.pending :=
    (pending_shiftTarget _ d).trans (pending_append _ _)
  unfold State.goodEdge
  dsimp only
  rw [pending_judgeAway, pending_movedTests, pending_boundary]
  split
  · rw [pending_handCrossings, pending_handCrossings, shifted]
  · exact shifted

/-- An index edge beyond the tolerance (R5). -/
theorem pending_badEdge (s : State) (d : Int) : (s.badEdge d).pending = s.pending := by
  simp [State.badEdge, State.logPlain]

/-- The index edge that verifies the position (R6). -/
theorem pending_verifyEdge (s : State) : s.verifyEdge.pending = s.pending := by
  simp [State.verifyEdge, State.logPlain, State.formPosition]

theorem pending_takenEdge (s : State) : s.takenEdge.pending = s.pending := by
  unfold State.takenEdge
  split
  · dsimp only
    split
    · exact pending_goodEdge s _
    · exact pending_badEdge s _
  · exact pending_verifyEdge s

/-- A window end, through its stages (R120). -/
theorem pending_windowEnd (s : State) : s.windowEnd.pending = s.pending := by
  rw [windowEnd_eq_changeClass, (changeClass_reaction _ _ _).pending]
  calc (flagged s).pending
    _ = (sensed s).pending := (flagged_reaction s).pending
    _ = (parkTested s).pending := (sensed_reaction s).pending
    _ = s.pending := (parkTested_reaction s).pending

/-! ## The Status Loop -/

@[simp] theorem pending_takeContacts (s : State) (after : Loop) : (s.takeContacts after).pending = s.pending := by
  rw [takeContacts_eq, pending_feedBack, pending_feedBack, pending_appends]
  rfl

@[simp] theorem pending_clearLoopFault (s : State) : s.clearLoopFault.pending = s.pending := by
  unfold State.clearLoopFault
  split
  · exact (pending_formProgrammed _ _ _).trans (pending_append _ _)
  · rfl

theorem pending_goodScan (s : State) (stale : Bool) (r : Readings) : (s.goodScan stale r).pending = s.pending := by
  unfold State.goodScan
  dsimp only
  split
  · exact pending_clearLoopFault s
  · exact (pending_takeContacts _ _).trans (pending_clearLoopFault s)

theorem pending_failedScan (s : State) : s.failedScan.pending = s.pending := by
  unfold State.failedScan
  dsimp only
  split
  · exact (pending_formProgrammed _ _ _).trans ((pending_takeContacts _ _).trans (pending_append _ _))
  · rfl

theorem pending_endScan (s : State) (pattern : Byte) (contacts : List Bool) :
    (s.endScan pattern contacts).pending = s.pending := by
  unfold State.endScan
  split
  · rfl
  · rw [pending_judgeAway]
    split
    · exact pending_goodScan _ _ _
    · exact pending_failedScan _

/-! ## The requests -/

theorem pending_loseGeometry (s : State) : s.loseGeometry.pending = s.pending := by
  simp [State.loseGeometry, State.formPosition]

/-- The effects of a changed configuration item: a new N, a lost geometry, a hold source's settings (R181). -/
theorem pending_storeItem (s : State) (i : Item) (v : Nat) : (s.storeItem i v).pending = s.pending := by
  unfold State.storeItem
  split
  · rfl
  · unfold State.itemEffect
    cases i with
    | n => exact (pending_loseGeometry _).trans (pending_recount _)
    | p => exact pending_loseGeometry _
    | auto src => exact pending_changeSource _ src _
    | programmed src => exact pending_formProgrammed _ src _
    | _ => rfl

@[simp] theorem pending_restartSilence (s : State) : s.restartSilence.pending = s.pending := pending_setCondition _ _ _

/-- The drive's report read (R155 to R157, R9). -/
theorem pending_driveReport (s : State) (d : DriveRecord) : (s.driveReport d).pending = s.pending := by
  have taken : (s.takeDriveRecord d).pending = s.pending := pending_restartSilence _
  have judged : ((s.takeDriveRecord d).formDriveFault (d.state = some .fault)).pending = s.pending :=
    (pending_setCondition _ _ _).trans taken
  unfold State.driveReport State.crossCheck
  rw [State.refresh_pending]
  split
  · exact judged
  · split
    · exact (pending_formProgrammed _ _ _).trans judged
    · exact judged

theorem pending_cancelAssigned (s : State) (pf : Platform) (tag : Nat) :
    (s.cancelAssigned pf tag).pending = s.pending := by
  unfold State.cancelAssigned
  split <;> rfl

/-- What an owner leaves of the state leaves the queue of commands. -/
theorem pending_answered {s t : State} (a : Answered s t) : t.pending = s.pending := by
  cases a with
  | kept => rfl
  | gate | service | configured | queued | unqueued | edited | swapAsked | locked | saving | taken | advanced => rfl
  | declared => exact pending_writeCabin s _ _
  | alighted pf => exact (pending_assignIfDue _ pf).trans (pending_writeCabin _ _ _)
  | boarded => exact pending_writeCabin _ _ _
  | dispatched pf => exact pending_beginClosing s pf _
  | unassigned pf tag => exact pending_cancelAssigned s pf tag
  | stopRequested pf => exact pending_formStop s pf _
  | operatorHeld g => exact pending_setCondition s .operator g
  | released src => exact pending_changeSource s src _
  | stored i => exact pending_storeItem s i _
  | reported d => exact pending_driveReport s d

/-! ## Timers and restarts -/

theorem pending_warmRestart (s : State) (cause : RestartCause) : (s.warmRestart cause).pending = s.pending := by
  simp only [State.warmRestart, State.logPlain, State.refresh_pending, pending_deliverEvent, pending_append,
    pending_restartSilence, State.command_pending, pending_judgeAway, pending_formDoorLate]
  rfl

theorem pending_driveSilence (s : State) : s.driveSilence.pending = s.pending := by
  unfold State.driveSilence
  split
  · exact pending_setCondition _ .driveSilent .brake
  · rfl

theorem pending_endSave (s : State) (passed : Bool) : (s.endSave passed).pending = s.pending := by
  unfold State.endSave
  split
  · rfl
  · exact pending_append _ _

theorem pending_powerOn (s : State) (openA openB : Bool) (rate : Rate) :
    (s.powerOn openA openB rate).pending = s.pending := by
  rw [powerOn_eq]
  rfl

/-! ## The link -/

theorem pending_take {own : State → Answer} (h : Owns own) (s : State) (p : Port) (kind : Nat) :
    (s.take p kind own).pending = s.pending := by
  unfold State.take
  split
  · rfl
  · show State.pending (Answer.state _) = _
    split
    · exact pending_answered (h s)
    · rfl

theorem pending_route (s : State) (p : Port) (kind : Byte) (payload : List Byte) :
    (s.route p kind payload).pending = s.pending := by
  refine pending_take (fun u => ?_) s p kind.toNat
  split
  · next own => exact owns_ownerOf own u
  · exact .kept

theorem pending_receive (s : State) (p : Port) (byte : Byte) : (s.receive p byte).pending = s.pending := by
  unfold State.receive
  split
  · split <;> rfl
  · rfl
  · split <;> rfl
  · dsimp only
    split
    · unfold State.endFrame
      dsimp only
      split
      · exact pending_route _ p _ _
      · rfl
    · rfl
  · rfl

theorem pending_receiveAll (s : State) (p : Port) (bytes : List Byte) : (s.receiveAll p bytes).pending = s.pending :=
  List.foldlRecOn (motive := fun u : State => u.pending = s.pending) _ _ rfl
    fun u kept byte _ => (pending_receive u p byte).trans kept

theorem pending_discardFrame (s : State) (p : Port) : (s.discardFrame p).pending = s.pending := by
  unfold State.discardFrame
  split <;> rfl

theorem pending_endReply (s : State) (p : Port) : (s.endReply p).pending = s.pending := by
  unfold State.endReply
  split
  · dsimp only
    split <;> rfl
  · rfl

/-! ## The commands -/

/-- The outcome is a next state with the queue of commands as it was. -/
def Leaves (s : State) (o : Outcome) : Prop := ∃ t : State, o = .next t ∧ t.pending = s.pending

theorem leaves_next {s t : State} (kept : t.pending = s.pending) : Leaves s (.next t) := ⟨t, rfl, kept⟩

/-- A command that only a running part takes, after the warm restart where one is due (R188). -/
theorem leaves_running {act : State → State} (h : ∀ u, (act u).pending = u.pending) (s : State) :
    Leaves s (s.running act) := by
  refine leaves_next ?_
  unfold State.whenRunning
  split
  · exact h s
  · exact (h _).trans (pending_warmRestart s .request)
  · rfl
  · rfl

theorem leaves_request {own : State → Answer} (h : Owns own) (s : State) (p : Port) (kind : Nat) :
    Leaves s (s.request p kind own) := leaves_running (fun u => pending_take h u p kind) s

/-- A row whose effect is followed by the forming of the figures. -/
theorem leaves_formed {act : State → State} (h : ∀ u, (act u).pending = u.pending) (s : State) :
    Leaves s (s.running fun u => (act u).refresh) :=
  leaves_running (fun u => (State.refresh_pending _).trans (h u)) s

/-- Such a row where its effect is made only while a condition holds. -/
theorem leaves_guarded {act : State → State} {due : State → Prop} [DecidablePred due]
    (h : ∀ u, (act u).pending = u.pending) (s : State) :
    Leaves s (s.running fun u => if due u then (act u).refresh else u) := by
  refine leaves_running (fun u => ?_) s
  split
  · exact (State.refresh_pending _).trans (h u)
  · rfl

/-- A row that a part without supply does not take. -/
theorem leaves_supplied {s u : State} (kept : u.pending = s.pending) :
    Leaves s (.next (if s.phase = .off then s else u)) := by
  refine leaves_next ?_
  split
  · rfl
  · exact kept

theorem leaves_discard (s : State) (p : Port) (bytes : List Byte) :
    Leaves s (s.running fun u => (u.receiveAll p bytes).discardFrame p) :=
  leaves_running (fun u => (pending_discardFrame _ p).trans (pending_receiveAll u p bytes)) s

theorem leaves_warmRestart (s : State) (cause : RestartCause) : Leaves s (execWarmRestart cause s) := by
  unfold execWarmRestart
  split
  · exact leaves_next (pending_warmRestart s .request)
  · exact leaves_running (fun u => pending_warmRestart u _) s

/-- Settles O3: a request by its owner, a row of the line, the field, the timers or the supply by its operation. -/
theorem everyCommandAnswersNext : Obligations.EveryCommandAnswersNext := by
  unfold Obligations.EveryCommandAnswersNext
  intro i s
  show Leaves s (exec i s)
  cases i with
  | statusQuery => exact leaves_request (owns_read _) s _ _
  | cabinRead => exact leaves_request (owns_cabinRead _) s _ _
  | driveReport => exact leaves_request (owns_driveReport _ _ _ _) s _ _
  | berthQuery => exact leaves_request (owns_berthQuery _) s _ _
  | queueQuery => exact leaves_request (owns_queueQuery _) s _ _
  | partyAdd => exact leaves_request (owns_atPlatform (owns_partyAdd _ _ _ _) _) s _ _
  | partyCancel => exact leaves_request (owns_partyCancel _ _) s _ _
  | alightCount => exact leaves_request (owns_atPlatform (owns_alightCount _ _) _) s _ _
  | boardCount => exact leaves_request (owns_atPlatform (owns_boardCount _ _ _) _) s _ _
  | dispatch => exact leaves_request (owns_atPlatform (owns_dispatch _) _) s _ _
  | cabinHold => exact leaves_request (owns_cabinHold _ _) s _ _
  | platformStop => exact leaves_request (owns_atPlatform (owns_platformStop _) _) s _ _
  | configWrite => exact leaves_request (owns_configWrite _ _) s _ _
  | configRead => exact leaves_request (owns_configRead _) s _ _
  | configSave => exact leaves_request owns_configSave s _ _
  | configLock => exact leaves_request (fun _ => .locked) s _ _
  | cabinWrite => exact leaves_request (owns_cabinWrite _ _ _ _) s _ _
  | cabinService => exact leaves_request (owns_cabinService _ _) s _ _
  | occupancyDeclare => exact leaves_request (owns_occupancyDeclare _ _ _) s _ _
  | entrySet => exact leaves_request (owns_entrySet _ _ _ _) s _ _
  | entryRemove => exact leaves_request (owns_entryRemove _ _) s _ _
  | listClear => exact leaves_request owns_listClear s _ _
  | settings => exact leaves_request (owns_settings _ _ _ _) s _ _
  | planSwap => exact leaves_request owns_planSwap s _ _
  | planRead => exact leaves_request (owns_planRead _ _) s _ _
  | operatorHold => exact leaves_request (owns_operatorHold _) s _ _
  | holdRelease => exact leaves_request (owns_holdRelease _) s _ _
  | holdRead => exact leaves_request (owns_holdRead _) s _ _
  | parkAdvance => exact leaves_request (owns_parkAdvance _) s _ _
  | eventTake => exact leaves_request (owns_eventTake _) s _ _
  | restart => exact leaves_request (owns_read _) s _ _
  | unknownKindRequest port kind payload => exact leaves_running (fun u => pending_route u port kind payload) s
  | crcWrongDiscard port bytes => exact leaves_running (fun u => pending_receiveAll u port bytes) s
  | frameGapTimeout port bytes => exact leaves_discard s port bytes
  | framingError port bytes => exact leaves_discard s port bytes
  | replyEnd port => exact leaves_running (fun u => pending_endReply u port) s
  | forwardTick => exact leaves_formed pending_forwardTick s
  | reverseTick => exact leaves_formed pending_reverseTick s
  | indexEdge => exact leaves_guarded pending_takenEdge s
  | windowEnd => exact leaves_formed pending_windowEnd s
  | scanEnd pattern contacts => exact leaves_guarded (fun u => pending_endScan u pattern contacts) s
  | actuatorTimerExpiry platform => exact leaves_guarded (fun u => pending_expireActuator u platform) s
  | anemometerPulse sensor => exact leaves_running (fun u => u.pulse_pending sensor) s
  | scanStart => exact leaves_running State.startScan_pending s
  | blinkToggle => exact leaves_running (fun u => u.mapOutput_pending Output.toggle) s
  | sequenceStart => exact leaves_running (fun u => u.mapOutput_pending Output.startIfDue) s
  | sequenceEnd => exact leaves_running (fun u => u.mapOutput_pending Output.endSequence) s
  | refreshExpiry => exact leaves_running (fun u => u.mapOutput_pending Output.refreshDue) s
  | stopLineTaken platform lineOpen => exact leaves_running (fun u => pending_takeLine u platform lineOpen) s
  | driveSilenceExpiry => exact leaves_running pending_driveSilence s
  | saveDone passed => exact leaves_running (fun u => pending_endSave u passed) s
  | warmRestart cause => exact leaves_warmRestart s cause
  | supplyOn | supplyLoss => exact leaves_next rfl
  | restartLineHeld => exact leaves_supplied rfl
  | powerOnComplete openA openB => exact leaves_supplied (pending_powerOn s openA openB _)

end Sys2Proof.CommandQueue
end

section
/-! What a Sequencer's move reaches: the frame of a crossing, a retreat and a loss of position, the cabins of the visits
that stand after it, the hold sources it writes, and the kinds of its records (R60 to R65, R71 to R80). -/

namespace Sys2Proof.BerthMoves

open Machine CabinTable StatusLoop WindAssessment

/-! ## The reach -/

/-- The cabin of a platform's current visit. -/
def visitCabin (s : State) (pf : Platform) : Option Nat := (s.sequencers.get pf).current.map Visit.cabin

/-- Cabin `k` is one of the Cabin Table's, or that of the platform's current visit. -/
def Seated (s : State) (pf : Platform) (k : Nat) : Prop := k < s.cabins.length ∨ visitCabin s pf = some k

theorem seated_of_current {s : State} {pf : Platform} {v : Visit} (h : (s.sequencers.get pf).current = some v) :
    Seated s pf v.cabin :=
  .inr (by rw [visitCabin, h]; rfl)

/-- The kinds of the records that a Sequencer's move makes. -/
def moveKinds : List EventKind := reactionKinds ++ [.visitStart, .visitEnd, .missedBerth]

/-- The hold sources that a Sequencer's move writes (R64, R76). -/
def visitSources : List Source := [.doorLate, .berthMiss]

/-- The state `t` differs from `s` at most in the visits, the cabins apart from their doors, the queues, the output image,
the park record, the unload-complete flag, and the sources of `srcs`; each current visit is of a cabin of the table or of
the cabin it was of, and every record is one that a Sequencer's move makes. -/
structure Reach (srcs : List Source) (s t : State) : Prop extends Fed s t where
  brakeDemand : t.brakeDemand = s.brakeDemand
  output : t.output = { s.output with image := t.output.image }
  unload : t.unload = { s.unload with complete := t.unload.complete }
  permit : t.permit = { s.permit with park := t.permit.park }
  visits : ∀ (pf : Platform) (k : Nat), visitCabin t pf = some k → Seated s pf k
  sources : ∀ src : Source, src ∉ srcs → t.holds.table.get src = s.holds.table.get src
  held : s.holds.held = s.holds.table.heldGrade → t.holds.held = t.holds.table.heldGrade
  records : Logs (fun e => e.kind ∈ moveKinds) s t

theorem Reach.refl (srcs : List Source) (s : State) : Reach srcs s s :=
  { Fed.refl s with
    brakeDemand := rfl, output := rfl, unload := rfl, permit := rfl, visits := fun _ _ h => .inr h
    sources := fun _ _ => rfl, held := id, records := .keep rfl }

theorem Reach.trans {srcs : List Source} {s t u : State} (h : Reach srcs s t) (k : Reach srcs t u) :
    Reach srcs s u :=
  { h.toFed.trans k.toFed with
    brakeDemand := k.brakeDemand.trans h.brakeDemand
    output := by rw [k.output, h.output]
    unload := by rw [k.unload, h.unload]
    permit := by rw [k.permit, h.permit]
    visits := fun pf i seat => (k.visits pf i seat).elim (fun lt => .inl (h.length ▸ lt)) (h.visits pf i)
    sources := fun src ne => (k.sources src ne).trans (h.sources src ne)
    held := fun formed => k.held (h.held formed)
    records := h.records.trans k.records }

theorem Reach.mono {srcs more : List Source} {s t : State} (h : Reach srcs s t) (sub : ∀ src ∈ srcs, src ∈ more) :
    Reach more s t :=
  { h with sources := fun src ne => h.sources src fun mem => ne (sub src mem) }

theorem Reach.seated {srcs : List Source} {s t : State} (h : Reach srcs s t) {pf : Platform} {k : Nat}
    (seat : Seated t pf k) : Seated s pf k :=
  seat.elim (fun lt => .inl (h.length ▸ lt)) (h.visits pf k)

/-! ## What has this reach -/

section

variable {srcs : List Source} {s t : State}

/-- A write to the visits, the cabins, the queues, the output image and the Event Stack. -/
theorem Reach.of_write (fed : Fed s t) (kept : t.brakeDemand = s.brakeDemand ∧ t.unload = s.unload ∧
    t.permit = s.permit ∧ t.holds = s.holds) (output : t.output = { s.output with image := t.output.image })
    (visits : ∀ (pf : Platform) (k : Nat), visitCabin t pf = some k → Seated s pf k)
    (records : Logs (fun e => e.kind ∈ moveKinds) s t) : Reach srcs s t :=
  let ⟨brakeDemand, unload, permit, holds⟩ := kept
  { fed with
    brakeDemand, output, visits, records
    unload := by rw [unload]
    permit := by rw [permit]
    sources := fun _ _ => by rw [holds]
    held := fun formed => by rw [holds]; exact formed }

/-- A platform's Sequencer written, its visit of a known cabin. -/
theorem visits_of_set {pf : Platform} {q : Sequencer} (written : t.sequencers = s.sequencers.set pf q)
    (seat : ∀ v, q.current = some v → Seated s pf v.cabin) (other : Platform) (k : Nat)
    (same : visitCabin t other = some k) : Seated s other k := by
  rw [visitCabin, written] at same
  by_cases e : other = pf
  · subst e
    rw [PerPlatform.get_set_same] at same
    obtain ⟨v, current, rfl⟩ := Option.map_eq_some_iff.mp same
    exact seat v current
  · rw [PerPlatform.get_set_other _ _ e] at same
    exact .inr same

theorem visitCabin_reaction (r : Reaction s t) (pf : Platform) : visitCabin t pf = visitCabin s pf := by
  have same := congrArg (fun q : Sequencer => q.current.map Visit.cabin) (r.visits pf)
  simpa [apartFromAssignment, visitCabin, Function.comp_def] using same

theorem Reach.of_reaction (r : Reaction s t)
    (sources : ∀ src : Source, src ∉ srcs → t.holds.table.get src = s.holds.table.get src)
    (held : s.holds.held = s.holds.table.heldGrade → t.holds.held = t.holds.table.heldGrade)
    (records : Logs (fun e => e.kind ∈ reactionKinds) s t) : Reach srcs s t :=
  { Fed.of_reaction r with
    brakeDemand := r.brakeDemand
    output := by rw [r.output]
    unload := r.unload
    permit := r.permit
    visits := fun pf k same => .inr (by rwa [visitCabin_reaction r] at same)
    sources, held
    records := records.mono fun _ mem => List.mem_append_left _ mem }

end

section

variable {srcs : List Source} (s : State)

theorem reach_changeSource {src : Source} (mem : src ∈ srcs) (f : HoldRecord → HoldRecord) :
    Reach srcs s (s.changeSource src f) := by
  refine .of_reaction (State.changeSource_reaction s src f) (fun other ne => ?_) (fun _ => ?_)
    ((logs_changeSource s src f).mono fun _ setOff => setOff.1)
  · rw [State.changeSource_holds]
    exact HoldTable.get_set_other _ _ fun e => ne (e ▸ mem)
  · rw [State.changeSource_holds]

theorem reach_setCondition {src : Source} (mem : src ∈ srcs) (g : Grade) : Reach srcs s (s.setCondition src g) := by
  unfold State.setCondition
  split
  · exact .refl _ s
  · exact reach_changeSource s mem _

theorem reach_deliverEvent {src : Source} (mem : src ∈ srcs) (g : Grade) : Reach srcs s (s.deliverEvent src g) := by
  unfold State.deliverEvent
  split
  · exact .refl _ s
  · exact reach_changeSource s mem _

theorem reach_assignIfDue (pf : Platform) : Reach srcs s (s.assignIfDue pf) :=
  .of_reaction (State.assignIfDue_reaction s pf) (fun _ _ => by rw [State.assignIfDue_holds])
    (fun formed => by rw [State.assignIfDue_holds]; exact formed)
    ((logs_assignIfDue s .doorLate pf).mono fun _ setOff => setOff.1)

theorem reach_append {r : EventRecord} (mem : r.kind ∈ moveKinds) : Reach srcs s (s.append r) := by
  have r' := State.append_reaction s r
  refine .of_write (.of_reaction r') ⟨r'.brakeDemand, ?_⟩ (by rw [r'.output]) (fun pf k same => .inr ?_) (.append s mem)
  · obtain ⟨e, eq⟩ := s.append_eq r
    rw [eq]
    exact ⟨rfl, rfl, rfl⟩
  · rwa [visitCabin_reaction r'] at same

theorem reach_command (pf : Platform) (code : ActuatorCode) : Reach srcs s (s.command pf code) :=
  .of_write (fed_command s pf code) ⟨rfl, rfl, rfl, rfl⟩ rfl (fun _ _ same => .inr same) (.keep rfl)

theorem reach_setSequencer (pf : Platform) {q : Sequencer} (seat : ∀ v, q.current = some v → Seated s pf v.cabin) :
    Reach srcs s (s.setSequencer pf q) :=
  .of_write ⟨rfl, rfl, rfl, rfl, rfl, rfl, rfl, rfl, rfl, rfl, rfl, fun _ => rfl⟩ ⟨rfl, rfl, rfl, rfl⟩ rfl
    (visits_of_set rfl seat) (.keep rfl)

theorem reach_visited {pf : Platform} {k : Nat} (seat : Seated s pf k) (v : Visit)
    (timer : Option Nat) (same : v.cabin = k := by rfl) : Reach srcs s (visited s pf v timer) :=
  reach_setSequencer s pf fun _ current => by cases current; exact same ▸ seat

theorem reach_setVisit {pf : Platform} {k : Nat} (seat : Seated s pf k) (v : Visit)
    (same : v.cabin = k := by rfl) : Reach srcs s (s.setVisit pf v) :=
  reach_setSequencer s pf fun _ current => by cases current; exact same ▸ seat

theorem reach_setTimer (pf : Platform) (timer : Option Nat) : Reach srcs s (s.setTimer pf timer) :=
  reach_setSequencer s pf fun _ current => seated_of_current current

end

/-! ## The moves of a visit -/

section

variable (s : State) (pf : Platform)

theorem reach_formDoorLate : Reach visitSources s s.formDoorLate := reach_setCondition s (by decide) _

theorem reach_endedVisit (v : Visit) : Reach visitSources s (endedVisit s pf v) := by
  refine .of_write (fed_endedVisit s pf v) ⟨rfl, rfl, rfl, rfl⟩ rfl
    (visits_of_set rfl fun _ current => nomatch current) ?_
  by_cases passing : v.state = .passing
  · exact .keep (by rw [endedVisit]; simp [passing])
  · refine ⟨[berthRecord s .visitEnd v.cabin pf v.endValue], by simp [endedVisit, passing, Recorded], ?_⟩
    simp [berthRecord, moveKinds]

theorem reach_endVisit (v : Visit) : Reach visitSources s (s.endVisit pf v) := by
  rw [endVisit_eq]
  split
  · exact (reach_endedVisit s pf v).trans (reach_formDoorLate _)
  · exact reach_endedVisit s pf v

variable {pf}

theorem reach_beginClosing {v : Visit} (seat : Seated s pf v.cabin) : Reach visitSources s (s.beginClosing pf v) := by
  have closed := reach_command (srcs := visitSources) s pf .close
  have still : Seated (s.command pf .close) pf v.cabin := seat
  have entered : Reach visitSources s
      (visited (s.command pf .close) pf { v with state := .closing, retries := 0 } (some s.settings.actuatorTime)) :=
    closed.trans (reach_visited _ still _ _)
  rw [beginClosing_eq]
  split
  · split
    · exact entered.trans (reach_endVisit _ pf _)
    · exact closed.trans (reach_visited _ still _ _)
  · exact entered

theorem reach_testLatched {v : Visit} (seat : Seated s pf v.cabin) : Reach visitSources s (s.testLatched pf v) := by
  unfold State.testLatched
  rw [setVisit_setTimer]
  split
  · split
    · exact reach_endVisit s pf v
    · have still : Seated (s.command pf .close) pf v.cabin := seat
      exact (reach_command s pf .close).trans (reach_visited _ still _ _)
  · exact .refl _ s

theorem reach_testOpen {v : Visit} (seat : Seated s pf v.cabin) : Reach visitSources s (s.testOpen pf v) := by
  unfold State.testOpen
  rw [setVisit_setTimer]
  split
  · exact (reach_visited s seat _ _).trans (reach_assignIfDue _ pf)
  · exact .refl _ s

theorem reach_makeLate {v : Visit} (seat : Seated s pf v.cabin) : Reach visitSources s (s.makeLate pf v) :=
  (reach_setSequencer s pf fun _ current => by cases current; exact seat).trans (reach_formDoorLate _)

/-- The cabin that has a visit put in its record. -/
theorem reach_enterCabin (k : Nat) : Reach visitSources s (s.modifyCabin k fun c => { c with inVisit := some pf }) := by
  refine .of_write ⟨rfl, rfl, rfl, rfl, rfl, rfl, rfl, rfl, rfl, rfl, List.length_modify .., fun i => ?_⟩
    ⟨rfl, rfl, rfl, rfl⟩ rfl (fun _ _ same => .inr same) (.keep rfl)
  rw [State.modifyCabin_cabins, List.getElem?_modify]
  by_cases e : k = i <;> cases s.cabins[i]? <;> simp [e]

theorem reach_createVisit {k : Nat} (c : Cabin) (known : k < s.cabins.length) :
    Reach visitSources s (s.createVisit pf k c) := by
  have entered : Reach visitSources s (s.setSequencer pf
      { s.sequencers.get pf with current := some (s.newVisit pf k c), visitNumber := (s.newVisit pf k c).number }) :=
    reach_setSequencer s pf fun _ current => by cases current; exact .inl known
  unfold State.createVisit
  dsimp only
  generalize State.setSequencer _ _ _ = t at entered ⊢
  split
  · exact entered
  · have started : Reach visitSources s (State.logBerth
        (((t.command pf .opening).modifyCabin k fun c => { c with inVisit := some pf }).startTimer pf)
        .visitStart k pf (s.newVisit pf k c).directive.code) :=
      (((entered.trans (reach_command t pf _)).trans (reach_enterCabin _ k)).trans (reach_setTimer _ pf _)).trans
        (reach_append _ (by simp [moveKinds]))
    exact started.trans (reach_testOpen _ (.inl (started.length ▸ known)))

variable (pf)

theorem reach_takeEnter (k : Nat) : Reach visitSources s (s.takeEnter pf k) := by
  have missed (v : Visit) : Reach visitSources s (s.logBerth .missedBerth k pf v.cabin) :=
    reach_append s (by simp [moveKinds])
  unfold State.takeEnter State.missBerth
  split
  next v _ =>
    split
    · exact .refl _ s
    · dsimp only
      split
      · exact (missed v).trans (reach_deliverEvent _ (by decide) _)
      · exact missed v
  · split
    next c known => exact reach_createVisit s c (List.getElem?_eq_some_iff.mp known).1
    · exact .refl _ s

theorem reach_takeClose (k : Nat) : Reach visitSources s (s.takeClose pf k) := by
  unfold State.takeClose
  split
  next v current =>
    split
    · exact reach_beginClosing s (seated_of_current current)
    · exact .refl _ s
  · exact .refl _ s

theorem reach_takeExit (k : Nat) : Reach visitSources s (s.takeExit pf k) := by
  unfold State.takeExit
  split
  next v current =>
    have seat : Seated s pf v.cabin := seated_of_current current
    have late : Reach visitSources s (s.makeLate pf { v with late := true }) := reach_makeLate s seat
    have seated : Seated (s.makeLate pf { v with late := true }) pf v.cabin := by
      refine .inr ?_
      rw [State.makeLate, visitCabin_reaction (State.formDoorLate_reaction _)]
      simp [visitCabin]
    split
    · exact .refl _ s
    · dsimp only
      split
      · exact reach_endVisit s pf _
      · exact reach_endVisit s pf _
      · exact late
      · exact late.trans (reach_beginClosing _ seated)
      · exact late.trans (reach_beginClosing _ seated)
  · exact .refl _ s

theorem reach_takeCrossing (x : Nat × Crossing) : Reach visitSources s (s.takeCrossing pf x) := by
  unfold State.takeCrossing
  split
  · exact reach_takeEnter s pf _
  · exact reach_takeClose s pf _
  · exact reach_takeExit s pf _

theorem reach_takeRetreat (k : Nat) : Reach visitSources s (s.takeRetreat pf k) := by
  unfold State.takeRetreat
  split
  · split
    · exact .refl _ s
    · split
      · exact reach_endVisit s pf _
      · split
        · exact (reach_command s pf .close).trans (reach_endVisit _ pf _)
        · exact .refl _ s
  · exact .refl _ s

theorem reach_losePosition : Reach visitSources s (s.losePosition pf) := by
  unfold State.losePosition
  split
  next v current =>
    dsimp only
    split
    · exact reach_endVisit s pf _
    · exact reach_setVisit s (seated_of_current current) _
  · exact .refl _ s

theorem reach_feedBack (door : DoorState) : Reach visitSources s (s.feedBack pf door) := by
  unfold State.feedBack
  split
  next v current =>
    have seat : Seated s pf v.cabin := seated_of_current current
    split
    · exact reach_testOpen s seat
    · exact reach_testLatched s seat
    · split
      · rw [setVisit_startTimer]
        exact reach_visited s seat _ _
      · exact .refl _ s
    · exact .refl _ s
    · exact .refl _ s
  · exact .refl _ s

theorem reach_expireActuator : Reach visitSources s (s.expireActuator pf) := by
  have stopped : Reach visitSources s (s.setTimer pf none) := reach_setTimer s pf none
  unfold State.expireActuator
  split
  next v _ current =>
    have seat : Seated s pf v.cabin := seated_of_current current
    split
    · exact reach_beginClosing s seat
    · split
      · rw [setVisit_startTimer]
        have reclosed : Reach visitSources s (s.reclose pf) :=
          .of_write ⟨rfl, rfl, rfl, rfl, rfl, rfl, rfl, rfl, rfl, rfl, rfl, fun _ => rfl⟩ ⟨rfl, rfl, rfl, rfl⟩ rfl
            (fun _ _ same => .inr same) (.keep rfl)
        have still : Seated (s.reclose pf) pf v.cabin := seat
        exact reclosed.trans (reach_visited _ still _ _)
      · rw [setVisit_setTimer]
        exact reach_visited s seat _ _
    · exact stopped
    · exact stopped
    · exact stopped
  · exact stopped
  · exact .refl _ s

/-! ## What a movement of the wheel hands over -/

theorem reach_handCrossings (before after : Nat) : Reach visitSources s (s.handCrossings before after pf) :=
  List.foldlRecOn (motive := Reach visitSources s) _ _ (.refl _ s) fun _ h x _ => h.trans (reach_takeCrossing _ pf x)

theorem reach_handRetreats (before after : Nat) : Reach visitSources s (s.handRetreats before after pf) :=
  List.foldlRecOn (motive := Reach visitSources s) _ _ (.refl _ s) fun _ h k _ => h.trans (reach_takeRetreat _ pf k)

end

/-! ## The tests of the park record -/

section

variable (s : State)

theorem reach_parkedTest : Reach [.parkOvershoot] s s.parkedTest :=
  .of_reaction (State.parkedTest_reaction s) (fun _ _ => by rw [s.parkedTest_holds])
    (fun formed => by rw [s.parkedTest_holds]; exact formed)
    ((logs_parkedTest s .parkOvershoot).mono fun _ setOff => setOff.1)

theorem reach_unparkTest : Reach [.parkOvershoot] s s.unparkTest := by
  have still : s.unparkTest.holds = s.holds ∧ s.unparkTest.events = s.events := by
    unfold State.unparkTest
    split
    · exact ⟨rfl, rfl⟩
    · split <;> exact ⟨rfl, rfl⟩
  obtain ⟨holds, events⟩ := still
  exact .of_reaction (State.unparkTest_reaction s) (fun _ _ => by rw [holds]) (fun formed => by rw [holds]; exact formed)
    (.keep events)

theorem reach_overshootTest : Reach [.parkOvershoot] s s.overshootTest := by
  unfold State.overshootTest
  split
  · exact reach_deliverEvent s (by decide) _
  · exact .refl _ s

theorem reach_parkTests : Reach [.parkOvershoot] s s.parkTests :=
  ((reach_unparkTest s).trans (reach_parkedTest _)).trans (reach_overshootTest _)

theorem reach_movedTests (moved : Bool) : Reach [.parkOvershoot] s (s.movedTests moved) := by
  cases moved with
  | false => exact .refl _ s
  | true => exact (reach_parkedTest s).trans (reach_overshootTest _)

end

end Sys2Proof.BerthMoves
end

section
/-! R14, R1, R19, R11, R183: the geometry stays legal, θ on the wheel, a record for each cabin, and a save in progress
sound. What these speak of is named once, and the commands are taken by what they do to it. -/

namespace Sys2Proof.WheelAndSave

open Machine CabinTable StatusLoop HoldGrades BerthMoves

/-! ## A move that keeps the wheel sound -/

/-- Every current visit is of a cabin of the table. -/
def VisitsSeated (s : State) : Prop := ∀ (pf : Platform) (k : Nat), visitCabin s pf = some k → k < s.cabins.length

theorem visitsSeated_iff (s : State) : VisitsSeated s ↔
    ∀ (pf : Platform) (v : Visit), (s.sequencers.get pf).current = some v → v.cabin < s.cabins.length := by
  refine ⟨fun h pf v current => h pf v.cabin (by rw [visitCabin, current]; rfl), fun h pf k same => ?_⟩
  obtain ⟨v, current, rfl⟩ := Option.map_eq_some_iff.mp same
  exact h pf v current

/-- The slots and the save in progress. -/
def saves (s : State) : Slots × Option SaveJob := (s.store.slots, s.store.saving)

theorem saveKept_congr {s t : State} (same : saves t = saves s) (h : SaveKept s) : SaveKept t := by
  have slots : t.store.slots = s.store.slots := congrArg Prod.fst same
  have saving : t.store.saving = s.store.saving := congrArg Prod.snd same
  unfold SaveKept
  rw [slots, saving]
  exact h

/-- The wheel stays sound from `s` to `t`, and the store's slots and its save in progress are as they were. -/
structure SoundMove (s t : State) : Prop where
  wheel : WheelSound s → WheelSound t
  saves : saves t = saves s

theorem SoundMove.refl (s : State) : SoundMove s s := ⟨id, rfl⟩

theorem SoundMove.trans {s t u : State} (h : SoundMove s t) (k : SoundMove t u) : SoundMove s u :=
  ⟨fun sound => k.wheel (h.wheel sound), k.saves.trans h.saves⟩

/-- What the soundness of the wheel reads beside the visits. -/
def wheelReads (s : State) : Geometry × (Nat × Bool × List CrossedPoint) × Nat × Nat :=
  (s.geometry, (s.position.theta, s.position.verified, s.position.stillCrossed), s.cabins.length, s.loop.cabins.length)

section

variable {s t : State}

/-- The wheel as it was, each visit of a cabin of the table or of the cabin it was of. -/
theorem soundMove_of_seated (same : wheelReads t = wheelReads s) (kept : saves t = saves s)
    (visits : ∀ (pf : Platform) (k : Nat), visitCabin t pf = some k → Seated s pf k) : SoundMove s t := by
  refine ⟨fun ⟨geometry, theta, crossed, cabins, loop, seated⟩ => ?_, kept⟩
  simp only [wheelReads, Prod.mk.injEq] at same
  obtain ⟨sameGeometry, ⟨sameTheta, sameVerified, sameCrossed⟩, sameCabins, sameLoop⟩ := same
  rw [← visitsSeated_iff] at seated
  have seated' : VisitsSeated t := fun pf k current =>
    sameCabins ▸ (visits pf k current).elim id fun was => seated pf k was
  rw [WheelSound, sameGeometry, sameTheta, sameVerified, sameCrossed, sameLoop, ← visitsSeated_iff]
  exact ⟨geometry, theta, crossed, sameCabins.trans cabins, loop, seated'⟩

theorem soundMove_of_reads (same : wheelReads t = wheelReads s) (kept : saves t = saves s)
    (visits : t.sequencers = s.sequencers) : SoundMove s t :=
  soundMove_of_seated same kept fun pf k current => .inr (by rwa [visitCabin, visits] at current)

theorem soundMove_reaction (r : Reaction s t) : SoundMove s t := by
  refine soundMove_of_seated ?_ ?_ fun pf k current => .inr (by rwa [visitCabin_reaction r] at current)
  · rw [wheelReads, State.geometry, r.store, r.position, r.cabins, r.loop]
    rfl
  · rw [saves, r.store]
    rfl

theorem soundMove_reach {srcs : List Source} (r : Reach srcs s t) : SoundMove s t := by
  refine soundMove_of_seated ?_ ?_ r.visits
  · rw [wheelReads, State.geometry, r.store, r.position, r.length, r.loop]
    rfl
  · rw [saves, r.store]
    rfl

end

section

variable (s : State)

theorem soundMove_refresh : SoundMove s s.refresh := soundMove_of_reads rfl rfl rfl

theorem soundMove_append (r : EventRecord) : SoundMove s (s.append r) := soundMove_reaction (State.append_reaction s r)

theorem soundMove_changeSource (src : Source) (f : HoldRecord → HoldRecord) : SoundMove s (s.changeSource src f) :=
  soundMove_reaction (State.changeSource_reaction s src f)

theorem soundMove_setCondition (src : Source) (g : Grade) : SoundMove s (s.setCondition src g) :=
  soundMove_reaction (State.setCondition_reaction s src g)

theorem soundMove_deliverEvent (src : Source) (g : Grade) : SoundMove s (s.deliverEvent src g) :=
  soundMove_reaction (State.deliverEvent_reaction s src g)

/-- The contacts and the away set written, a record for each cabin as before. -/
theorem soundMove_loop {x : Loop} (length : x.cabins.length = s.loop.cabins.length) :
    SoundMove s { s with loop := x } :=
  soundMove_of_reads (by rw [wheelReads, length]; rfl) rfl rfl

theorem soundMove_judgeAway : SoundMove s s.judgeAway :=
  (soundMove_loop s (x := { s.loop with away := s.awaySet }) rfl).trans (soundMove_setCondition _ _ _)

/-- The position written, θ on the wheel and no point crossed without a verified position. -/
theorem soundMove_position {x : Position} (theta : WheelSound s → x.theta < s.geometry.p)
    (crossed : WheelSound s → x.verified = false → x.stillCrossed = []) : SoundMove s { s with position := x } :=
  ⟨fun h => let ⟨geometry, _, _, cabins, loop, seated⟩ := h
    ⟨geometry, theta h, crossed h, cabins, loop, seated⟩, rfl⟩

theorem wheel_pos {s : State} (h : WheelSound s) : 0 < s.geometry.p := Nat.zero_lt_of_lt h.2.1

/-- The position written, the wheel apart. -/
theorem soundMove_positionFigures {x : Position} (same : (x.theta, x.verified, x.stillCrossed) =
    (s.position.theta, s.position.verified, s.position.stillCrossed)) : SoundMove s { s with position := x } :=
  soundMove_of_reads (by rw [wheelReads]; dsimp only; rw [same]; rfl) rfl rfl

/-- One cabin's record changed. -/
theorem soundMove_modifyCabin (k : Nat) (f : Cabin → Cabin) : SoundMove s (s.modifyCabin k f) :=
  soundMove_of_reads (by rw [wheelReads, State.modifyCabin_cabins, List.length_modify]; rfl) rfl rfl

theorem soundMove_recount : SoundMove s s.recount := by
  have counted : SoundMove s { s with unload := { s.unload with occupied := occupiedCount s.cabins } } :=
    soundMove_of_reads rfl rfl rfl
  exact counted.trans (soundMove_reaction (State.judgeUnload_reaction _))

theorem soundMove_writeCabin (k : Nat) (f : Cabin → Cabin) : SoundMove s (s.writeCabin k f) :=
  (soundMove_modifyCabin s k f).trans (soundMove_recount _)

/-! ## The wheel -/

theorem soundMove_parkTests : SoundMove s s.parkTests := soundMove_reach (reach_parkTests s)

theorem soundMove_handCrossings (before after : Nat) (pf : Platform) : SoundMove s (s.handCrossings before after pf) :=
  soundMove_reach (reach_handCrossings s pf before after)

theorem soundMove_handRetreats (before after : Nat) (pf : Platform) : SoundMove s (s.handRetreats before after pf) :=
  soundMove_reach (reach_handRetreats s pf before after)

/-- A tick that has gone over a point leaves fewer crossed. -/
theorem soundMove_passOver (theta : Nat) : SoundMove s (s.passOver theta) := by
  refine soundMove_position s (fun ⟨_, h, _⟩ => h) fun ⟨_, _, crossed, _⟩ unverified => ?_
  rw [Position.passOver, crossed unverified]
  rfl

theorem soundMove_forwardTick : SoundMove s s.forwardTick := by
  have moved : SoundMove s { s with position := s.position.forward s.geometry } :=
    soundMove_position s (fun h => Nat.mod_lt _ (wheel_pos h)) fun ⟨_, _, crossed, _⟩ => crossed
  unfold State.forwardTick
  exact ((((moved.trans (soundMove_handCrossings _ _ _ .a)).trans (soundMove_handCrossings _ _ _ .b)).trans
    (soundMove_passOver _ _)).trans (soundMove_parkTests _)).trans (soundMove_judgeAway _)

theorem soundMove_reverseTest : SoundMove s s.reverseTest := by
  have restarted : SoundMove s { s with position := { s.position with reverseRun := 0 } } :=
    soundMove_positionFigures s rfl
  unfold State.reverseTest
  split
  · exact restarted.trans (soundMove_deliverEvent _ _ _)
  · exact .refl s

theorem soundMove_reverseTick : SoundMove s s.reverseTick := by
  have moved : SoundMove s { s with position := s.position.backward s.geometry } := by
    refine soundMove_position s (fun h => Nat.mod_lt _ (wheel_pos h)) fun ⟨_, _, crossed, _⟩ unverified => ?_
    rw [Position.backward, Position.passOver]
    dsimp only
    rw [crossed unverified]
    rfl
  unfold State.reverseTick
  exact ((((moved.trans (soundMove_reverseTest _)).trans (soundMove_handRetreats _ _ _ .a)).trans
    (soundMove_handRetreats _ _ _ .b)).trans (soundMove_parkTests _)).trans (soundMove_judgeAway _)

theorem soundMove_planBoundary : SoundMove s s.planBoundary := by
  have plans (u : State) (x : Plans) : SoundMove u { u with plans := x } := soundMove_of_reads rfl rfl rfl
  have counted : SoundMove s
      (if s.plans.planEnd then s else { s with plans := s.plans.setActive s.plans.active.countRevolution }) := by
    split
    · exact .refl s
    · exact plans s _
  unfold State.planBoundary
  dsimp only
  generalize (if s.plans.planEnd then s else _ : State) = u at counted ⊢
  split
  · exact ((counted.trans (plans u _)).trans (soundMove_setCondition _ _ _)).trans (soundMove_append _ _)
  · split
    · exact ((counted.trans (plans u _)).trans (soundMove_append _ _)).trans (soundMove_setCondition _ _ _)
    · exact counted

theorem soundMove_boundary : SoundMove s s.boundary := by
  have counted : SoundMove s
      { s with position := { s.position with revolutions := (s.position.revolutions + 1) % 65536 } } :=
    soundMove_positionFigures s rfl
  exact counted.trans (soundMove_planBoundary _)

/-- A park record changed. -/
theorem soundMove_setPark (r : Option ParkRecord) : SoundMove s (s.setPark r) := soundMove_of_reads rfl rfl rfl

/-- An index edge within the tolerance, taken where the position is verified (R4). -/
theorem soundMove_goodEdge (verified : s.position.verified = true) (d : Int) : SoundMove s (s.goodEdge d) := by
  have corrected : SoundMove s (s.correct d) :=
    soundMove_position s wheel_pos fun _ unverified => nomatch verified.symm.trans unverified
  have shifted : SoundMove s (((s.correct d).logPlain .index d).shiftTarget d) := by
    have logged : SoundMove s ((s.correct d).logPlain .index d) := corrected.trans (soundMove_append _ _)
    refine logged.trans ?_
    unfold State.shiftTarget
    split
    · exact .refl _
    · split
      · exact soundMove_setPark _ _
      · exact .refl _
  unfold State.goodEdge
  dsimp only
  refine ((SoundMove.trans ?_ (soundMove_boundary _)).trans (soundMove_reach (reach_movedTests _ _))).trans (soundMove_judgeAway _)
  split
  · exact (shifted.trans (soundMove_handCrossings _ _ _ .a)).trans (soundMove_handCrossings _ _ _ .b)
  · exact shifted

theorem soundMove_badEdge (d : Int) : SoundMove s (s.badEdge d) := by
  have unverified : SoundMove s
      { s with position := { s.position with theta := 0, verified := false, stillCrossed := [] } } :=
    soundMove_position s wheel_pos fun _ _ => rfl
  unfold State.badEdge
  exact (((((unverified.trans (soundMove_append _ _)).trans (soundMove_changeSource _ _ _)).trans
    (soundMove_reach (reach_losePosition _ .a))).trans (soundMove_reach (reach_losePosition _ .b))).trans (soundMove_boundary _)).trans
    (soundMove_judgeAway _)

theorem soundMove_verifyEdge : SoundMove s s.verifyEdge := by
  have verified : SoundMove s
      { s with position := { s.position with theta := 0, verified := true, stillCrossed := [] } } :=
    soundMove_position s wheel_pos fun _ _ => rfl
  have retargeted (u : State) : SoundMove u u.retarget := by
    unfold State.retarget
    split
    · exact .refl u
    · split
      · exact soundMove_setPark u _
      · exact .refl u
  unfold State.verifyEdge
  exact ((((verified.trans (soundMove_append _ _)).trans (retargeted _)).trans (soundMove_setCondition _ _ _)).trans
    (soundMove_reach (reach_movedTests _ _))).trans (soundMove_judgeAway _)

theorem soundMove_takenEdge : SoundMove s s.takenEdge := by
  unfold State.takenEdge
  split
  next verified =>
    dsimp only
    split
    · exact soundMove_goodEdge s verified _
    · exact soundMove_badEdge s _
  · exact soundMove_verifyEdge s

/-! ## The wind -/

theorem soundMove_windowEnd : SoundMove s s.windowEnd := by
  have closed : SoundMove s { s with position := s.position.closeWindow } := soundMove_positionFigures s rfl
  have wind (u : State) (x : Wind) : SoundMove u { u with wind := x } := soundMove_of_reads rfl rfl rfl
  have logged (u : State) (k : Sensor) (c : SensorChange) : SoundMove u (u.logSensor k c) := by
    cases c with
    | same => exact .refl u
    | stalled | overran | recovered => exact soundMove_append u _
  have tested (u : State) : SoundMove u u.testSensors := ((wind u _).trans (logged _ _ _)).trans (logged _ _ _)
  have judged (u : State) : SoundMove u u.judgeClass := by
    unfold State.judgeClass State.changeClass
    dsimp only
    split
    · exact wind u _
    · exact ((wind u _).trans (soundMove_append _ _)).trans (soundMove_setCondition _ _ _)
  unfold State.windowEnd State.windWindow
  exact (((((closed.trans (soundMove_reaction (State.parkedTest_reaction _))).trans (wind _ _)).trans (tested _)).trans
    (wind _ _)).trans (soundMove_setCondition _ _ _)).trans (judged _)

/-! ## The Status Loop -/

theorem soundMove_takeContacts {after : Loop} (length : after.cabins.length = s.loop.cabins.length) :
    SoundMove s (s.takeContacts after) := by
  have written : SoundMove s (State.writeDoors { s with loop := after }) := by
    refine soundMove_of_reads ?_ rfl rfl
    rw [wheelReads, State.writeDoors]
    dsimp only
    rw [length, List.length_mapIdx]
    rfl
  have appended (u : State) (xs : List EventRecord) : SoundMove u (xs.foldl State.append u) :=
    List.foldlRecOn (motive := SoundMove u) _ _ (.refl u) fun _ h r _ => h.trans (soundMove_append _ r)
  rw [takeContacts_eq]
  exact ((written.trans (appended _ _)).trans (soundMove_reach (reach_feedBack _ .a _))).trans (soundMove_reach (reach_feedBack _ .b _))

theorem soundMove_clearLoopFault : SoundMove s s.clearLoopFault := by
  have cleared : SoundMove s { s with loop := { s.loop with loopFault := false } } := soundMove_loop s rfl
  unfold State.clearLoopFault
  split
  · dsimp only
    exact (cleared.trans (soundMove_append _ _)).trans (soundMove_setCondition _ _ _)
  · exact .refl s

theorem soundMove_goodScan (stale : Bool) (r : Readings) : SoundMove s (s.goodScan stale r) := by
  have cleared := soundMove_clearLoopFault s
  unfold State.goodScan
  generalize s.clearLoopFault = u at cleared ⊢
  have counted : SoundMove s { u with loop := { u.loop with failedCount := 0 } } :=
    cleared.trans (soundMove_loop u rfl)
  dsimp only
  split
  · exact counted
  · exact counted.trans (soundMove_takeContacts _ List.length_mapIdx)

theorem soundMove_failedScan : SoundMove s s.failedScan := by
  have counted : SoundMove s
      { s with loop := { s.loop with failedCount := min 32767 (s.loop.failedCount + 1) } } := soundMove_loop s rfl
  unfold State.failedScan
  dsimp only
  generalize ({ s with loop := _ } : State) = u at counted ⊢
  split
  · have logged : SoundMove s (u.logPlain .loopFault 2) := counted.trans (soundMove_append u _)
    exact (logged.trans (soundMove_takeContacts _ (List.length_map _))).trans (soundMove_setCondition _ _ _)
  · exact counted

theorem soundMove_endScan (pattern : Byte) (contacts : List Bool) : SoundMove s (s.endScan pattern contacts) := by
  have ended : SoundMove s { s with loop := { s.loop with scan := none } } := soundMove_loop s rfl
  unfold State.endScan
  split
  · exact .refl s
  · dsimp only
    generalize ({ s with loop := _ } : State) = u at ended ⊢
    refine SoundMove.trans ?_ (soundMove_judgeAway _)
    split
    · exact ended.trans (soundMove_goodScan u _ _)
    · exact ended.trans (soundMove_failedScan u)

end

end Sys2Proof.WheelAndSave
end

section
/-! R14, R19, R183 at a configuration write, the requests, the timers, the restarts and the saves, and the statement that
every step keeps the wheel and the store sound. -/

namespace Sys2Proof.WheelAndSave

open Machine CabinTable StatusLoop HoldGrades ConfigItems BerthMoves

/-! ## The configuration -/

theorem geometry_pos {g : Geometry} (ok : g.ok = true) : 0 < g.n ∧ 0 < g.p := by
  simp only [Geometry.ok, Bool.and_eq_true, decide_eq_true_eq] at ok
  omega

/-- An item of another kind leaves the geometry. -/
theorem geometry_write (x : Settings) {i : Item} (v : Nat) (other : i.isGeometry = false) :
    (x.write i v).geometry = x.geometry := by
  cases i with
  | n | p | enter | close | exit | beta | park | role => cases other
  | permit k => cases k <;> rfl
  | _ => rfl

/-- A written item that has passed its tests leaves a legal geometry (R14, R181). -/
theorem geometry_write_ok {x : Settings} (ok : x.geometry.ok = true) {i : Item} {value v : Nat}
    (judged : x.judge i value = some v) : (x.write i v).geometry.ok = true := by
  by_cases geometry : i.isGeometry = true
  · have tested : (match x.geometry.withItem i value with
        | some g => if g.ok then some value else none
        | none => none) = some v := by
      cases i with
      | n | p | enter | close | exit | beta | park | role => exact judged
      | _ => cases geometry
    rw [(settings_geometry x v geometry).2]
    split at tested
    next g written =>
      obtain ⟨legal, same⟩ := Option.ite_none_right_eq_some.mp tested
      cases same
      rw [written]
      exact legal
    · cases tested
  · rwa [geometry_write x v (Bool.eq_false_of_not_eq_true geometry)]

/-- Only the item N writes the number of cabins. -/
theorem n_write (x : Settings) {i : Item} (v : Nat) (other : i ≠ .n) : (x.write i v).geometry.n = x.geometry.n := by
  cases i with
  | n => exact absurd rfl other
  | permit k => cases k <;> rfl
  | park =>
    unfold Settings.write Geometry.withItem
    cases Platform.ofCode v <;> rfl
  | role pf =>
    unfold Settings.write Geometry.withItem
    cases Role.ofCode v <;> rfl
  | _ => rfl

theorem length_madeUpTo {α : Type} (n : Nat) (fresh : α) (xs : List α) : (madeUpTo n fresh xs).length = n := by
  rw [madeUpTo, List.length_append, List.length_take, List.length_replicate]
  omega

/-- No visit is current. -/
def Vacant (s : State) : Prop := ∀ pf : Platform, visitCabin s pf = none

theorem vacant_of_writable {s : State} (writable : s.geometryWritable = true) : Vacant s := by
  obtain ⟨-, -, a, b⟩ := (geometryWritable_iff s).mp writable
  intro pf
  cases pf with
  | a => rw [visitCabin, PerPlatform.get, a]; rfl
  | b => rw [visitCabin, PerPlatform.get, b]; rfl

theorem writable_of_judgeWrite {s : State} {i : Item} {value v : Nat} (judged : s.judgeWrite i value = .ok v)
    (geometry : i.isGeometry = true) : s.geometryWritable = true := by
  unfold State.judgeWrite at judged
  split at judged
  · cases judged
  · split at judged
    · cases judged
    · split at judged
      · cases judged
      next passed => simpa [geometry] using passed

/-- A part with a legal geometry and a record for each cabin has a sound wheel after θ is lost (R15). -/
theorem wheelSound_loseGeometry {u : State} (ok : u.geometry.ok = true) (cabins : u.cabins.length = u.geometry.n)
    (loop : u.loop.cabins.length = u.geometry.n) (vacant : Vacant u) : WheelSound u.loseGeometry := by
  have lost : WheelSound { u with position :=
      { u.position with theta := 0, verified := false, disagreementRun := 0, agreementRun := 0, disagree := false
                        stillCrossed := [] } } := by
    refine ⟨ok, (geometry_pos ok).2, fun _ => rfl, cabins, loop, (visitsSeated_iff _).mp fun pf k current => ?_⟩
    exact nomatch (vacant pf).symm.trans current
  exact (((soundMove_setCondition _ _ _).trans (soundMove_setCondition _ _ _)).trans (soundMove_judgeAway _)).wheel lost

/-- The Cabin Table and the loop for a new number of cabins (R19, R49). -/
def resized (s : State) (n : Nat) : State :=
  { s with
    cabins := madeUpTo n (Cabin.fresh CabinConfig.default) s.cabins
    loop := { s.loop with newest := none, previous := none
                          scan := s.loop.scan.map fun x => { x with stale := true }
                          cabins := madeUpTo n LoopCabin.unreported s.loop.cabins }
    unload := { s.unload with occupied := occupiedCount (madeUpTo n (Cabin.fresh CabinConfig.default) s.cabins) } }

theorem resize_eq (s : State) (n : Nat) : s.resize n = (resized s n).judgeUnload := rfl

theorem resize_reaction (s : State) (n : Nat) : Reaction (resized s n) (s.resize n) := State.judgeUnload_reaction _

/-- After a change of N the Cabin Table and the loop hold a record for each cabin (R19, R49). -/
theorem resize_sound (s : State) :
    (s.resize s.geometry.n).cabins.length = s.geometry.n ∧ (s.resize s.geometry.n).loop.cabins.length = s.geometry.n ∧
    (s.resize s.geometry.n).geometry = s.geometry ∧
    ∀ pf, visitCabin (s.resize s.geometry.n) pf = visitCabin s pf := by
  have r := resize_reaction s s.geometry.n
  refine ⟨?_, ?_, congrArg (fun x : Store => x.working.geometry) r.store, fun pf => (visitCabin_reaction r pf).trans rfl⟩
  · rw [r.cabins]
    exact length_madeUpTo _ _ _
  · rw [r.loop]
    exact length_madeUpTo _ _ _

theorem saves_storeItem (s : State) (i : Item) (v : Nat) : saves (s.storeItem i v) = saves s := by
  unfold State.storeItem
  split
  · rfl
  · rw [saves, (itemEffect_kept _ i).1]
    rfl

theorem soundMove_storeItem {s : State} {i : Item} {value v : Nat} (judged : s.judgeWrite i value = .ok v) :
    SoundMove s (s.storeItem i v) := by
  refine ⟨fun sound => ?_, saves_storeItem s i v⟩
  obtain ⟨ok, theta, crossed, cabins, loop, seated⟩ := sound
  have legal : (s.settings.write i v).geometry.ok = true := geometry_write_ok ok (judge_of_judgeWrite judged)
  have stored (n : i ≠ .n) (p : i ≠ .p) : WheelSound (s.setSettings (s.settings.write i v)) := by
    have sameN := n_write s.settings v n
    have sameP := (wheel_write s.settings v n p).1
    exact ⟨legal, theta.trans_eq sameP.symm, crossed, cabins.trans sameN.symm, loop.trans sameN.symm, seated⟩
  unfold State.storeItem
  split
  · exact ⟨ok, theta, crossed, cabins, loop, seated⟩
  · unfold State.itemEffect
    cases i with
    | n =>
      obtain ⟨table, loopTable, geometry, visits⟩ := resize_sound (s.setSettings (s.settings.write .n v))
      have vacant := vacant_of_writable (writable_of_judgeWrite judged rfl)
      have sameN := (congrArg Geometry.n geometry).symm
      exact wheelSound_loseGeometry ((congrArg Geometry.ok geometry).trans legal) (table.trans sameN)
        (loopTable.trans sameN) fun pf => (visits pf).trans (vacant pf)
    | p =>
      have sameN := n_write s.settings v (i := .p) nofun
      exact wheelSound_loseGeometry legal (cabins.trans sameN.symm) (loop.trans sameN.symm)
        (vacant_of_writable (writable_of_judgeWrite judged rfl))
    | programmed src => exact (soundMove_setCondition _ _ _).wheel (stored nofun nofun)
    | auto src => exact (soundMove_changeSource _ _ _).wheel (stored nofun nofun)
    | _ => exact stored nofun nofun

/-! ## The requests -/

section

variable (s : State)

theorem soundMove_crossCheck : SoundMove s s.crossCheck := by
  have checked (disagrees : Bool) : SoundMove s { s with position := s.position.crossChecked disagrees } :=
    soundMove_positionFigures s (by unfold Position.crossChecked; split <;> rfl)
  unfold State.crossCheck
  split
  · exact .refl s
  · split
    · exact (checked _).trans (soundMove_setCondition _ _ _)
    · exact .refl s

/-- The Permit Unit written. -/
theorem soundMove_permit (x : Permit) : SoundMove s { s with permit := x } := soundMove_of_reads rfl rfl rfl

theorem soundMove_restartSilence : SoundMove s s.restartSilence :=
  (soundMove_permit s _).trans (soundMove_setCondition _ _ _)

theorem soundMove_driveReport (d : DriveRecord) : SoundMove s (s.driveReport d) := by
  have taken : SoundMove s (s.takeDriveRecord d) := (soundMove_permit s _).trans (soundMove_restartSilence _)
  have formed (fault : Bool) : SoundMove s ((s.takeDriveRecord d).formDriveFault fault) :=
    (taken.trans (soundMove_permit _ _)).trans (soundMove_setCondition _ _ _)
  exact ((formed _).trans (soundMove_crossCheck _)).trans (soundMove_refresh _)

/-- The figures of a stop condition written, and the condition formed (R146, R147). -/
theorem soundMove_formStop (pf : Platform) (x : StopLine) :
    SoundMove s (State.formStop { s with stops := s.stops.set pf x } pf) := by
  have written : SoundMove s { s with stops := s.stops.set pf x } := soundMove_of_reads rfl rfl rfl
  exact written.trans (soundMove_setCondition _ _ _)

/-- A visit's own figures written. -/
theorem soundMove_setVisit {pf : Platform} {v w : Visit} (current : (s.sequencers.get pf).current = some v)
    (same : w.cabin = v.cabin) : SoundMove s (s.setVisit pf w) :=
  soundMove_reach (srcs := []) (reach_setVisit s (seated_of_current current) w same)

theorem soundMove_cancelAssigned (pf : Platform) (tag : Nat) : SoundMove s (s.cancelAssigned pf tag) := by
  have queued (u : State) (q : Queue) : SoundMove u (u.setQueue pf q) := soundMove_of_reads rfl rfl rfl
  unfold State.cancelAssigned
  split
  next v current =>
    have cancelled := soundMove_setVisit s (pf := pf) (v := v)
      (w := { v with assigned := v.assigned.eraseP fun e => e.party.tag = tag }) current rfl
    exact cancelled.trans (queued _ _)
  · exact queued s _

end

/-- A move that writes the store's slots or its save in progress. -/
inductive StoreMove (s : State) : State → Prop
  | begun : StoreMove s s.beginSave
  | ended (passed : Bool) : StoreMove s (s.endSave passed)
  | shut (phase : Phase) : StoreMove s (s.shut phase)
  | started (openA openB : Bool) (rate : Rate) : StoreMove s (s.powerOn openA openB rate)

theorem soundMove_answered {s t : State} (a : Answered s t) : SoundMove s t ∨ StoreMove s t := by
  cases a with
  | saving => exact .inr .begun
  | kept => exact .inl (.refl s)
  | gate | service | configured => exact .inl (soundMove_modifyCabin s _ _)
  | declared => exact .inl (soundMove_writeCabin s _ _)
  | @alighted pf v _ count current =>
    have counted := soundMove_setVisit s (w := { v with alighted := some count }) current rfl
    exact .inl (((counted.trans (soundMove_writeCabin _ _ _)).trans
      (soundMove_reaction (State.assignIfDue_reaction _ pf))).trans (soundMove_refresh _))
  | @boarded pf v _ _ tag count current =>
    have counted := soundMove_setVisit s (w := v.setBoarded tag count) current rfl
    exact .inl ((counted.trans (soundMove_writeCabin _ _ _)).trans (soundMove_refresh _))
  | dispatched pf current =>
    exact .inl ((soundMove_reach (reach_beginClosing s (seated_of_current current))).trans (soundMove_refresh _))
  | queued | unqueued | edited | swapAsked | locked | taken | advanced => exact .inl (soundMove_of_reads rfl rfl rfl)
  | unassigned pf tag => exact .inl (soundMove_cancelAssigned s pf tag)
  | stopRequested pf => exact .inl ((soundMove_formStop s pf _).trans (soundMove_refresh _))
  | operatorHeld g => exact .inl ((soundMove_setCondition s _ _).trans (soundMove_refresh _))
  | released src => exact .inl ((soundMove_changeSource s src HoldRecord.released).trans (soundMove_refresh _))
  | stored i judged => exact .inl ((soundMove_storeItem judged).trans (soundMove_refresh _))
  | reported d => exact .inl (soundMove_driveReport s d)

/-! ## Timers and restarts -/

section

variable (s : State)

theorem soundMove_warmRestart (cause : RestartCause) : SoundMove s (s.warmRestart cause) := by
  have blocks : SoundMove s s.restartBlocks := by
    refine soundMove_of_seated ?_ rfl fun pf k current => ?_
    · rw [wheelReads, State.restartBlocks]
      dsimp only
      rw [List.length_map]
      rfl
    · cases pf <;> cases current
  have commanded (u : State) (pf : Platform) : SoundMove u (u.command pf .close) := soundMove_of_reads rfl rfl rfl
  have closed : SoundMove s ((((s.restartBlocks.formDoorLate).judgeAway).command .a .close).command .b .close) :=
    (((blocks.trans (soundMove_setCondition _ _ _)).trans (soundMove_judgeAway _)).trans (commanded _ .a)).trans
      (commanded _ .b)
  unfold State.warmRestart
  exact (((closed.trans (soundMove_restartSilence _)).trans (soundMove_append _ _)).trans
    (soundMove_deliverEvent _ _ _)).trans (soundMove_refresh _)

theorem soundMove_driveSilence : SoundMove s s.driveSilence := by
  unfold State.driveSilence
  split
  · exact ((soundMove_permit s _).trans (soundMove_setCondition _ _ _)).trans (soundMove_refresh _)
  · exact .refl s

theorem soundMove_millisecond : SoundMove s s.millisecond :=
  soundMove_of_seated rfl rfl fun pf _ current => .inr (by cases pf <;> exact current)

end

theorem soundMove_effect {s t : State} (e : Effect s t) : SoundMove s t ∨ StoreMove s t := by
  cases e with
  | answered a => exact soundMove_answered a
  | port | queue | restartDue | pulse | scanStart => exact .inl (soundMove_of_reads rfl rfl rfl)
  | blinkToggle | sequenceStart | sequenceEnd | refreshExpiry => exact .inl (soundMove_of_reads rfl rfl rfl)
  | millisecond => exact .inl (soundMove_millisecond s)
  | forwardTick => exact .inl ((soundMove_forwardTick s).trans (soundMove_refresh _))
  | reverseTick => exact .inl ((soundMove_reverseTick s).trans (soundMove_refresh _))
  | indexEdge => exact .inl ((soundMove_takenEdge s).trans (soundMove_refresh _))
  | windowEnd => exact .inl ((soundMove_windowEnd s).trans (soundMove_refresh _))
  | scanEnd pattern contacts => exact .inl ((soundMove_endScan s pattern contacts).trans (soundMove_refresh _))
  | actuatorExpiry pf => exact .inl ((soundMove_reach (reach_expireActuator s pf)).trans (soundMove_refresh _))
  | lineTaken pf => exact .inl ((soundMove_formStop s pf _).trans (soundMove_refresh _))
  | driveSilence => exact .inl (soundMove_driveSilence s)
  | warmRestart cause => exact .inl (soundMove_warmRestart s cause)
  | saveDone passed => exact .inr (.ended passed)
  | shut phase => exact .inr (.shut phase)
  | powerOn openA openB rate => exact .inr (.started openA openB rate)

/-! ## The moves of the store -/

theorem startSettings_ok (s : State) : (startSettings s).geometry.ok = true := by
  unfold startSettings
  split
  next saved => exact saved_ok saved
  · decide

/-- A power-on has a legal geometry, whatever was before it (R184). -/
theorem wheelSound_powerOn (s : State) (openA openB : Bool) (rate : Rate) : WheelSound (s.powerOn openA openB rate) := by
  have ok := startSettings_ok s
  rw [powerOn_eq]
  refine ⟨ok, (geometry_pos ok).2, fun _ => rfl, startCabins_length s, List.length_replicate, ?_⟩
  intro pf v current
  cases pf <;> cases current

theorem soundMove_endSave (s : State) (passed : Bool) : WheelSound s → WheelSound (s.endSave passed) := by
  unfold State.endSave
  split
  · exact id
  · exact fun h => (soundMove_append _ _).wheel h

theorem StoreMove.wheelSound {s t : State} (m : StoreMove s t) (h : WheelSound s) : WheelSound t := by
  cases m with
  | begun | shut => exact h
  | ended passed => exact soundMove_endSave s passed h
  | started openA openB rate => exact wheelSound_powerOn s openA openB rate

/-- With no save in progress the numbers of the slots are all there is to keep. -/
theorem saveKept_idle {s t : State} (same : saves t = (s.store.slots, none)) (h : SaveKept s) : SaveKept t := by
  have slots : t.store.slots = s.store.slots := congrArg Prod.fst same
  have saving : t.store.saving = none := congrArg Prod.snd same
  obtain ⟨wide, -⟩ := h
  refine ⟨fun c mem => wide c (by rwa [slots] at mem), fun j job => ?_⟩
  cases saving.symm.trans job

theorem StoreMove.saveKept {s t : State} (m : StoreMove s t) (wheel : WheelSound s) (h : SaveKept s) : SaveKept t := by
  cases m with
  | begun => exact State.beginSave_kept h wheel.1
  | ended passed => exact State.endSave_kept h passed
  | shut => exact saveKept_idle (s := s) rfl h
  | started openA openB rate => exact saveKept_idle (by rw [powerOn_eq]; rfl) h

/-! ## Every step -/

/-- Settles O13: an effect that leaves the store's slots is a `SoundMove`, and the others are the beginning and the end of
a save and the rows that start and stop the part. -/
theorem wheelStaysSound : Obligations.WheelStaysSound := by
  unfold Obligations.WheelStaysSound
  intro s t sound e
  refine step_keeps (P := fun u => WheelSound u ∧ (SaveKept s → SaveKept u)) (fun u w effect kept => ?_) e ⟨sound, id⟩
  obtain ⟨wheel, save⟩ := kept
  rcases soundMove_effect effect with move | store
  · exact ⟨move.wheel wheel, fun before => saveKept_congr move.saves (save before)⟩
  · exact ⟨store.wheelSound wheel, fun before => store.saveKept wheel (save before)⟩

end Sys2Proof.WheelAndSave
end

section
/-! The tests that end a movement of the wheel touch no visit, and what a tick changes (R1 to R3, R11, R12, R15). -/

namespace Sys2Proof.WheelTicks

open Machine CabinTable StatusLoop HoldGrades SpeedPermit BerthMoves

/-! ## The tests that end a movement touch no visit -/

/-- The cabins, the visits, the queues and the output image as they were. -/
structure Idle (s t : State) : Prop where
  cabins : t.cabins = s.cabins
  sequencers : t.sequencers = s.sequencers
  queues : t.queues = s.queues
  output : t.output = s.output

theorem Idle.refl (s : State) : Idle s s := ⟨rfl, rfl, rfl, rfl⟩

theorem Idle.trans {s t u : State} (h : Idle s t) (k : Idle t u) : Idle s u :=
  ⟨k.cabins.trans h.cabins, k.sequencers.trans h.sequencers, k.queues.trans h.queues, k.output.trans h.output⟩

theorem Idle.of_reaction {s t : State} (r : Reaction s t)
    (visits : t.sequencers = s.sequencers ∧ t.queues = s.queues) : Idle s t :=
  ⟨r.cabins, visits.1, visits.2, r.output⟩

theorem Idle.position (s : State) (x : Position) : Idle s { s with position := x } := ⟨rfl, rfl, rfl, rfl⟩

/-- The figures formed leave the visits and what is commanded. -/
theorem Idle.sameVisits {s t : State} (h : Idle s t) : SameVisits s t.refresh :=
  ⟨h.cabins, h.sequencers, h.queues, fun pf => by rw [← h.output]; exact refresh_actuator t pf⟩

/-- An event that holds the wheel at UNLOAD or above assigns nothing (R66). -/
theorem idle_deliverEvent {s : State} (h : HoldsDerived s) (src : Source) {g : Grade}
    (withheld : Grade.unload.value ≤ g.value) : Idle s (s.deliverEvent src g) := by
  have above : (s.deliverEvent src g).holds.held.atLeast .unload = true :=
    decide_eq_true (withheld.trans (deliverEvent_held h src g))
  refine .of_reaction (State.deliverEvent_reaction s src g) ?_
  unfold State.deliverEvent at above ⊢
  split
  · exact ⟨rfl, rfl⟩
  next raises =>
    rw [if_neg raises] at above
    exact State.changeSource_visits s src _ above

theorem idle_parkedTest (s : State) : Idle s s.parkedTest :=
  .of_reaction (State.parkedTest_reaction s) (State.parkedTest_visits s)

theorem idle_overshootTest {s : State} (h : HoldsDerived s) : Idle s s.overshootTest := by
  unfold State.overshootTest
  split
  · exact idle_deliverEvent h _ (by decide)
  · exact .refl s

theorem holdsDerived_parkedTest {s : State} (h : HoldsDerived s) : HoldsDerived s.parkedTest :=
  holdsDerived_congr h s.parkedTest_holds (State.parkedTest_reaction s).store

theorem idle_movedTests {s : State} (h : HoldsDerived s) (moved : Bool) : Idle s (s.movedTests moved) := by
  cases moved with
  | false => exact .refl s
  | true => exact (idle_parkedTest s).trans (idle_overshootTest (holdsDerived_parkedTest h))

theorem idle_parkTests {s : State} (h : HoldsDerived s) : Idle s s.parkTests := by
  have unparked : Idle s s.unparkTest ∧ s.unparkTest.holds = s.holds := by
    unfold State.unparkTest
    split
    · exact ⟨.refl s, rfl⟩
    · split <;> exact ⟨⟨rfl, rfl, rfl, rfl⟩, rfl⟩
  obtain ⟨idle, holds⟩ := unparked
  have derived := holdsDerived_congr h holds (State.unparkTest_reaction s).store
  exact (idle.trans (idle_parkedTest _)).trans (idle_overshootTest (holdsDerived_parkedTest derived))

/-- A source that keeps its peak lets go of nothing at NONE, and assigns nothing at UNLOAD or above. -/
theorem idle_setCondition {s : State} (h : HoldsDerived s) {src : Source} (keeps : s.settings.auto.get src = false)
    {g : Grade} (ends : g = .none ∨ Grade.unload.value ≤ g.value) : Idle s (s.setCondition src g) := by
  rcases ends with rfl | withheld
  · rw [setCondition_none h keeps]
    exact ⟨rfl, rfl, rfl, rfl⟩
  · have above := cond_le_held (holdsDerived_setCondition h src g) src
    rw [setCondition_cond] at above
    exact .of_reaction (State.setCondition_reaction s src g)
      (setCondition_visits (decide_eq_true (withheld.trans above)))

theorem idle_judgeAway {s : State} (h : HoldsDerived s) : Idle s s.judgeAway := by
  have derived : HoldsDerived (withAway s) := holdsDerived_congr h rfl rfl
  have judged : Idle (withAway s) s.judgeAway := by
    refine idle_setCondition derived rfl ?_
    split
    · exact .inl rfl
    · exact .inr (by decide)
  exact ⟨judged.cabins, judged.sequencers, judged.queues, judged.output⟩

/-! ## The frame of a movement -/

theorem tickFrame_trans {s t u : State} (h : TickFrame s t) (k : TickFrame t u) : TickFrame s u := by
  unfold TickFrame at *
  refine k.trans ?_
  rw [h]

theorem tickFrame_reach {srcs : List Source} {s t : State} (r : Reach srcs s t) : TickFrame s t := by
  obtain ⟨⟨phase, position, loop, plans, wind, stops, ports, store, clock, pending, -, -⟩, -, output, unload, permit, -⟩ := r
  unfold TickFrame
  cases t
  simp only at *
  subst phase loop plans wind stops ports store clock pending
  rw [unload, permit, output]

theorem tickFrame_judgeAway (s : State) : TickFrame s s.judgeAway := by
  have written : TickFrame s (withAway s) := rfl
  have judged : Reach [.doorAway] (withAway s) s.judgeAway := reach_setCondition _ (by decide) _
  exact tickFrame_trans written (tickFrame_reach judged)

theorem tickFrame_position (s : State) (x : Position) : TickFrame s { s with position := x } := rfl

theorem holdsDerived_position {s : State} (h : HoldsDerived s) (x : Position) :
    HoldsDerived { s with position := x } := h

theorem tickFrame_refresh (s : State) : TickFrame s s.refresh := rfl

/-! ## What a movement hands over -/

theorem handCrossings_none {s : State} {before after : Nat} {pf : Platform}
    (none : s.forwardCrossings before after pf = []) : s.handCrossings before after pf = s := by
  rw [State.handCrossings, none]
  rfl

theorem handRetreats_none {s : State} {before after : Nat} {pf : Platform}
    (none : s.retreats before after pf = []) : s.handRetreats before after pf = s := by
  rw [State.handRetreats, none]
  rfl

theorem retreats_congr {s t : State} (position : t.position = s.position) (store : t.store = s.store)
    (before after : Nat) (pf : Platform) : t.retreats before after pf = s.retreats before after pf := by
  unfold State.retreats State.takesCrossings State.passOrder State.phaseAt State.geometry
  rw [position, store]

/-! ## The tests that close a tick -/

/-- The tests of the park record, and the away set judged (R165, R166, R51). -/
def tickTests (s : State) : State := (s.parkTests).judgeAway

theorem tickTests_position (s : State) : (tickTests s).position = s.position :=
  (judgeAway_position _).trans (reach_parkTests s).position

theorem tickTests_idle {s : State} (h : HoldsDerived s) : Idle s (tickTests s) := by
  have chain : Regraded s s.parkTests := Regraded.parkTests .refl
  exact (idle_parkTests h).trans (idle_judgeAway (chain.keeps (fun _ _ => holdsDerived_move) h))

theorem tickTests_frame (s : State) : TickFrame s (tickTests s).refresh :=
  tickFrame_trans (tickFrame_trans (tickFrame_reach (reach_parkTests s)) (tickFrame_judgeAway _)) (tickFrame_refresh _)

theorem tickTests_source (s : State) {src : Source} (park : src ≠ .parkOvershoot) (away : src ≠ .doorAway) :
    (tickTests s).holds.table.get src = s.holds.table.get src :=
  (judgeAway_source _ away).trans ((reach_parkTests s).sources src (by simpa using park))

/-! ## A forward tick -/

/-- The position a forward tick moves to, its crossings still to be handed over (R1 to R3, R15). -/
def forwarded (s : State) : State := { s with position := s.position.forward s.geometry }

/-- A forward tick with its crossings handed over (R11). -/
def forwardHanded (s : State) : State :=
  ((forwarded s).handCrossings s.position.theta (forwarded s).position.theta .a).handCrossings s.position.theta
    (forwarded s).position.theta .b

/-- The points of the θ reached no longer stay crossed (R11). -/
def forwardPassed (s : State) : State :=
  { forwardHanded s with position := (forwarded s).position.passOver (forwarded s).position.theta }

theorem forwardHanded_reach (s : State) : Reach visitSources (forwarded s) (forwardHanded s) :=
  (reach_handCrossings _ .a _ _).trans (reach_handCrossings _ .b _ _)

theorem forwardTick_eq (s : State) : s.forwardTick = tickTests (forwardPassed s) := by
  have passed : (forwardHanded s).passOver (forwarded s).position.theta = forwardPassed s := by
    rw [State.passOver, (forwardHanded_reach s).position]
    rfl
  rw [← passed]
  rfl

theorem forwardPassed_derived {s : State} (h : HoldsDerived s) : HoldsDerived (forwardPassed s) := by
  have chain : Regraded (forwarded s) (forwardHanded s) :=
    (Regraded.handCrossings .refl _ _ .a).handCrossings _ _ .b
  have derived : HoldsDerived (forwarded s) := holdsDerived_position h _
  exact holdsDerived_position (chain.keeps (fun _ _ => holdsDerived_move) derived) _

theorem forwardTick_position (s : State) :
    s.forwardTick.position = (forwarded s).position.passOver (forwarded s).position.theta := by
  rw [forwardTick_eq, tickTests_position]
  rfl

theorem forwardTick_frame (s : State) : TickFrame s s.forwardTick.refresh := by
  have started : TickFrame s (forwarded s) := tickFrame_position s _
  have passed : TickFrame (forwardHanded s) (forwardPassed s) := tickFrame_position _ _
  rw [forwardTick_eq]
  exact tickFrame_trans (tickFrame_trans (tickFrame_trans started (tickFrame_reach (forwardHanded_reach s))) passed)
    (tickTests_frame _)

theorem forwardTick_sameVisits {s : State} (h : HoldsDerived s) : SameVisits (forwardHanded s) s.forwardTick.refresh := by
  have passed : Idle (forwardHanded s) (forwardPassed s) := .position _ _
  rw [forwardTick_eq]
  exact (passed.trans (tickTests_idle (forwardPassed_derived h))).sameVisits

theorem forwardHanded_none {s : State}
    (none : ∀ pf, (forwarded s).forwardCrossings s.position.theta (forwarded s).position.theta pf = []) :
    forwardHanded s = forwarded s := by
  rw [forwardHanded, handCrossings_none (none .a), handCrossings_none (none .b)]

/-! ## A reverse tick -/

/-- The position a reverse tick moves to, the reverse run tested (R2, R12, R15). -/
def reversed (s : State) : State := State.reverseTest { s with position := s.position.backward s.geometry }

/-- A reverse tick with its retreats handed over (R12). -/
def reverseHanded (s : State) : State :=
  ((reversed s).handRetreats s.position.theta (reversed s).position.theta .a).handRetreats s.position.theta
    (reversed s).position.theta .b

theorem reverseTick_eq (s : State) : s.reverseTick = tickTests (reverseHanded s) := rfl

theorem reverseHanded_reach (s : State) : Reach visitSources (reversed s) (reverseHanded s) :=
  (reach_handRetreats _ .a _ _).trans (reach_handRetreats _ .b _ _)

/-- The run has passed the allowance (R2). -/
def runsPast (s : State) : Bool := s.settings.reverseAllowance < s.position.reverseRun + 1

/-- The position after a reverse tick. -/
def reversedPosition (s : State) : Position :=
  { s.position.backward s.geometry with reverseRun := if runsPast s then 0 else s.position.reverseRun + 1 }

theorem reversed_eq (s : State) :
    reversed s = if runsPast s then State.deliverEvent { s with position := reversedPosition s } .reverse .stop
      else { s with position := reversedPosition s } := by
  unfold reversed State.reverseTest reversedPosition
  by_cases past : runsPast s
  · rw [if_pos past, if_pos past]
    exact if_pos (of_decide_eq_true past)
  · rw [if_neg past, if_neg past]
    exact if_neg fun above => past (decide_eq_true above)

theorem reversed_reach (s : State) : Reach [.reverse] { s with position := reversedPosition s } (reversed s) := by
  rw [reversed_eq]
  split
  · exact reach_deliverEvent _ (by decide) _
  · exact .refl _ _

theorem reversed_derived {s : State} (h : HoldsDerived s) : HoldsDerived (reversed s) := by
  have moved : HoldsDerived { s with position := reversedPosition s } := holdsDerived_position h _
  rw [reversed_eq]
  split
  · exact holdsDerived_deliverEvent moved _ _
  · exact moved

theorem reverseHanded_derived {s : State} (h : HoldsDerived s) : HoldsDerived (reverseHanded s) := by
  have chain : Regraded (reversed s) (reverseHanded s) := (Regraded.handRetreats .refl _ _ .a).handRetreats _ _ .b
  exact chain.keeps (fun _ _ => holdsDerived_move) (reversed_derived h)

theorem reverseTick_position (s : State) : s.reverseTick.position = reversedPosition s := by
  rw [reverseTick_eq, tickTests_position, (reverseHanded_reach s).position, (reversed_reach s).position]

theorem reverseTick_frame (s : State) : TickFrame s s.reverseTick.refresh := by
  have moved : TickFrame s { s with position := reversedPosition s } := tickFrame_position s _
  rw [reverseTick_eq]
  exact tickFrame_trans (tickFrame_trans (tickFrame_trans moved (tickFrame_reach (reversed_reach s)))
    (tickFrame_reach (reverseHanded_reach s))) (tickTests_frame _)

theorem reverseTick_sameVisits {s : State} (h : HoldsDerived s) : SameVisits (reverseHanded s) s.reverseTick.refresh := by
  rw [reverseTick_eq]
  exact (tickTests_idle (reverseHanded_derived h)).sameVisits

/-- The event of an overrun assigns nothing (R66). -/
theorem reversed_idle {s : State} (h : HoldsDerived s) : Idle s (reversed s) := by
  have moved : Idle s { s with position := reversedPosition s } := .position s _
  have derived : HoldsDerived { s with position := reversedPosition s } := holdsDerived_position h _
  rw [reversed_eq]
  split
  · exact moved.trans (idle_deliverEvent derived _ (by decide))
  · exact moved

theorem reverseHanded_none {s : State}
    (none : ∀ pf, (reversed s).retreats s.position.theta (reversed s).position.theta pf = []) :
    reverseHanded s = reversed s := by
  rw [reverseHanded, handRetreats_none (none .a), handRetreats_none (none .b)]

/-- REVERSE's record is the one its event leaves (R2, R136). -/
theorem reverseTick_source (s : State) :
    s.reverseTick.holds.table.get .reverse = (reversed s).holds.table.get .reverse := by
  rw [reverseTick_eq, tickTests_source _ (src := .reverse) nofun nofun]
  exact (reverseHanded_reach s).sources .reverse (by decide)

theorem reverseTick_unstruck {s : State} (within : runsPast s = false) :
    s.reverseTick.holds.table.get .reverse = s.holds.table.get .reverse := by
  rw [reverseTick_source, reversed_eq, within]
  rfl

theorem reverseTick_struck {s : State} (past : runsPast s = true) :
    (s.reverseTick.holds.table.get .reverse).floor = (s.holds.table.get .reverse).floor.max .stop := by
  rw [reverseTick_source, reversed_eq, past, if_pos rfl, deliverEvent_record]

/-- With a floor at STOP the wheel is held at STOP or BRAKE, and the ceiling is 0 (R159). -/
theorem ceiling_of_floor {s : State} (h : HoldsDerived s) {src : Source}
    (floor : Grade.stop.value ≤ (s.holds.table.get src).floor.value) : s.refresh.permit.ceiling = 0 := by
  have latched : (s.holds.table.get src).floor.value ≤ (s.holds.table.get src).latched.value := by
    rw [(h.1 src).2, latchOf]
    split <;> simp
  have held : Grade.stop.value ≤ s.holds.held.value := by
    rw [h.2]
    exact floor.trans (latched.trans (latched_le_heldGrade _ src))
  refine ceilingNow_of_stopped ?_
  revert held
  cases s.holds.held <;> decide

theorem reverseTick_ceiling {s : State} (h : HoldsDerived s) (past : runsPast s = true) :
    s.reverseTick.refresh.permit.ceiling = 0 := by
  have chain : Regraded s s.reverseTick := Regraded.reverseTick .refl
  refine ceiling_of_floor (src := .reverse) (chain.keeps (fun _ _ => holdsDerived_move) h) ?_
  rw [reverseTick_struck past]
  simp

/-! ## The statement -/

/-- Settles O42: a tick is its position, then the Sequencers' moves, which are a `Reach`, then the closing tests, which are
`Idle`. -/
theorem ticksMoveTheWheel : Obligations.TicksMoveTheWheel := by
  unfold Obligations.TicksMoveTheWheel
  constructor
  · intro s running derived
    refine ⟨s.forwardTick.refresh, exec_forwardTick running, State.refresh_formed _, ?_⟩
    intro g moved passed start u
    have handed : u = forwardHanded s := by
      simp only [u, handed_eq]
      rfl
    clear_value u
    subst handed
    have same := forwardTick_sameVisits derived
    refine ⟨?_, forwardTick_frame s, same, ?_, fun none => ?_⟩
    · rw [State.refresh_position, forwardTick_position]
      rfl
    · rw [forwardTick_eq]
      rfl
    · rw [forwardHanded_none none] at same
      obtain ⟨cabins, sequencers, queues, image⟩ := same
      exact ⟨cabins, sequencers, queues, fun pf => (image pf).1⟩
  · intro s running derived
    refine ⟨s.reverseTick.refresh, exec_reverseTick running, State.refresh_formed _, ?_⟩
    intro g run past moved start struck u
    have moves : reversed s = struck := reversed_eq s
    have r := reversed_reach s
    have theta : (reversed s).position.theta = moved.theta := congrArg Position.theta r.position
    have handed : u = reverseHanded s := by
      rw [reverseHanded, theta, moves]
      rfl
    clear_value u
    subst handed
    have same := reverseTick_sameVisits derived
    refine ⟨?_, reverseTick_frame s, same, ?_, fun within => ?_, fun above => ⟨?_, reverseTick_ceiling derived above⟩,
      fun none => ?_⟩
    · rw [State.refresh_position, reverseTick_position]
      rfl
    · rw [reverseTick_eq]
      rfl
    · rw [State.refresh_holds]
      exact reverseTick_unstruck within
    · rw [State.refresh_holds]
      exact reverseTick_struck above
    · have still : reverseHanded s = reversed s := reverseHanded_none fun pf => by
        rw [theta, retreats_congr r.position r.store]
        exact none pf
      rw [still] at same
      obtain ⟨cabins, sequencers, queues, image⟩ := same
      have idle := reversed_idle derived
      exact ⟨cabins.trans idle.cabins, sequencers.trans idle.sequencers, queues.trans idle.queues, fun pf =>
        (image pf).1.trans (by rw [idle.output])⟩

end Sys2Proof.WheelTicks
end

section
/-! The revolution boundary (R7, R112 to R114): the Plan Banks it leaves, its record, and what PLAN_END's condition sets
off. -/

namespace Sys2Proof.IndexEdges

open Machine CabinTable StatusLoop WindAssessment EventStack BerthMoves WheelTicks

/-! ## The Plan Banks -/

/-- The banks with the active bank's revolution counted, unless its plan has ended (R112, step 1). -/
def countedPlans (x : Plans) : Plans := if x.planEnd then x else x.setActive x.active.countRevolution

theorem setActive_flags (x : Plans) (k : Bank) : (x.setActive k).oneActive = x.oneActive ∧
    (x.setActive k).swapPending = x.swapPending ∧ (x.setActive k).planEnd = x.planEnd := by
  unfold Plans.setActive
  split <;> exact ⟨rfl, rfl, rfl⟩

theorem countedPlans_flags (x : Plans) : (countedPlans x).oneActive = x.oneActive ∧
    (countedPlans x).swapPending = x.swapPending ∧ (countedPlans x).planEnd = x.planEnd := by
  unfold countedPlans
  split
  · exact ⟨rfl, rfl, rfl⟩
  · exact setActive_flags x _

/-- The active bank has run out with its plan not yet ended (R112, step 3). -/
def plansRunOut (x : Plans) : Bool := (countedPlans x).active.exhausted && !x.planEnd

theorem afterBoundary_eq (x : Plans) :
    afterBoundary x = if x.swapPending then (countedPlans x).swapped
      else if plansRunOut x then { countedPlans x with planEnd := true } else countedPlans x := by
  obtain ⟨one, -, -⟩ := countedPlans_flags x
  have swapped : (countedPlans x).swapped =
      let retired := (countedPlans x).setActive { (countedPlans x).active with ready := false }
      let turned := { retired with oneActive := !x.oneActive, swapPending := false, planEnd := false }
      turned.setActive { turned.active with run := 0 } := by
    unfold Plans.swapped
    rw [one]
  have runOut : plansRunOut x = true ↔ (countedPlans x).active.mode = .single ∧
      (countedPlans x).active.count ≤ (countedPlans x).active.run ∧ x.planEnd = false := by
    simp [plansRunOut, Bank.exhausted, and_assoc]
  simp only [swapped, runOut]
  rfl

/-- PLAN_END is set by a boundary exactly where the active bank runs out (R114). -/
theorem afterBoundary_planEnd {x : Plans} (staying : x.swapPending = false) :
    ((afterBoundary x).planEnd && !x.planEnd) = plansRunOut x := by
  obtain ⟨-, -, ended⟩ := countedPlans_flags x
  rw [afterBoundary_eq, staying, if_neg Bool.false_ne_true]
  split
  next out =>
    have open' : x.planEnd = false := by
      simp only [plansRunOut, Bool.and_eq_true, Bool.not_eq_true'] at out
      exact out.2
    rw [out, open']
    rfl
  next within =>
    rw [ended, Bool.eq_false_of_not_eq_true within]
    exact Bool.and_not_self _

theorem countedPlans_count (x : Plans) : (countedPlans x).active.count = x.active.count := by
  unfold countedPlans
  split
  · rfl
  · rw [Plans.active_setActive]
    rfl

/-- The number of the bank that a swap makes active. -/
theorem swapped_activeNumber (x : Plans) : x.swapped.activeNumber = if x.oneActive then 0 else 1 := by
  unfold Plans.swapped Plans.activeNumber
  simp only [setActive_flags]
  cases x.oneActive <;> rfl

/-! ## The boundary -/

/-- The revolution counted and the Plan Banks after it, PLAN_END's condition still to be formed. -/
def turnedOver (s : State) : State :=
  { s with position := { s.position with revolutions := (s.position.revolutions + 1) % 65536 }
           plans := afterBoundary s.plans }

theorem boundary_eq (s : State) :
    s.boundary = if s.plans.swapPending then
        ((turnedOver s).formProgrammed .planEnd false).append
          (plainRecord s .planSwapped (if s.plans.oneActive then 0 else 1))
      else if plansRunOut s.plans then
        ((turnedOver s).append (plainRecord s .planEnd s.plans.active.count)).formProgrammed .planEnd true
      else turnedOver s := by
  obtain ⟨one, pending, ended⟩ := countedPlans_flags s.plans
  have counted : s.boundary =
      let u : State := { s with position := { s.position with revolutions := (s.position.revolutions + 1) % 65536 }
                                plans := countedPlans s.plans }
      if u.plans.swapPending then u.swapPlans
      else if u.plans.active.exhausted && !u.plans.planEnd then u.endPlan else u := by
    unfold State.boundary State.planBoundary countedPlans
    dsimp only
    split <;> rfl
  rw [counted]
  dsimp only
  rw [pending, ended]
  unfold turnedOver
  rw [afterBoundary_eq]
  split
  next swap =>
    unfold State.swapPlans State.logPlain
    dsimp only
    rw [swapped_activeNumber, one, (State.formProgrammed_reaction _ _ _).clock]
    cases s.plans.oneActive <;> rfl
  next stay =>
    by_cases out : plansRunOut s.plans
    · have out' : ((countedPlans s.plans).active.exhausted && !s.plans.planEnd) = true := out
      rw [if_pos out, if_pos out, if_pos out', ← countedPlans_count]
      rfl
    · have out' : ¬((countedPlans s.plans).active.exhausted && !s.plans.planEnd) = true := out
      rw [if_neg out, if_neg out, if_neg out']

/-- No Sequencer's move and no hold source makes a boundary's record. -/
theorem moveKinds_other : ∀ kind ∈ moveKinds, kind ∉ [EventKind.planSwapped, .planEnd] := by decide

section

variable (s : State)

theorem boundary_followed : Followed (turnedOver s) s.boundary := by
  have logged (u : State) {kind : EventKind} (value : Int) (other : kind ≠ .partyAssigned) :
      Followed u (u.append (plainRecord s kind value)) := followed_append u _ other
  rw [boundary_eq]
  split
  · exact (followed_setCondition _ _ _).trans (logged _ _ (by decide))
  · split
    · exact (logged _ _ (by decide)).trans (followed_setCondition _ _ _)
    · exact .refl _

theorem boundary_source {src : Source} (other : src ≠ .planEnd) :
    s.boundary.holds.table.get src = s.holds.table.get src := by
  rw [boundary_eq]
  split
  · rw [State.append_holds]
    exact setCondition_other (turnedOver s) _ other
  · split
    · refine (setCondition_other _ _ other).trans ?_
      rw [State.append_holds]
      rfl
    · rfl

/-- The held grade stays the one that the table forms. -/
theorem boundary_held (formed : s.holds.held = s.holds.table.heldGrade) :
    s.boundary.holds.held = s.boundary.holds.table.heldGrade := by
  have changed (u : State) (g : Grade) (formed : u.holds.held = u.holds.table.heldGrade) :
      (u.setCondition .planEnd g).holds.held = (u.setCondition .planEnd g).holds.table.heldGrade :=
    (reach_setCondition (srcs := [.planEnd]) u (by decide) g).held formed
  rw [boundary_eq]
  split
  · rw [State.append_holds]
    exact changed (turnedOver s) _ formed
  · split
    · refine changed _ _ ?_
      rw [State.append_holds]
      exact formed
    · exact formed

/-- The record of a boundary, PLAN_SWAPPED, PLAN_END or none (R113, R114). -/
theorem boundary_recorded : RecordedOf s s.boundary [.planSwapped, .planEnd] (boundaryRecords s) := by
  have formed (u : State) (g : Grade) : RecordedOf u (u.setCondition .planEnd g) [.planSwapped, .planEnd] [] :=
    (logs_setCondition u .planEnd g).recordedOf fun _ setOff =>
      moveKinds_other _ (List.mem_append_left _ setOff.1)
  have turned : RecordedOf s (turnedOver s) [.planSwapped, .planEnd] [] := ⟨[], rfl, rfl⟩
  have appended (u : State) (r : EventRecord) (kind : r.kind = .planSwapped ∨ r.kind = .planEnd) :
      RecordedOf u (u.append r) [.planSwapped, .planEnd] [r] :=
    ⟨[r], rfl, by rcases kind with h | h <;> simp [h]⟩
  rw [boundary_eq, boundaryRecords]
  split
  · exact (turned.trans (formed _ _)).trans (appended _ _ (.inl rfl))
  next stay =>
    rw [afterBoundary_planEnd (Bool.eq_false_of_not_eq_true stay)]
    split
    · exact (turned.trans (appended _ _ (.inr rfl))).trans (formed _ _)
    · exact turned

theorem boundaryRecords_congr {s t : State} (plans : t.plans = s.plans) (clock : t.clock = s.clock) :
    boundaryRecords t = boundaryRecords s := by
  unfold boundaryRecords plainRecord
  rw [plans, clock]

theorem boundary_position : s.boundary.position =
    { s.position with revolutions := (s.position.revolutions + 1) % 65536 } := (boundary_followed s).reach.position

theorem boundary_plans : s.boundary.plans = afterBoundary s.plans := (boundary_followed s).reach.plans

/-- Where the wheel is held at UNLOAD or above after it, a boundary assigns nothing (R66). -/
theorem boundary_unassigned (above : s.boundary.holds.held.atLeast .unload = true) :
    s.boundary.sequencers = s.sequencers := by
  rw [boundary_eq] at above ⊢
  split at above
  next swap =>
    rw [if_pos swap, (State.append_kept _ _).2.2.1]
    rw [State.append_holds] at above
    exact (setCondition_visits above).1
  next stay =>
    rw [if_neg stay]
    split at above
    next out =>
      rw [if_pos out]
      exact (setCondition_visits above).1.trans (State.append_kept _ _).2.2.1
    next within =>
      rw [if_neg within]
      rfl

end

end Sys2Proof.IndexEdges
end

section
/-! An index edge (R4 to R8): what closes an edge after its crossings, and the edges that verify the position, fall within
the tolerance, or fall beyond it. -/

namespace Sys2Proof.IndexEdges

open Machine CabinTable StatusLoop WindAssessment EventStack SpeedPermit BerthMoves WheelTicks

/-! ## Frames -/

theorem tickFrame_reaction {s t : State} (r : Reaction s t) : TickFrame s t := by
  obtain ⟨phase, position, cabins, loop, output, plans, wind, stops, ports, store, clock, brake, pending, unload, permit,
    -, -⟩ := r
  unfold TickFrame
  cases t
  simp only at *
  subst phase loop output plans wind stops ports store clock pending
  rw [unload, permit]

theorem tickFrame_withPlans {s t : State} (h : TickFrame s t) (x : Plans) :
    TickFrame { s with plans := x } { t with plans := x } := by
  unfold TickFrame at *
  rw [h]

theorem tickFrame_turnedOver (s : State) : TickFrame { s with plans := afterBoundary s.plans } (turnedOver s) := rfl

theorem tickFrame_plans {s t : State} (h : TickFrame s t) : t.plans = s.plans := by
  unfold TickFrame at h
  rw [h]

/-- The frame of an edge: all it changes beside the Plan Banks is what a tick may change. -/
theorem boundary_frame {s u : State} (h : TickFrame s u) :
    TickFrame { s with plans := afterBoundary s.plans } u.boundary := by
  have kept := tickFrame_withPlans h (afterBoundary u.plans)
  rw [tickFrame_plans h] at kept
  have turned := tickFrame_turnedOver u
  rw [tickFrame_plans h] at turned
  exact tickFrame_trans (tickFrame_trans kept turned) (tickFrame_reaction (boundary_followed u).reach)

/-! ## The records of an edge -/

theorem recordedOf_reach {srcs : List Source} {s t : State} (r : Reach srcs s t) :
    RecordedOf s t [.planSwapped, .planEnd] [] :=
  r.records.recordedOf fun _ kind => moveKinds_other _ kind

theorem recordedOf_judgeAway (s : State) : RecordedOf s s.judgeAway [.planSwapped, .planEnd] [] :=
  (recordedOf_reach (reach_setCondition (srcs := [.doorAway]) (withAway s) (by decide) _)).congr rfl rfl

/-- An edge's boundary is the one place at which the Plan Banks are recorded. -/
theorem edge_recordedOf {s u t : State} (before : RecordedOf s u [.planSwapped, .planEnd] [])
    (plans : u.plans = s.plans) (clock : u.clock = s.clock)
    (after : RecordedOf u.boundary t [.planSwapped, .planEnd] []) :
    RecordedOf s t [.planSwapped, .planEnd] (boundaryRecords s) := by
  have whole := (before.trans (boundary_recorded u)).trans after
  rw [boundaryRecords_congr plans clock] at whole
  simpa using whole

/-- The records of an edge begin with its own. -/
theorem edge_recorded {s u t : State} {r : EventRecord} (first : u.events = (s.append r).events) (rest : Appended u t) :
    ∃ more : List EventRecord, Recorded s t (r :: more) := by
  obtain ⟨xs, recorded⟩ := rest
  have begun : Recorded s u [r] := first
  exact ⟨xs, recorded_trans begun recorded⟩

/-! ## The tests that close an edge -/

theorem followed_movedTests (s : State) (moved : Bool) : Followed s (s.movedTests moved) := by
  cases moved with
  | false => exact .refl s
  | true =>
    rw [State.movedTests_true]
    refine (followed_parkedTest s).trans ?_
    unfold State.overshootTest
    split
    · exact followed_deliverEvent _ _ _
    · exact .refl _

/-- What the tests and the judging of the away set after `s` make of it is a reaction apart from the away set. -/
theorem followed_tests (s : State) (moved : Bool) :
    Followed { s with loop := { s.loop with away := (s.movedTests moved).awaySet } } (s.movedTests moved).judgeAway := by
  have tested := followed_movedTests s moved
  have written : Followed { s with loop := { s.loop with away := (s.movedTests moved).awaySet } }
      (withAway (s.movedTests moved)) := by
    unfold withAway
    rw [tested.reach.loop]
    exact StatusLoop.Followed.setLoop tested _
  exact written.trans (followed_setCondition _ _ _)

/-- The state `s` with the position, the Plan Banks and the away set of `t`. -/
def edgeStart (s t : State) : State :=
  { s with position := t.position, plans := t.plans, loop := { s.loop with away := t.loop.away } }

/-- The boundary and the tests after a state `u` are a reaction apart from the revolution, the banks and the away set. -/
theorem followed_closing (u : State) (moved : Bool) :
    Followed (edgeStart u ((u.boundary.movedTests moved).judgeAway)) ((u.boundary.movedTests moved).judgeAway) := by
  have tests := followed_tests u.boundary moved
  have loop : ((u.boundary.movedTests moved).judgeAway).loop =
      { u.loop with away := (u.boundary.movedTests moved).awaySet } := by
    rw [judgeAway_loop, (followed_movedTests u.boundary moved).reach.loop, (boundary_followed u).reach.loop]
    rfl
  have position : ((u.boundary.movedTests moved).judgeAway).position = (turnedOver u).position := by
    rw [judgeAway_position, movedTests_position, (boundary_followed u).reach.position]
  have plans : ((u.boundary.movedTests moved).judgeAway).plans = (turnedOver u).plans := by
    rw [tests.reach.plans, (boundary_followed u).reach.plans]
  have turned := StatusLoop.Followed.setLoop (boundary_followed u) { u.loop with away := (u.boundary.movedTests moved).awaySet }
  have loopOf : u.boundary.loop = u.loop := (boundary_followed u).reach.loop
  rw [loopOf] at tests
  rw [edgeStart, loop, position, plans]
  exact turned.trans tests

/-- The figures formed after a reaction. -/
theorem reacted_edgeStart {s t : State} (h : Followed (edgeStart s t) t) :
    Reacted { s with position := t.refresh.position, plans := t.refresh.plans
                     loop := { s.loop with away := t.refresh.loop.away } } t.refresh :=
  reacted_of_followed h

/-! ## The edge that verifies the position (R6) -/

/-- The position verified at the index mark. -/
def verifiedWheel (s : State) : State :=
  { s with position := { s.position with theta := 0, verified := true, stillCrossed := [] } }

/-- The verifying edge ahead of its tests. -/
def verifiedEdge (s : State) : State := (((verifiedWheel s).logPlain .index 0).retarget).formPosition

theorem verifyEdge_eq (s : State) : s.verifyEdge = ((verifiedEdge s).movedTests s.targetMoves).judgeAway := rfl

theorem followed_retarget (s : State) : Followed s s.retarget := by
  unfold State.retarget
  split
  · exact .refl s
  · split
    · exact followed_setPark s _
    · exact .refl s

theorem verifiedEdge_followed (s : State) : Followed (verifiedWheel s) (verifiedEdge s) := by
  have logged : Followed (verifiedWheel s) ((verifiedWheel s).logPlain .index 0) := followed_append _ _ nofun
  exact (logged.trans (followed_retarget _)).trans (followed_setCondition _ _ _)

theorem verifyEdge_followed (s : State) : Followed
    { s with position := s.verifyEdge.position, loop := { s.loop with away := s.verifyEdge.loop.away } } s.verifyEdge := by
  have before := verifiedEdge_followed s
  have tests := followed_tests (verifiedEdge s) s.targetMoves
  have loopOf : (verifiedEdge s).loop = s.loop := before.reach.loop
  rw [loopOf] at tests
  have loop : s.verifyEdge.loop = { s.loop with away := ((verifiedEdge s).movedTests s.targetMoves).awaySet } := by
    rw [verifyEdge_eq, judgeAway_loop, (followed_movedTests _ _).reach.loop, loopOf]
  rw [verifyEdge_position, loop]
  exact (StatusLoop.Followed.setLoop before _).trans tests

theorem verifyEdge_cond (s : State) : (s.verifyEdge.holds.table.get .position).cond = .none := by
  have logged := (followed_retarget ((verifiedWheel s).logPlain .index 0)).reach.position
  have formed : ((verifiedEdge s).holds.table.get .position).cond = .none := by
    rw [verifiedEdge, State.formPosition, setCondition_cond, logged, (State.logPlain_reaction _ _ _).position]
    rfl
  rw [verifyEdge_eq, judgeAway_source (src := .position) _ nofun,
    (reach_movedTests (verifiedEdge s) _).sources .position (by decide)]
  exact formed

theorem verifyEdge_recorded (s : State) :
    ∃ more : List EventRecord, Recorded s s.verifyEdge (plainRecord s .index 0 :: more) := by
  have first : ((verifiedWheel s).logPlain .index 0).events = (s.append (plainRecord s .index 0)).events :=
    State.append_events (s := s) (t := verifiedWheel s) rfl _
  have retargeted : Appended ((verifiedWheel s).logPlain .index 0) ((verifiedWheel s).logPlain .index 0).retarget :=
    Appended.reaction (.refl _) (followed_retarget _).reach
  refine edge_recorded first ?_
  rw [verifyEdge_eq]
  exact ((retargeted.setCondition _ _).movedTests _).judgeAway

/-- Settles O44: the verifying edge is a reaction to its new position, its away set judged last. -/
theorem indexEdgeVerifiesThePosition : Obligations.IndexEdgeVerifiesThePosition := by
  unfold Obligations.IndexEdgeVerifiesThePosition
  refine fun s running => ⟨fun other => ?_, fun forward unverified => ?_⟩
  · exact (State.running_of running _).trans (congrArg _ (if_neg other))
  · have taken : s.takenEdge = s.verifyEdge := if_neg (by rw [unverified]; exact Bool.false_ne_true)
    have run := exec_indexEdge running forward
    rw [taken] at run
    refine ⟨_, run, State.refresh_formed _, ?_, ?_, ?_, ?_⟩
    · rw [State.refresh_position, verifyEdge_position]
    · exact reacted_of_followed (verifyEdge_followed s)
    · rw [State.refresh_holds]
      exact verifyEdge_cond s
    · obtain ⟨more, recorded⟩ := verifyEdge_recorded s
      exact ⟨more, (State.refresh_events _).trans recorded⟩

end Sys2Proof.IndexEdges
end

section
/-! An index edge within the tolerance (R4, R7, R11, R167): its correction, the crossings of a negative offset, the
revolution boundary and the tests after it. -/

namespace Sys2Proof.IndexEdges

open Machine CabinTable StatusLoop WindAssessment EventStack SpeedPermit BerthMoves WheelTicks

/-! ## The correction -/

/-- θ corrected, the points that a positive offset takes phases back over left crossed (R4, R11, log 23). -/
def correctedWheel (s : State) (d : Int) : Position :=
  { s.position with
    theta := 0, stillCrossed := (if 0 < d then s.takenBack s.position.theta else []) ++ s.position.stillCrossed }

/-- The target of a park record that is not PARKED moved with θ (R167). -/
def movedTarget (d : Int) (r : ParkRecord) : ParkRecord :=
  if r.state = .parked then r else { r with target := r.target + BitVec.ofInt 32 d }

theorem shiftTarget_eq (s : State) (d : Int) : s.shiftTarget d = s.setPark (s.permit.park.map (movedTarget d)) := by
  unfold State.shiftTarget
  split
  next park =>
    rw [park, Option.map_none, ← park]
    rfl
  next r park =>
    rw [park, Option.map_some, movedTarget]
    by_cases parked : r.state = .parked
    · rw [if_pos parked, if_neg (by simp [ParkRecord.moves, parked]), ← park]
      rfl
    · rw [if_neg parked, if_pos (by simp [ParkRecord.moves, parked])]

theorem targetMoves_eq (s : State) : s.targetMoves = s.permit.park.any fun r => r.state ≠ .parked := by
  unfold State.targetMoves
  cases s.permit.park <;> rfl

/-- An append leaves the park record, and the park record's write leaves the Event Stack. -/
theorem shiftTarget_append (s : State) (r : EventRecord) (d : Int) :
    (s.append r).shiftTarget d = (s.setPark (s.permit.park.map (movedTarget d))).append r := by
  obtain ⟨-, permit, -⟩ := s.append_kept r
  rw [shiftTarget_eq, permit, append_eq_of_events (s := s) (t := s.setPark (s.permit.park.map (movedTarget d))) rfl,
    append_eq_of_events (s := s) (t := s) rfl]
  rfl

/-- θ and the target of a park record corrected. -/
def corrected (s : State) (d : Int) : State :=
  { s with position := correctedWheel s d, permit := { s.permit with park := s.permit.park.map (movedTarget d) } }

/-- The edge with θ and the target corrected and INDEX recorded. -/
def correctedEdge (s : State) (d : Int) : State := (corrected s d).append (plainRecord s .index d)

theorem correctedEdge_eq (s : State) (d : Int) :
    correctedEdge s d = { corrected s d with events := (s.append (plainRecord s .index d)).events } :=
  append_eq_of_events (s := s) (t := corrected s d) rfl _

/-- The crossings of a negative offset handed over (R11, R115). -/
def correctionHanded (s : State) (d : Int) : State :=
  if d < 0 then ((correctedEdge s d).handCrossings s.position.theta 0 .a).handCrossings s.position.theta 0 .b
  else correctedEdge s d

theorem goodEdge_eq (s : State) (d : Int) : s.goodEdge d =
    (((correctionHanded s d).boundary).movedTests (d ≠ 0 && s.targetMoves)).judgeAway := by
  have shifted : ((s.correct d).logPlain .index d).shiftTarget d = correctedEdge s d :=
    shiftTarget_append (s.correct d) _ d
  unfold State.goodEdge correctionHanded
  rw [← shifted]

theorem correctionHanded_reach (s : State) (d : Int) : Reach visitSources (correctedEdge s d) (correctionHanded s d) := by
  unfold correctionHanded
  split
  · exact (reach_handCrossings _ .a _ _).trans (reach_handCrossings _ .b _ _)
  · exact .refl _ _

theorem correctedEdge_kept (s : State) (d : Int) : TickFrame s (correctedEdge s d) ∧
    (correctedEdge s d).position = correctedWheel s d ∧
    (correctedEdge s d).events = (s.append (plainRecord s .index d)).events := by
  rw [correctedEdge_eq]
  exact ⟨rfl, rfl, rfl⟩

/-- Where nothing is handed over, the corrected edge is a reaction to its position, banks and away set. -/
theorem correctedEdge_followed (s t : State) (d : Int) : Followed (edgeStart s t) (edgeStart (correctedEdge s d) t) := by
  have commuted : edgeStart (correctedEdge s d) t =
      ((edgeStart s t).setPark (s.permit.park.map (movedTarget d))).append (plainRecord s .index d) := by
    rw [append_eq_of_events (s := s) (t := (edgeStart s t).setPark (s.permit.park.map (movedTarget d))) rfl,
      correctedEdge_eq]
    rfl
  rw [commuted]
  exact (followed_setPark _ _).trans (followed_append _ _ nofun)

/-! ## The edge -/

section

variable (s : State) (d : Int)

theorem goodEdge_position :
    (s.goodEdge d).position = { correctedWheel s d with revolutions := (s.position.revolutions + 1) % 65536 } := by
  obtain ⟨-, position, -⟩ := correctedEdge_kept s d
  rw [goodEdge_eq, judgeAway_position, movedTests_position, boundary_position, (correctionHanded_reach s d).position,
    position]
  rfl

theorem goodEdge_frame : TickFrame { s with plans := afterBoundary s.plans } (s.goodEdge d).refresh := by
  obtain ⟨frame, -⟩ := correctedEdge_kept s d
  have handed := tickFrame_trans frame (tickFrame_reach (correctionHanded_reach s d))
  rw [goodEdge_eq]
  exact tickFrame_trans (tickFrame_trans (tickFrame_trans (boundary_frame handed) (tickFrame_reach (reach_movedTests _ _)))
    (tickFrame_judgeAway _)) (tickFrame_refresh _)

theorem goodEdge_recorded : ∃ more : List EventRecord, Recorded s (s.goodEdge d) (plainRecord s .index d :: more) := by
  obtain ⟨-, -, first⟩ := correctedEdge_kept s d
  obtain ⟨xs, handed, -⟩ := (correctionHanded_reach s d).records
  have rest : Appended (correctedEdge s d) (correctionHanded s d) := ⟨xs, handed⟩
  refine edge_recorded first ?_
  rw [goodEdge_eq]
  exact (rest.boundary.movedTests _).judgeAway

theorem goodEdge_recordedOf :
    RecordedOf s (s.goodEdge d) [.planSwapped, .planEnd] (boundaryRecords s) := by
  obtain ⟨frame, -, first⟩ := correctedEdge_kept s d
  have handed := correctionHanded_reach s d
  have begun : RecordedOf s (correctedEdge s d) [.planSwapped, .planEnd] [] :=
    (RecordedOf.append_other s (plainRecord s .index d) rfl).congr rfl first
  have clock : (correctedEdge s d).clock = s.clock := by
    unfold TickFrame at frame
    rw [frame]
  rw [goodEdge_eq]
  exact edge_recordedOf (begun.trans (recordedOf_reach handed)) (handed.plans.trans (tickFrame_plans frame))
    (handed.clock.trans clock) ((recordedOf_reach (reach_movedTests _ _)).trans (recordedOf_judgeAway _))

end

/-- Settles O45: the edge is its correction, the crossings of a negative offset as a `Reach`, and the closing reaction. -/
theorem indexEdgeWithinTolerance : Obligations.IndexEdgeWithinTolerance := by
  unfold Obligations.IndexEdgeWithinTolerance
  intro s running forward verified d within
  have taken : s.takenEdge = s.goodEdge d := (if_pos verified).trans (if_pos within)
  have run := exec_indexEdge running forward
  rw [taken] at run
  refine ⟨_, run, State.refresh_formed _, ?_⟩
  intro back position
  have wheel : correctedWheel s d = position := by
    simp only [position, back, crossedUpTo_eq]
    rfl
  have plans : (s.goodEdge d).plans = afterBoundary s.plans :=
    (State.refresh_plans _).symm.trans (tickFrame_plans (goodEdge_frame s d))
  have closing := followed_closing (correctionHanded s d) (d ≠ 0 && s.targetMoves)
  rw [← goodEdge_eq] at closing
  have whole := goodEdge_eq s d
  rw [targetMoves_eq] at whole
  have start : State.append
      { s with position := position, permit := { s.permit with park := s.permit.park.map (movedTarget d) } }
      (plainRecord s .index d) = correctedEdge s d := by
    rw [correctedEdge, corrected, wheel]
  refine ⟨?_, ?_, ?_, fun forwards => ?_, ?_, ?_, ?_⟩
  · rw [State.refresh_position, goodEdge_position, wheel]
  · rw [State.refresh_plans, plans]
  · rw [State.refresh_plans, plans]
    exact goodEdge_frame s d
  · have unhanded : correctionHanded s d = correctedEdge s d := if_neg (Int.not_lt.mpr forwards)
    rw [unhanded] at closing
    exact reacted_edgeStart ((correctedEdge_followed s _ d).trans closing)
  · obtain ⟨more, recorded⟩ := goodEdge_recorded s d
    exact ⟨more, (State.refresh_events _).trans recorded⟩
  · exact (goodEdge_recordedOf s d).congr rfl (State.refresh_events _)
  · intro target moving begun u
    have handed : u = correctionHanded s d := by
      have first : begun = correctedEdge s d := start
      simp only [u, handed_eq, first]
      rfl
    clear_value u
    subst handed
    exact ⟨by rw [whole], reacted_edgeStart closing⟩

end Sys2Proof.IndexEdges
end

section
/-! An index edge beyond the tolerance (R5, R7, R8, R80): POSITION holds STOP from its one change on, so nothing after it is
assigned, and each visit loses the position. -/

namespace Sys2Proof.IndexEdges

open Machine CabinTable StatusLoop WindAssessment EventStack SpeedPermit BerthMoves WheelTicks

/-! ## Held by POSITION -/

/-- POSITION holds STOP at least, and the held grade is the one the table forms. -/
structure HeldByPosition (s : State) : Prop where
  formed : s.holds.held = s.holds.table.heldGrade
  latched : Grade.stop.value ≤ (s.holds.table.get .position).latched.value

section

variable {s : State} (h : HeldByPosition s)
include h

theorem HeldByPosition.held : Grade.stop.value ≤ s.holds.held.value := by
  rw [h.formed]
  exact h.latched.trans (latched_le_heldGrade _ .position)

/-- Nothing is assigned while it lasts (R66). -/
theorem HeldByPosition.above : s.holds.held.atLeast .unload = true :=
  decide_eq_true ((by decide : Grade.unload.value ≤ Grade.stop.value).trans h.held)

theorem HeldByPosition.ceiling : s.refresh.permit.ceiling = 0 := by
  have held := h.held
  refine ceilingNow_of_stopped ?_
  revert held
  cases s.holds.held <;> decide

theorem HeldByPosition.reach {srcs : List Source} {t : State} (r : Reach srcs s t) (other : Source.position ∉ srcs) :
    HeldByPosition t :=
  ⟨r.held h.formed, by rw [r.sources .position other]; exact h.latched⟩

theorem HeldByPosition.boundary : HeldByPosition s.boundary :=
  ⟨boundary_held s h.formed, by rw [boundary_source s (src := .position) nofun]; exact h.latched⟩

theorem HeldByPosition.judgeAway : HeldByPosition s.judgeAway := by
  have written : HeldByPosition (withAway s) := ⟨h.formed, h.latched⟩
  exact written.reach (reach_setCondition (srcs := [.doorAway]) _ (by decide) _) (by decide)

end

/-! ## The stages of the edge -/

/-- The position lost at the index mark. -/
def lostWheel (s : State) : State :=
  { s with position := { s.position with theta := 0, verified := false, stillCrossed := [] } }

/-- POSITION's record after its condition at UNLOAD and its event at STOP (R5, R8). -/
def lostRecord (r : HoldRecord) : HoldRecord := (r.withCond .unload).withEvent .stop

/-- The edge recorded and POSITION changed. -/
def lostPosition (s : State) (d : Int) : State :=
  ((lostWheel s).append (plainRecord s .indexMismatch d)).changeSource .position lostRecord

/-- The visits of both platforms have lost the position (R80). -/
def lostVisits (s : State) (d : Int) : State := ((lostPosition s d).losePosition .a).losePosition .b

theorem badEdge_eq (s : State) (d : Int) : s.badEdge d = ((lostVisits s d).boundary).judgeAway := rfl

section

variable (s : State) (d : Int)

theorem lostPosition_record : (lostPosition s d).holds.table.get .position =
    { lostRecord (s.holds.table.get .position) with
      latched := latchOf (s.settings.auto.get .position) (lostRecord (s.holds.table.get .position)) } := by
  have kept := (lostWheel s).append_holds (plainRecord s .indexMismatch d)
  have settings := ((lostWheel s).append_reaction (plainRecord s .indexMismatch d)).store
  unfold lostPosition
  rw [State.changeSource_holds, HoldTable.get_set_same, State.settings, kept, settings]
  rfl

theorem lostPosition_heldByPosition : HeldByPosition (lostPosition s d) := by
  refine ⟨by unfold lostPosition; rw [State.changeSource_holds], ?_⟩
  rw [lostPosition_record]
  unfold latchOf lostRecord HoldRecord.withEvent
  split <;> simp

theorem lostVisits_reach : Reach visitSources (lostPosition s d) (lostVisits s d) :=
  (reach_losePosition _ .a).trans (reach_losePosition _ .b)

theorem lostVisits_heldByPosition : HeldByPosition (lostVisits s d) :=
  (lostPosition_heldByPosition s d).reach (lostVisits_reach s d) (by decide)

theorem badEdge_heldByPosition : HeldByPosition (s.badEdge d) := by
  rw [badEdge_eq]
  exact (lostVisits_heldByPosition s d).boundary.judgeAway

theorem badEdge_record : (s.badEdge d).holds.table.get .position = (lostPosition s d).holds.table.get .position := by
  rw [badEdge_eq, judgeAway_source (src := .position) _ nofun, boundary_source (src := .position) _ nofun]
  exact (lostVisits_reach s d).sources .position (by decide)

theorem lostPosition_reaction : Reaction (lostWheel s) (lostPosition s d) :=
  ((lostWheel s).append_reaction _).trans (State.changeSource_reaction _ _ _)

theorem lostPosition_recorded : RecordedOf s (lostPosition s d) [.planSwapped, .planEnd] [] := by
  have first : RecordedOf s ((lostWheel s).append (plainRecord s .indexMismatch d)) [.planSwapped, .planEnd] [] :=
    (RecordedOf.append_other s (plainRecord s .indexMismatch d) rfl).congr rfl
      (State.append_events (s := s) (t := lostWheel s) rfl _)
  exact first.trans (recordedOf_reach (reach_changeSource (srcs := [.position]) _ (by decide) _))

theorem badEdge_recordedOf : RecordedOf s (s.badEdge d) [.planSwapped, .planEnd] (boundaryRecords s) := by
  have r := lostPosition_reaction s d
  have lost := lostVisits_reach s d
  rw [badEdge_eq]
  exact edge_recordedOf ((lostPosition_recorded s d).trans (recordedOf_reach lost)) (lost.plans.trans r.plans)
    (lost.clock.trans r.clock) (recordedOf_judgeAway _)

theorem badEdge_recorded :
    ∃ more : List EventRecord, Recorded s (s.badEdge d) (plainRecord s .indexMismatch d :: more) := by
  have first : ((lostWheel s).append (plainRecord s .indexMismatch d)).events =
      (s.append (plainRecord s .indexMismatch d)).events := State.append_events (s := s) (t := lostWheel s) rfl _
  refine edge_recorded first ?_
  rw [badEdge_eq]
  exact ((((Appended.changeSource (.refl _) _ _).losePosition .a).losePosition .b).boundary).judgeAway

theorem badEdge_position : (s.badEdge d).position =
    { (lostWheel s).position with revolutions := (s.position.revolutions + 1) % 65536 } := by
  rw [badEdge_eq, judgeAway_position, boundary_position, (lostVisits_reach s d).position,
    (lostPosition_reaction s d).position]
  rfl

theorem badEdge_frame : TickFrame { s with plans := afterBoundary s.plans } (s.badEdge d).refresh := by
  have lost := tickFrame_trans (tickFrame_position s (lostWheel s).position)
    (tickFrame_reaction (lostPosition_reaction s d))
  rw [badEdge_eq]
  exact tickFrame_trans (tickFrame_trans (boundary_frame (tickFrame_trans lost (tickFrame_reach (lostVisits_reach s d))))
    (tickFrame_judgeAway _)) (tickFrame_refresh _)

end

/-! ## The visits -/

/-- A Sequencer whose visit, where it has one, has lost the position (R80). -/
def lostSequencer (q : Sequencer) : Sequencer :=
  match q.current with
  | none => q
  | some v =>
    let lost : Visit := { v with positionLost := true }
    if v.state ∈ [.passing, .secured] then
      { q with current := none, last := some lost, actuatorTimer := none, doorLate := if v.late then false else q.doorLate }
    else { q with current := some lost }

theorem endVisit_sequencers {s : State} {pf : Platform} {v : Visit}
    (above : (s.endVisit pf v).holds.held.atLeast .unload = true) :
    (s.endVisit pf v).sequencers = (endedVisit s pf v).sequencers := by
  rw [endVisit_eq] at above ⊢
  split at above
  next late =>
    rw [if_pos late]
    exact (setCondition_visits above).1
  next timely => rw [if_neg timely]

theorem losePosition_sequencers {s : State} {pf : Platform}
    (above : (s.losePosition pf).holds.held.atLeast .unload = true) :
    (s.losePosition pf).sequencers = s.sequencers.set pf (lostSequencer (s.sequencers.get pf)) := by
  rw [State.losePosition_eq] at above ⊢
  unfold lostSequencer
  cases current : (s.sequencers.get pf).current with
  | none => exact (set_get_self _ _).symm
  | some v =>
    rw [current] at above
    dsimp only at above ⊢
    by_cases ends : v.state ∈ [.passing, .secured]
    · rw [if_pos ends] at above
      rw [if_pos ends, if_pos ends, endVisit_sequencers above]
      rfl
    · rw [if_neg ends, if_neg ends]

/-- POSITION's change assigns nothing: it leaves STOP latched. -/
theorem lostPosition_sequencers (s : State) (d : Int) : (lostPosition s d).sequencers = s.sequencers := by
  obtain ⟨-, -, sequencers, -⟩ := (lostWheel s).append_kept (plainRecord s .indexMismatch d)
  exact (State.changeSource_visits _ _ _ (lostPosition_heldByPosition s d).above).1.trans sequencers

theorem badEdge_sequencers (s : State) (d : Int) (pf : Platform) :
    (s.badEdge d).sequencers.get pf = lostSequencer (s.sequencers.get pf) := by
  have begun := lostPosition_heldByPosition s d
  have lostA := begun.reach (reach_losePosition (lostPosition s d) .a) (by decide)
  have lost := lostVisits_heldByPosition s d
  have sequencers : (lostVisits s d).sequencers =
      (s.sequencers.set .a (lostSequencer s.sequencers.a)).set .b (lostSequencer s.sequencers.b) := by
    unfold lostVisits at lost ⊢
    rw [losePosition_sequencers lost.above, losePosition_sequencers lostA.above, lostPosition_sequencers]
    rfl
  have bounded : (s.badEdge d).sequencers = (lostVisits s d).sequencers := by
    rw [badEdge_eq, (judgeAway_unassigned lost.boundary.judgeAway.above).1, boundary_unassigned _ lost.boundary.above]
  rw [bounded, sequencers]
  cases pf <;> rfl

theorem lostSequencer_vacant {q : Sequencer} (vacant : q.current = none) : lostSequencer q = q := by
  unfold lostSequencer
  rw [vacant]

theorem lostSequencer_ends {q : Sequencer} {v : Visit} (current : q.current = some v)
    (ends : v.state ∈ [.passing, .secured]) :
    (lostSequencer q).current = none ∧ (lostSequencer q).last = some { v with positionLost := true } ∧
    (lostSequencer q).actuatorTimer = none := by
  unfold lostSequencer
  rw [current]
  dsimp only
  rw [if_pos ends]
  exact ⟨rfl, rfl, rfl⟩

theorem lostSequencer_stays {q : Sequencer} {v : Visit} (current : q.current = some v)
    (stays : v.state ∈ [.opening, .opened, .closing]) :
    lostSequencer q = { q with current := some { v with positionLost := true } } := by
  have other : v.state ∉ [.passing, .secured] := by
    revert stays
    cases v.state <;> decide
  unfold lostSequencer
  rw [current]
  dsimp only
  rw [if_neg other]

/-- Settles O46: after POSITION's change the wheel is held by it, so the visits lose the position, the boundary turns the
banks, and nothing is assigned. -/
theorem indexEdgeBeyondTolerance : Obligations.IndexEdgeBeyondTolerance := by
  unfold Obligations.IndexEdgeBeyondTolerance
  intro s running forward verified d beyond
  have taken : s.takenEdge = s.badEdge d := (if_pos verified).trans (if_neg (Nat.not_le.mpr beyond))
  have run := exec_indexEdge running forward
  rw [taken] at run
  have plans : (s.badEdge d).plans = afterBoundary s.plans :=
    (State.refresh_plans _).symm.trans (tickFrame_plans (badEdge_frame s d))
  have record := (badEdge_record s d).trans (lostPosition_record s d)
  refine ⟨_, run, State.refresh_formed _, ?_, ?_, ?_, ?_, ?_, ?_, ?_, (badEdge_heldByPosition s d).ceiling, ?_, ?_⟩
  · rw [State.refresh_position, badEdge_position]
    rfl
  · rw [State.refresh_plans, plans]
  · rw [State.refresh_plans, plans]
    exact badEdge_frame s d
  · obtain ⟨more, recorded⟩ := badEdge_recorded s d
    exact ⟨more, (State.refresh_events _).trans recorded⟩
  · exact (badEdge_recordedOf s d).congr rfl (State.refresh_events _)
  · rw [State.refresh_holds, record]
    rfl
  · rw [State.refresh_holds, record]
    rfl
  · intro pf q
    rw [State.refresh_sequencers, badEdge_sequencers]
    exact ⟨lostSequencer_vacant, fun v current => ⟨lostSequencer_ends current, lostSequencer_stays current⟩⟩
  · intro start struck lose
    have loses (u : State) (pf : Platform) : lose u pf = u.losePosition pf := (State.losePosition_eq u pf).symm
    rw [loses, loses, badEdge_eq]
    rfl

end Sys2Proof.IndexEdges
end

section
/-! A step with an empty queue (log 2): a millisecond of the timers, and the rows of those that run out. -/

namespace Sys2Proof.CommandQueue

open Machine CabinTable StatusLoop

theorem step_of_empty {s : State} (empty : s.pending = []) : step s = .next s.tick := by
  unfold step
  rw [empty]

/-- A timer that may be stopped runs out where it runs and has at most 1 ms left. -/
theorem mayRunOut_eq (t : Option Nat) : mayRunOut t = t.any fun n => n ≤ 1 := by
  cases t <;> rfl

/-- The rows of a millisecond, each where its timer runs out (log 2). -/
theorem dueRows_eq (s : State) : s.dueRows =
    let out (timer : Option Nat) : Bool := timer.any fun n => n ≤ 1
    ifDue (out s.permit.silenceTimer) .driveSilenceExpiry ++
    ifDue (out s.sequencers.a.actuatorTimer) (.actuatorTimerExpiry .a) ++
    ifDue (out s.sequencers.b.actuatorTimer) (.actuatorTimerExpiry .b) ++
    ifDue (s.position.windowTimer ≤ 1) .windowEnd ++
    ifDue (s.loop.scanTimer ≤ 1) .scanStart ++
    ifDue (s.output.blinkTimer ≤ 1) .blinkToggle ++
    ifDue (s.output.content ≠ s.output.sent && !s.output.inProgress) .sequenceStart ++
    ifDue (s.output.refreshTimer ≤ 1) .refreshExpiry := by
  unfold State.dueRows
  rw [mayRunOut_eq, mayRunOut_eq, mayRunOut_eq]
  rfl

/-- Settles O2: a millisecond is written out with its rows; a restart that is due leaves a running part with the same
queue, so the step after it is the same millisecond. -/
theorem emptyQueueIsOneMillisecond : Obligations.EmptyQueueIsOneMillisecond := by
  unfold Obligations.EmptyQueueIsOneMillisecond
  intro s empty out row
  rw [step_of_empty empty, State.tick]
  refine ⟨fun running => ?_, fun due => ?_, fun still => ?_⟩
  · rw [State.whenRunning_running running, State.millisecond, empty, List.nil_append, dueRows_eq]
    rfl
  · have empty' : (s.warmRestart .request).pending = [] := (pending_warmRestart s .request).trans empty
    have running : (s.warmRestart .request).phase = .running := warmRestart_phase s .request
    rw [step_of_empty empty', State.tick, State.whenRunning_running running, State.whenRunning, due]
  · unfold State.whenRunning
    rcases still with off | reset
    · rw [off]
    · rw [reset]

end Sys2Proof.CommandQueue
end

section
/-! What a window end sets off, and the figures it forms (R3, R120 to R123). -/

namespace Sys2Proof.WindAssessment

open Machine CabinTable StatusLoop

/-! ## What is followed does not hang on the wind or on the park record -/

theorem followed_setWind {s t : State} (h : Followed s t) (x : Wind) :
    Followed { s with wind := x } { t with wind := x } := by
  obtain ⟨r, parties, fall⟩ := h
  have p := parties_congr (s := s) (s' := { s with wind := x }) (t := t) (t' := { t with wind := x })
    ⟨rfl, rfl, rfl, rfl, rfl⟩ rfl rfl rfl rfl
  obtain ⟨xs, recorded⟩ := r.events
  have recorded' : Recorded { s with wind := x } { t with wind := x } xs := recorded_congr recorded rfl
  exact ⟨⟨r.phase, r.position, r.cabins, r.loop, r.output, r.plans, rfl, r.stops, r.ports, r.store, r.clock,
    r.brakeDemand, r.pending, r.unload, r.permit, r.visits, xs, recorded'⟩, parties.imp p.1 p.2,
    fun above below => p.2 (fall above below)⟩

theorem followed_priorPark {s t : State} (h : Followed s t) (x : Option ParkRecord) :
    Followed { s with permit := { s.permit with park := x } } t := by
  obtain ⟨r, parties, fall⟩ := h
  have p := parties_congr (s := s) (s' := { s with permit := { s.permit with park := x } }) (t := t) (t' := t)
    ⟨rfl, rfl, rfl, rfl, rfl⟩ rfl rfl rfl rfl
  obtain ⟨xs, recorded⟩ := r.events
  have recorded' : Recorded { s with permit := { s.permit with park := x } } t xs := recorded_congr recorded rfl
  exact ⟨⟨r.phase, r.position, r.cabins, r.loop, r.output, r.plans, r.wind, r.stops, r.ports, r.store, r.clock,
    r.brakeDemand, r.pending, r.unload, r.permit, r.visits, xs, recorded'⟩, parties.imp p.1 p.2,
    fun above below => p.2 (fall above below)⟩

/-! ## A window end is followed through its stages -/

theorem followed_logSensor (s : State) (k : Sensor) (c : SensorChange) : Followed s (s.logSensor k c) := by
  cases c with
  | same => exact .refl s
  | stalled | overran | recovered => exact followed_append s _ nofun

theorem followed_changeClass (s : State) (old new : WindClass) : Followed s (s.changeClass old new) := by
  unfold State.changeClass
  split
  · exact .refl s
  · have logged : Followed s (s.logGrade .classChange new.grade ((10 * old.code + new.code : Nat) : Int)) :=
      followed_append s _ nofun
    exact logged.trans (followed_setCondition _ _ _)

/-- The state a window end starts its reactions from: its window closed, and the Wind Assessor as it leaves it. -/
def windowClosed (s : State) : State := { s with position := s.position.closeWindow, wind := windAfter s }

theorem followed_parkTested (s : State) : Followed (windowClosed s) { parkTested s with wind := windAfter s } :=
  followed_setWind (followed_parkedTest { s with position := s.position.closeWindow }) (windAfter s)

theorem followed_sensed (s : State) :
    Followed { parkTested s with wind := windAfter s } { sensed s with wind := windAfter s } := by
  have logged : Followed (unlogged s) (sensed s) := by
    rw [sensed_eq]
    exact (followed_logSensor _ _ _).trans (followed_logSensor _ _ _)
  exact followed_setWind logged (windAfter s)

theorem followed_flagged (s : State) : Followed { sensed s with wind := windAfter s } (classed s) :=
  followed_setWind (followed_setCondition (combined s) .windSensor _) (windAfter s)

theorem followed_windowEnd (s : State) : Followed (windowClosed s) s.windowEnd := by
  rw [windowEnd_eq_changeClass]
  exact ((followed_parkTested s).trans (followed_sensed s)).trans
    ((followed_flagged s).trans (followed_changeClass _ _ _))

/-! ## The figures -/

/-- The combined wind keeps the counts of the window ends (R127). -/
theorem windAfter_counts (s : State) : (windAfter s).windowEnds = min 240 (s.wind.windowEnds + 1) ∧
    (windAfter s).groupPosition = (s.wind.groupPosition + 1) % 4 := by
  rw [windAfter, combine_eq]
  exact ⟨rfl, rfl⟩

section
variable (x : Anemometer) (other : Companion) (stallTime reference : Nat)

/-- The tests leave the counts and the rings of the sensor's windows. -/
theorem test_rings :
    let y := (x.test other stallTime reference).1
    y.openCount = x.openCount ∧ y.lastCount = x.lastCount ∧ y.windowRing = x.windowRing ∧ y.secondRing = x.secondRing := by
  unfold Anemometer.test
  split
  · rw [recoveryTest_eq]
    split <;> exact ⟨rfl, rfl, rfl, rfl⟩
  · rw [faultTest_eq]
    split
    · exact ⟨rfl, rfl, rfl, rfl⟩
    · split <;> exact ⟨rfl, rfl, rfl, rfl⟩

end

/-- A sensor with its window closed: at every fourth window end its second is closed too (R120). -/
theorem closedSensor_eq (s : State) (k : Sensor) :
    closedSensor s k = if (s.wind.groupPosition + 1) % 4 = 0
      then ((s.wind.sensors.get k).closeWindow (s.settings.factors.get k)).closeSecond
      else (s.wind.sensors.get k).closeWindow (s.settings.factors.get k) := by
  unfold closedSensor Wind.closeWindows
  dsimp only
  split <;> cases k <;> rfl

theorem closedSensor_open (s : State) (k : Sensor) : (closedSensor s k).openCount = 0 := by
  rw [closedSensor_eq]
  split <;> rfl

/-- The window ring is closed before the second is, and the gust is formed from it (R121, R122). -/
theorem closedSensor_window (s : State) (k : Sensor) :
    let x := (s.wind.sensors.get k).closeWindow (s.settings.factors.get k)
    (closedSensor s k).windowRing = x.windowRing ∧ (closedSensor s k).gust = x.gust := by
  rw [closedSensor_eq]
  split <;> exact ⟨rfl, rfl⟩

theorem closedSensor_second {s : State} (full : (s.wind.groupPosition + 1) % 4 = 0) (k : Sensor) :
    closedSensor s k = ((s.wind.sensors.get k).closeWindow (s.settings.factors.get k)).closeSecond := by
  rw [closedSensor_eq, if_pos full]

theorem closedSensor_within {s : State} (part : (s.wind.groupPosition + 1) % 4 ≠ 0) (k : Sensor) :
    (closedSensor s k).secondRing = (s.wind.sensors.get k).secondRing ∧
    (closedSensor s k).mean = (s.wind.sensors.get k).mean := by
  rw [closedSensor_eq, if_neg part]
  exact ⟨rfl, rfl⟩

/-- Settles O52: the stages of a window end are followed from the state with its window closed, and a sensor's test
leaves the figures that closing its window formed. -/
theorem windowEndFormsSpeedAndWind : Obligations.WindowEndFormsSpeedAndWind := by
  unfold Obligations.WindowEndFormsSpeedAndWind
  intro s running
  have followed := followed_windowEnd s
  have position : s.windowEnd.position = s.position.closeWindow := followed.reach.position
  have wind := windowEnd_wind s
  obtain ⟨ends, group⟩ := windAfter_counts s
  refine ⟨s.windowEnd.refresh, exec_windowEnd running, State.refresh_refresh _, ?_⟩
  generalize s.windowEnd = u at followed position wind
  have reacted := reacted_of_followed (followed_priorPark followed u.refresh.permit.park)
  rw [windowClosed, ← position, ← wind] at reacted
  refine ⟨position, reacted, ?_⟩
  rw [State.refresh_wind, wind]
  refine ⟨ends, group, fun k => ?_⟩
  rw [windAfter_sensor, group]
  obtain ⟨openCount, lastCount, windows, seconds⟩ := test_rings (closedSensor s k)
    (closedSensor s (companionOf k)).companion s.settings.stallTime s.settings.stallReference
  obtain ⟨gust, mean⟩ := test_figures (closedSensor s k) (other := (closedSensor s (companionOf k)).companion)
    (stallTime := s.settings.stallTime) (reference := s.settings.stallReference)
  obtain ⟨ring, formed⟩ := closedSensor_window s k
  refine ⟨openCount.trans (closedSensor_open s k), lastCount.trans (closedSensor_counts s k).1, windows.trans ring,
    gust.trans formed, fun full => ?_, fun part => ?_⟩
  · have second := closedSensor_second full k
    exact ⟨seconds.trans (congrArg Anemometer.secondRing second), mean.trans (congrArg Anemometer.mean second)⟩
  · obtain ⟨ring, formed⟩ := closedSensor_within part k
    exact ⟨seconds.trans ring, mean.trans formed⟩

end Sys2Proof.WindAssessment
end

section
/-! Phases, next-ENTER figures and the order of the cabins at a platform (R10 to R13). -/

namespace Sys2Proof.Phases

open Machine StatusLoop SpeedPermit

/-! ## The geometry in force -/

theorem berthOffset_eq (beta : Nat) (pf : Platform) : berthOffset beta pf = if pf = .a then 0 else beta := by
  cases pf <;> rfl

/-- A legal geometry's ticks are `n` pitches. -/
theorem ticks_of_ok {g : Geometry} (ok : g.ok = true) : (g.p : Int) = g.pitch * g.n := by
  have whole : g.p % g.n = 0 := by
    unfold Geometry.ok at ok
    simp only [Bool.and_eq_true, decide_eq_true_eq] at ok
    exact ok.1.1.1.1.1.1.2
  exact_mod_cast (Nat.div_mul_cancel (Nat.dvd_of_mod_eq_zero whole)).symm

/-! ## The next-ENTER figures (R13) -/

/-- The distance is congruent to what is left of the pitch, and 1 to the pitch. -/
theorem nextEnterDistance_spec (s : State) (pf : Platform) (pos : 0 < s.geometry.pitch) :
    let away : Int := (berthOffset s.position.points.beta pf : Int) - s.position.points.enter - s.position.theta
    1 ≤ s.nextEnterDistance pf ∧ s.nextEnterDistance pf ≤ s.geometry.pitch ∧
    (s.geometry.pitch : Int) ∣ s.nextEnterDistance pf - away := by
  unfold State.nextEnterDistance
  dsimp only
  generalize (berthOffset s.position.points.beta pf : Int) - s.position.points.enter - s.position.theta = away
  have low := Int.emod_nonneg away (b := (s.geometry.pitch : Int)) (by omega)
  have high := Int.emod_lt_of_pos away (b := (s.geometry.pitch : Int)) (by omega)
  have rest := Int.dvd_self_sub_of_emod_eq (a := away) (b := (s.geometry.pitch : Int)) rfl
  split
  · next zero =>
    rw [zero, Int.sub_zero] at rest
    exact ⟨pos, le_rfl, (dvd_refl _).sub rest⟩
  · next some' =>
    refine ⟨by omega, by omega, ?_⟩
    rw [Int.toNat_of_nonneg low, ← Int.neg_sub]
    exact rest.neg_right

/-- The cabin a multiple of the pitch stands for is that many pitches on, modulo the wheel. -/
theorem cabin_of_pitches {h n : Nat} (hpos : 0 < h) (npos : 0 < n) {x : Int} (whole : (h : Int) ∣ x) :
    let cabin := (x % ((h : Int) * n)).toNat / h
    cabin < n ∧ (x - cabin * h) % ((h : Int) * n) = 0 := by
  obtain ⟨c, rfl⟩ := whole
  have low := Int.emod_nonneg c (b := (n : Int)) (by omega)
  have high := Int.emod_lt_of_pos c (b := (n : Int)) (by omega)
  have rest := Int.dvd_self_sub_of_emod_eq (a := c) (b := (n : Int)) rfl
  obtain ⟨r, hr⟩ := Int.eq_ofNat_of_zero_le low
  rw [hr] at high rest
  have cabin : ((h * c) % ((h : Int) * n)).toNat / h = r := by
    rw [Int.mul_emod_mul_of_pos _ _ (by omega), hr, ← Int.natCast_mul, Int.toNat_natCast, Nat.mul_div_cancel_left _ hpos]
  dsimp only
  rw [cabin]
  refine ⟨by omega, Int.emod_eq_zero_of_dvd ?_⟩
  rw [Int.mul_comm (r : Int), ← Int.mul_sub]
  exact mul_dvd_mul_left _ rest

/-- Settles O18: the distance is the least positive number of ticks that makes the berth figure a whole number of
pitches, and the cabin is that number of pitches. -/
theorem nextEnterFigures : Obligations.NextEnterFigures := by
  unfold Obligations.NextEnterFigures
  intro s pf sound
  obtain ⟨ok, -⟩ := sound
  obtain ⟨pos, -⟩ := pitch_of_ok ok
  obtain ⟨npos, -⟩ := WheelAndSave.geometry_pos ok
  obtain ⟨low, high, multiple⟩ := nextEnterDistance_spec s pf pos
  have ticks := ticks_of_ok ok
  have cabin : s.nextEnterCabin pf = (((s.position.theta : Int) + s.nextEnterDistance pf -
      berthOffset s.position.points.beta pf + s.position.points.enter) % (s.geometry.p : Int)).toNat / s.geometry.pitch := rfl
  dsimp only
  rw [← berthOffset_eq s.position.points.beta pf, show s.geometry.p / s.geometry.n = s.geometry.pitch from rfl, cabin, ticks]
  generalize (berthOffset s.position.points.beta pf : Int) = o at multiple
  generalize s.nextEnterDistance pf = distance at low high multiple
  have whole : (s.geometry.pitch : Int) ∣ (s.position.theta : Int) + distance - o + s.position.points.enter :=
    (show (s.position.theta : Int) + distance - o + s.position.points.enter =
      distance - (o - s.position.points.enter - s.position.theta) by ring) ▸ multiple
  obtain ⟨lt, reached⟩ := cabin_of_pitches pos npos whole
  refine ⟨low, high, lt, ?_, fun sooner k one before _ reaches => ?_,
    Int.emod_eq_emod_iff_emod_sub_eq_zero.mpr (Int.emod_eq_zero_of_dvd multiple), rfl⟩
  · rw [← reached]
    congr 1
    ring
  · obtain ⟨c, hc⟩ := Int.dvd_of_emod_eq_zero reaches
    have other : (s.geometry.pitch : Int) ∣ distance - sooner := by
      have early : (s.geometry.pitch : Int) ∣ (s.position.theta : Int) + sooner - o + s.position.points.enter :=
        ⟨s.geometry.n * c + k, by linarith⟩
      have gap := whole.sub early
      exact (show (distance : Int) - sooner = (s.position.theta : Int) + distance - o + s.position.points.enter -
        ((s.position.theta : Int) + sooner - o + s.position.points.enter) by ring) ▸ gap
    have := Int.le_of_dvd (by omega) other
    omega

end Sys2Proof.Phases
end

section
/-! The order in which the cabins pass a platform, and the points a movement crosses (R10 to R12). -/

namespace Sys2Proof.Phases

open Machine StatusLoop SpeedPermit

/-! ## Signed values -/

/-- A value in (−P/2, P/2] congruent to `x` is the signed value of `x`. -/
theorem signedMod_unique {x y : Int} {p : Nat} (low : -(p : Int) < 2 * y) (high : 2 * y ≤ p) (same : (p : Int) ∣ x - y) :
    signedMod x p = y := by
  obtain ⟨low', high', same'⟩ := signedMod_range x p (by omega)
  have gap : (p : Int) ∣ signedMod x p - y := by
    have := (Int.dvd_of_emod_eq_zero same').add same
    rwa [sub_add_sub_cancel] at this
  have zero := Int.eq_zero_of_abs_lt_dvd gap (by rw [abs_lt]; omega)
  omega

/-! ## The pass order (R11, log 7) -/

/-- The number, before it is reduced, of the cabin farthest past a platform's berth. -/
def farthest (s : State) (theta : Nat) (pf : Platform) : Int :=
  (2 * ((theta : Int) - berthOffset s.position.points.beta pf) - s.geometry.p + 2 * s.geometry.pitch - 1) /
    (2 * s.geometry.pitch : Int)

/-- The cabin in place `i` of the pass order. -/
def passing (s : State) (theta : Nat) (pf : Platform) (i : Nat) : Nat :=
  ((farthest s theta pf % (s.geometry.n : Int)).toNat + i) % s.geometry.n

theorem passOrder_eq (s : State) (theta : Nat) (pf : Platform) :
    s.passOrder theta pf = (List.range s.geometry.n).map (passing s theta pf) := rfl

/-- The farthest cabin's phase is the greatest that the signed range leaves. -/
theorem farthest_range (s : State) (theta : Nat) (pf : Platform) (pos : 0 < s.geometry.pitch) :
    let phase : Int :=
      (theta : Int) - berthOffset s.position.points.beta pf - s.geometry.pitch * farthest s theta pf
    2 * phase ≤ s.geometry.p ∧ (s.geometry.p : Int) < 2 * (phase + s.geometry.pitch) := by
  unfold farthest
  dsimp only
  generalize hx : 2 * ((theta : Int) - berthOffset s.position.points.beta pf) - s.geometry.p + 2 * s.geometry.pitch - 1 = x
  have split := Int.mul_ediv_add_emod x (2 * s.geometry.pitch)
  have low := Int.emod_nonneg x (b := (2 * s.geometry.pitch : Int)) (by omega)
  have high := Int.emod_lt_of_pos x (b := (2 * s.geometry.pitch : Int)) (by omega)
  rw [mul_assoc] at split
  omega

/-- The cabin in place `i` is `i` pitches behind the farthest one, modulo the wheel. -/
theorem passing_congr (s : State) (theta : Nat) (pf : Platform) (i : Nat) (pos : 0 < s.geometry.n) :
    (s.geometry.n : Int) ∣ farthest s theta pf + i - passing s theta pf i := by
  have low := Int.emod_nonneg (farthest s theta pf) (b := (s.geometry.n : Int)) (by omega)
  rw [passing, Int.natCast_mod, Int.natCast_add, Int.toNat_of_nonneg low, Int.emod_add_emod]
  exact Int.dvd_self_sub_of_emod_eq rfl

/-- Place by place the phases fall by a pitch. -/
theorem phaseAt_passing {s : State} (ok : s.geometry.ok = true) (theta : Nat) (pf : Platform) {i : Nat}
    (lt : i < s.geometry.n) :
    s.phaseAt theta pf (passing s theta pf i) =
      (theta : Int) - berthOffset s.position.points.beta pf - s.geometry.pitch * farthest s theta pf -
        s.geometry.pitch * i := by
  obtain ⟨pos, -⟩ := pitch_of_ok ok
  obtain ⟨low, high⟩ := farthest_range s theta pf pos
  obtain ⟨c, hc⟩ := passing_congr s theta pf i (by omega)
  have ticks := ticks_of_ok ok
  have span : (s.geometry.pitch : Int) * (i + 1) ≤ s.geometry.pitch * s.geometry.n :=
    mul_le_mul_of_nonneg_left (by omega) (by omega)
  have behind : (0 : Int) ≤ s.geometry.pitch * i := by positivity
  rw [mul_add, mul_one] at span
  refine signedMod_unique (by omega) (by omega) ⟨c, ?_⟩
  rw [ticks, mul_assoc, ← hc]
  ring

theorem passOrder_farthestFirst {s : State} (ok : s.geometry.ok = true) (theta : Nat) (pf : Platform) :
    (s.passOrder theta pf).Pairwise fun first next => s.phaseAt theta pf next < s.phaseAt theta pf first := by
  obtain ⟨pos, -⟩ := pitch_of_ok ok
  rw [passOrder_eq, List.pairwise_map]
  refine List.pairwise_lt_range.imp_of_mem fun {i j} memI memJ before => ?_
  rw [phaseAt_passing ok _ _ (List.mem_range.mp memI), phaseAt_passing ok _ _ (List.mem_range.mp memJ)]
  have : (s.geometry.pitch : Int) * i < s.geometry.pitch * j := mul_lt_mul_of_pos_left (by omega) (by omega)
  omega

/-- Cabins of falling phases are different cabins. -/
theorem nodup_of_farthestFirst {s : State} {theta : Nat} {pf : Platform} {cabins : List Nat}
    (h : cabins.Pairwise fun first next => s.phaseAt theta pf next < s.phaseAt theta pf first) : cabins.Nodup :=
  h.imp fun less same => absurd (same ▸ less) (lt_irrefl _)

theorem passOrder_nodup {s : State} (ok : s.geometry.ok = true) (theta : Nat) (pf : Platform) :
    (s.passOrder theta pf).Nodup := nodup_of_farthestFirst (passOrder_farthestFirst ok theta pf)

/-- Every cabin passes: the places are as many as the cabins, and no two have the same one. -/
theorem mem_passOrder {s : State} (ok : s.geometry.ok = true) (theta : Nat) (pf : Platform) (k : Nat) :
    k ∈ s.passOrder theta pf ↔ k < s.geometry.n := by
  obtain ⟨npos, -⟩ := WheelAndSave.geometry_pos ok
  have below : s.passOrder theta pf ⊆ List.range s.geometry.n := by
    intro k mem
    rw [passOrder_eq] at mem
    obtain ⟨i, -, rfl⟩ := List.mem_map.mp mem
    exact List.mem_range.mpr (Nat.mod_lt _ npos)
  have all : (s.passOrder theta pf).Perm (List.range s.geometry.n) :=
    ((passOrder_nodup ok theta pf).subperm below).perm_of_length_le (by rw [passOrder_eq, List.length_map])
  rw [all.mem_iff, List.mem_range]

/-! ## The points a movement crosses (R11) -/

/-- What the phase of a crossing's point does for it to be crossed. -/
def Crosses (x : Points) (before after : Int) : Crossing → Prop
  | .enter => before < -(x.enter : Int) ∧ -(x.enter : Int) ≤ after
  | .close => before < (x.close : Int) ∧ (x.close : Int) ≤ after
  | .exit => before ≤ (x.exit : Int) ∧ (x.exit : Int) < after

theorem mem_crossed (x : Points) (before after : Int) (c : Crossing) :
    c ∈ x.crossed before after ↔ Crosses x before after c := by
  cases c <;> simp [Points.crossed, Crosses]

/-- The crossings of a cabin come in the order ENTER, CLOSE, EXIT. -/
theorem crossed_eq_filter (x : Points) (before after : Int) :
    x.crossed before after = [Crossing.enter, .close, .exit].filter fun c => c ∈ x.crossed before after := by
  unfold Points.crossed
  split <;> split <;> split <;> rfl

theorem takesCrossings_iff (s : State) (pf : Platform) :
    s.takesCrossings pf = true ↔ s.position.points.roles.get pf ≠ .off ∧ s.position.verified = true := by
  rw [State.takesCrossings, Bool.and_eq_true, decide_eq_true_eq]

/-- The cabins whose crossings and retreats a platform takes, in their order. -/
def takenFrom (s : State) (theta : Nat) (pf : Platform) : List Nat :=
  if s.takesCrossings pf then s.passOrder theta pf else []

theorem mem_takenFrom {s : State} (ok : s.geometry.ok = true) (theta : Nat) (pf : Platform) (k : Nat) :
    k ∈ takenFrom s theta pf ↔
      k < s.geometry.n ∧ s.position.points.roles.get pf ≠ .off ∧ s.position.verified = true := by
  rw [takenFrom, ← takesCrossings_iff, ← mem_passOrder ok theta pf]
  split
  · next takes => simp [takes]
  · next takes => simp [takes]

theorem takenFrom_farthestFirst {s : State} (ok : s.geometry.ok = true) (theta : Nat) (pf : Platform) :
    (takenFrom s theta pf).Pairwise fun first next => s.phaseAt theta pf next < s.phaseAt theta pf first := by
  unfold takenFrom
  split
  · exact passOrder_farthestFirst ok theta pf
  · exact .nil

theorem forwardCrossings_eq (s : State) (before after : Nat) (pf : Platform) :
    s.forwardCrossings before after pf = (takenFrom s after pf).flatMap fun k =>
      ((s.position.points.crossed (s.phaseAt before pf k) (s.phaseAt after pf k)).filter
        fun c => !s.staysCrossed pf (k, c)).map fun c => (k, c) := by
  unfold State.forwardCrossings takenFrom
  split
  · rw [List.filter_flatMap]
    simp only [List.filter_map]
    rfl
  · rfl

theorem mem_forwardCrossings {s : State} (ok : s.geometry.ok = true) (before after : Nat) (pf : Platform) (k : Nat)
    (c : Crossing) :
    (k, c) ∈ s.forwardCrossings before after pf ↔
      (k < s.geometry.n ∧ s.position.points.roles.get pf ≠ .off ∧ s.position.verified = true) ∧
      Crosses s.position.points (s.phaseAt before pf k) (s.phaseAt after pf k) c ∧ s.staysCrossed pf (k, c) = false := by
  rw [forwardCrossings_eq, List.mem_flatMap, ← mem_takenFrom ok after pf k, ← mem_crossed]
  simp only [List.mem_map, List.mem_filter, Prod.mk.injEq, Bool.not_eq_true']
  constructor
  · rintro ⟨_, taken, _, ⟨crossed, fresh⟩, rfl, rfl⟩
    exact ⟨taken, crossed, fresh⟩
  · rintro ⟨taken, crossed, fresh⟩
    exact ⟨k, taken, c, ⟨crossed, fresh⟩, rfl, rfl⟩

/-- Cabin by cabin, the crossings are those of the three points that are handed over. -/
theorem forwardCrossings_byCabin {s : State} (ok : s.geometry.ok = true) (before after : Nat) (pf : Platform) :
    s.forwardCrossings before after pf = (takenFrom s after pf).flatMap fun k =>
      ([Crossing.enter, .close, .exit].filter fun c => (k, c) ∈ s.forwardCrossings before after pf).map
        fun c => (k, c) := by
  conv_lhs => rw [forwardCrossings_eq]
  refine List.flatMap_congr fun k taken => congrArg (List.map fun c => (k, c)) ?_
  rw [crossed_eq_filter, List.filter_filter]
  refine List.filter_congr fun c _ => ?_
  have handed := mem_forwardCrossings ok before after pf k c
  rw [← mem_takenFrom ok after pf k, ← mem_crossed] at handed
  rw [Bool.eq_iff_iff, Bool.and_eq_true, decide_eq_true_eq, decide_eq_true_eq, Bool.not_eq_true', handed]
  exact ⟨fun ⟨fresh, crossed⟩ => ⟨taken, crossed, fresh⟩, fun ⟨_, crossed, fresh⟩ => ⟨fresh, crossed⟩⟩

theorem retreats_eq (s : State) (before after : Nat) (pf : Platform) :
    s.retreats before after pf = (takenFrom s after pf).filter fun k =>
      -(s.position.points.enter : Int) ≤ s.phaseAt before pf k &&
      s.phaseAt after pf k < -(s.position.points.enter : Int) := by
  unfold State.retreats takenFrom
  split <;> rfl

theorem staysCrossed_iff (s : State) (pf : Platform) (k : Nat) (c : Crossing) :
    s.staysCrossed pf (k, c) = true ↔ s.crossedPoint pf k c ∈ s.position.stillCrossed := by
  rw [State.staysCrossed, List.contains_iff_mem]

/-- Settles O43: the pass order runs through the phases downwards, and a movement takes from it, cabin by cabin, the
points that the phase goes over and the points that it falls below. -/
theorem crossingsAreThoseOfThePhase : Obligations.CrossingsAreThoseOfThePhase := by
  unfold Obligations.CrossingsAreThoseOfThePhase
  intro s pf before after k ok
  obtain ⟨-, ppos⟩ := WheelAndSave.geometry_pos ok
  have offset : (if pf = .a then 0 else (s.position.points.beta : Int)) = berthOffset s.position.points.beta pf := by
    cases pf <;> rfl
  have handed (c : Crossing) := mem_forwardCrossings ok before after pf k c
  simp only [← Bool.not_eq_true, staysCrossed_iff] at handed
  have retreats := retreats_eq s before after pf
  have order := takenFrom_farthestFirst ok after pf
  have back : (s.retreats before after pf).Pairwise fun first next => s.phaseAt after pf next < s.phaseAt after pf first :=
    retreats ▸ order.filter _
  dsimp only
  rw [offset]
  refine ⟨fun y => ?_, ?_, handed .enter |>.trans ?_, handed .close |>.trans ?_, handed .exit |>.trans ?_,
    ⟨takenFrom s after pf, order, nodup_of_farthestFirst order, forwardCrossings_byCabin ok before after pf⟩, ?_, back,
    nodup_of_farthestFirst back⟩
  · obtain ⟨low, high, same⟩ := signedMod_range y s.geometry.p ppos
    exact ⟨same, low, high⟩
  · obtain ⟨low, high, same⟩ := signedMod_range
      ((before : Int) - k * s.geometry.pitch - berthOffset s.position.points.beta pf) s.geometry.p ppos
    refine ⟨low, high, Int.emod_eq_zero_of_dvd ?_⟩
    rw [← Int.neg_sub]
    exact (Int.dvd_of_emod_eq_zero same).neg_right
  · simp only [Crosses, and_assoc]
    rfl
  · simp only [Crosses, and_assoc]
    rfl
  · simp only [Crosses, and_assoc]
    rfl
  · rw [retreats, List.mem_filter, mem_takenFrom ok, Bool.and_eq_true, decide_eq_true_eq, decide_eq_true_eq]

end Sys2Proof.Phases
end

section
/-! Table 11-1: the codes of the items, the ranges they are clamped into and the tests of a written value (R14, R131, R139,
R140, R158). -/

namespace Sys2Proof.ConfigItems

open Machine CabinTable StatusLoop HoldGrades

/-! ## The item codes -/

/-- Beyond the codes listed one by one, the thresholds' and the hold settings' codes are taken apart. -/
theorem ofCode_cases {code : Nat} {i : Item} (h : Item.ofCode code = some i) :
    (1 ≤ code ∧ code ≤ 9 ∨ 16 ≤ code ∧ code ≤ 20 ∨ 32 ≤ code ∧ code ≤ 36 ∨ 48 ≤ code ∧ code ≤ 51 ∨
      1024 ≤ code ∧ code ≤ 1031) ∨
    (code < 512 ∧ thresholdOfCode code = some i) ∨ holdItemOfCode code = some i := by
  unfold Item.ofCode at h
  split at h
  rotate_right
  · split at h
    · next low => exact .inr (.inl ⟨low, h⟩)
    · exact .inr (.inr h)
  all_goals exact .inl (by omega)

theorem ofCode_threshold {code : Nat} (low : 256 ≤ code) (high : code < 512) : Item.ofCode code = thresholdOfCode code := by
  unfold Item.ofCode
  split
  rotate_right
  · exact if_pos high
  all_goals omega

theorem ofCode_holdItem {code : Nat} (low : 512 ≤ code) (high : code < 1024) :
    Item.ofCode code = holdItemOfCode code := by
  unfold Item.ofCode
  split
  rotate_right
  · exact if_neg (by omega)
  all_goals omega

/-- The columns in the order of their codes. -/
def columnAt : Nat → Column
  | 0 => .ug
  | 1 => .um
  | 2 => .dg
  | _ => .dm

theorem ofCode_column {j c : Nat} (hj : j ≤ 3) (low : 1 ≤ c) (high : c ≤ 4) :
    Item.ofCode (256 + 16 * j + c) = some (.threshold (columnAt j) c) := by
  have classed : (256 + 16 * j + c - 256) % 16 = c := by omega
  have column : (256 + 16 * j + c - 256) / 16 = j := by omega
  rw [ofCode_threshold (by omega) (by omega), thresholdOfCode, classed, column, if_neg (by omega)]
  interval_cases j <;> rfl

theorem ofCode_quiet {c : Nat} (low : 1 ≤ c) (high : c ≤ 4) : Item.ofCode (320 + c) = some (.quiet c) := by
  have classed : (320 + c - 256) % 16 = c := by omega
  have column : (320 + c - 256) / 16 = 4 := by omega
  rw [ofCode_threshold (by omega) (by omega), thresholdOfCode, classed, column, if_neg (by omega)]
  rfl

/-- What a threshold's code names: neither an item of the geometry nor one that CONFIG LOCK leaves free. -/
theorem thresholdOfCode_some {code : Nat} {i : Item} (h : thresholdOfCode code = some i) :
    256 ≤ code ∧ i.isGeometry = false ∧ i.lockable = true := by
  unfold thresholdOfCode at h
  dsimp only at h
  split_ifs at h with out
  all_goals
    cases h
    exact ⟨by omega, rfl, rfl⟩

theorem holdItemOfCode_some {code : Nat} {i : Item} (h : holdItemOfCode code = some i) :
    512 ≤ code ∧ code < 1024 ∧ i.isGeometry = false ∧ i.lockable = true := by
  unfold holdItemOfCode at h
  split at h
  · next range =>
    split at h
    · split at h
      · cases h
        exact ⟨range.1, by omega, rfl, rfl⟩
      · cases h
    · cases h
  · split at h
    · next range =>
      split at h
      · split at h
        · cases h
          exact ⟨by omega, range.2, rfl, rfl⟩
        · cases h
      · cases h
    · cases h

/-- Between the columns and beyond the four classes there are no thresholds. -/
theorem thresholdOfCode_none {k : Nat} (h : ∀ j c : Nat, j ≤ 4 → 1 ≤ c → c ≤ 4 → k ≠ 16 * j + c) :
    thresholdOfCode (256 + k) = none := by
  have apart : 16 * (k / 16) + k % 16 = k := by omega
  have outside : k % 16 < 1 ∨ 4 < k % 16 ∨ 4 < k / 16 := by
    by_contra inside
    exact h (k / 16) (k % 16) (by omega) (by omega) (by omega) apart.symm
  unfold thresholdOfCode
  dsimp only
  rw [Nat.add_sub_cancel_left]
  split_ifs <;> first | rfl | omega

theorem source_of_number {k : Nat} {src : Source} (h : Source.ofNumber k = some src) : src.number = k := by
  obtain ⟨lt, is⟩ := List.getElem?_eq_some_iff.mp h
  have lt' : k < 18 := by simpa [Source.all] using lt
  subst is
  interval_cases k <;> rfl

theorem programmedRange_number {src : Source} (h : src.programmedRange.isSome = true) :
    src.number ∈ [4, 5, 6, 9, 12, 15, 16] := by
  cases src with
  | windSensor | platformStopA | platformStopB | loopFault | disagree | planEnd | berthMiss => decide
  | _ => cases h

theorem autoCapable_number {src : Source} (h : src.autoCapable = true) : src.number ∈ [3, 4, 10, 15] := by
  cases src with
  | wind | windSensor | position | planEnd => decide
  | _ => cases h

theorem programmedOfCode_none {k : Nat} (small : k < 256) (h : k ∉ [4, 5, 6, 9, 12, 15, 16]) :
    holdItemOfCode (512 + k) = none := by
  rw [holdItemOfCode, if_pos (by omega), Nat.add_sub_cancel_left]
  split
  · next src named =>
    refine if_neg fun ranged => h ?_
    rw [← source_of_number named]
    exact programmedRange_number ranged
  · rfl

theorem autoOfCode_none {k : Nat} (small : k < 256) (h : k ∉ [3, 4, 10, 15]) : holdItemOfCode (768 + k) = none := by
  rw [holdItemOfCode, if_neg (by omega), if_pos (by omega), Nat.add_sub_cancel_left]
  split
  · next src named =>
    refine if_neg fun capable => h ?_
    rw [← source_of_number named]
    exact autoCapable_number capable
  · rfl

/-! ## The tests of a written value -/

theorem programmedRange_ordered {src : Source} {lo hi : Grade} (range : src.programmedRange = some (lo, hi)) :
    lo.value ≤ hi.value := by
  cases src with
  | windSensor | platformStopA | platformStopB | loopFault | disagree | planEnd | berthMiss =>
    cases range
    decide
  | _ => cases range

/-- R139: a programmed grade is a grade's value, brought into the source's range. -/
theorem judge_programmed (x : Settings) {src : Source} {lo hi : Grade} (range : src.programmedRange = some (lo, hi))
    (value : Nat) :
    x.judge (.programmed src) value = if value ≤ 5 then some (max lo.value (min hi.value value)) else none := by
  have order := programmedRange_ordered range
  simp only [Settings.judge, range]
  by_cases legal : value ≤ 5
  · obtain ⟨g, rfl⟩ : ∃ g : Grade, g.value = value := by
      interval_cases value
      exacts [⟨.none, rfl⟩, ⟨.limit, rfl⟩, ⟨.unload, rfl⟩, ⟨.park, rfl⟩, ⟨.stop, rfl⟩, ⟨.brake, rfl⟩]
    rw [grade_ofValue_value, if_pos legal]
    refine congrArg some ?_
    unfold Grade.clamp
    split
    · omega
    · split <;> omega
  · rw [grade_ofValue_of_lt (by omega), if_neg legal]

/-- R14, rule by rule. -/
theorem ok_iff (g : Geometry) : g.ok = true ↔
    (8 ≤ g.n ∧ g.n ≤ 64) ∧ (7200 ≤ g.p ∧ g.p ≤ 64800 ∧ g.n ∣ g.p) ∧ (1 ≤ g.enter ∧ g.close < g.exit) ∧
    g.enter + g.exit < g.p / g.n ∧ g.beta < g.p ∧
    (g.roles.a ≠ .off → g.roles.b ≠ .off →
      g.enter + g.exit ≤ g.beta % (g.p / g.n) ∧ g.enter + g.exit ≤ g.p / g.n - g.beta % (g.p / g.n)) ∧
    g.roles.get g.park ≠ .off := by
  simp only [Geometry.ok, Bool.and_eq_true, Bool.or_eq_true, decide_eq_true_eq]
  simp only [Geometry.pitch, Nat.dvd_iff_mod_eq_zero, and_assoc, or_assoc, ne_eq, ← or_iff_not_imp_left]

/-- R131, class by class. -/
theorem legal_iff (t : ClassTable) : t.legal = true ↔
    (∀ d, 1 ≤ d → d ≤ 4 → (t.get d).dg < (t.get d).ug ∧ (t.get d).dm < (t.get d).um) ∧
    (∀ d, 1 ≤ d → d ≤ 3 →
      (t.get d).ug ≤ (t.get (d + 1)).ug ∧ (t.get d).um ≤ (t.get (d + 1)).um ∧
      (t.get d).dg ≤ (t.get (d + 1)).dg ∧ (t.get d).dm ≤ (t.get (d + 1)).dm) := by
  simp only [ClassTable.legal, ClassRow.legal, ClassRow.below, Bool.and_eq_true, decide_eq_true_eq]
  constructor
  · rintro ⟨⟨⟨⟨⟨⟨l1, l2⟩, l3⟩, l4⟩, b1⟩, b2⟩, b3⟩
    refine ⟨fun d low high => ?_, fun d low high => ?_⟩
    · interval_cases d
      exacts [l1, l2, l3, l4]
    · interval_cases d
      exacts [and_assoc.mp (and_assoc.mp b1), and_assoc.mp (and_assoc.mp b2), and_assoc.mp (and_assoc.mp b3)]
  · rintro ⟨legal, below⟩
    have below' (d : Nat) (low : 1 ≤ d) (high : d ≤ 3) := and_assoc.mpr (and_assoc.mpr (below d low high))
    exact ⟨⟨⟨⟨⟨⟨legal 1 (by decide) (by decide), legal 2 (by decide) (by decide)⟩, legal 3 (by decide) (by decide)⟩,
      legal 4 (by decide) (by decide)⟩, below' 1 (by decide) (by decide)⟩, below' 2 (by decide) (by decide)⟩,
      below' 3 (by decide) (by decide)⟩

/-- A geometry item is judged by the geometry its write would leave. -/
theorem judge_geometry (x : Settings) {i : Item} (geometry : i.isGeometry = true) (value : Nat) :
    x.judge i value = match x.geometry.withItem i value with
      | some g => if g.ok then some value else none
      | none => none := by
  cases i with
  | n | p | enter | close | exit | beta | park | role => rfl
  | _ => cases geometry

/-- The value of a geometry item after a write is the value written exactly where that is a code of the item. -/
theorem withItem_isSome (g : Geometry) {i : Item} (geometry : i.isGeometry = true) (value : Nat)
    (same : ((g.withItem i value).getD g).read i = value) : ∃ g', g.withItem i value = some g' := by
  rcases named : g.withItem i value with _ | g'
  · rw [named] at same
    have back := withItem_read g geometry
    rw [show g.read i = value from same, named] at back
    cases back
  · exact ⟨g', rfl⟩

/-- A clamped item is one whose judgement is the clamp. -/
theorem clamped {x : Settings} {code value lo hi : Nat} {i : Item} (named : Item.ofCode code = some i)
    (order : lo ≤ hi) (judged : x.judge i value = some (clamp lo hi value)) :
    ∃ i, Item.ofCode code = some i ∧ x.judge i value = some (max lo (min hi value)) :=
  ⟨i, named, judged.trans (congrArg some (clamp_eq_max_min order value))⟩

theorem withColumn_at (r : ClassRow) {j : Nat} (h : j ≤ 3) (v : Nat) :
    r.withColumn (columnAt j) v = if j = 0 then { r with ug := v } else if j = 1 then { r with um := v }
      else if j = 2 then { r with dg := v } else { r with dm := v } := by
  interval_cases j <;> rfl

theorem judge_threshold (x : Settings) (col : Column) (c value : Nat) : x.judge (.threshold col c) value =
    if 1 ≤ value ∧ value ≤ 600 ∧ (x.write (.threshold col c) value).classes.legal then some value else none := rfl

/-- Settles O34: the codes by the table's rows, the ranges by the two bounds of a clamp, and the refusals by the rules of
R14, R131, R139 and R140. -/
theorem configItemsKeepTheirRanges : Obligations.ConfigItemsKeepTheirRanges := by
  unfold Obligations.ConfigItemsKeepTheirRanges
  refine ⟨fun x => ?reads, fun x value => ?clamps, fun x code value i named geometry => ?geometry, fun x value => ?tests,
    fun code i named => ?kinds, fun k small => ?others⟩
  case reads =>
    have park : (if x.geometry.park = .a then 0 else 1) = Platform.code x.geometry.park := by
      cases x.geometry.park <;> rfl
    have role (pf : Platform) : x.read (.role pf) = match x.geometry.roles.get pf with
        | .boardAlight => 0
        | .boardOnly => 1
        | .alightOnly => 2
        | .off => 3 := by
      rw [show x.read (.role pf) = (x.geometry.roles.get pf).code from rfl]
      cases x.geometry.roles.get pf <;> rfl
    dsimp only
    refine ⟨⟨?_, ?_, ?_, ?_, ?_, ?_, ?_, ?_, ?_⟩, ?_, ?_, ?_, ?_, ?_⟩
    case refine_7 => exact park ▸ ⟨_, rfl, rfl⟩
    case refine_8 => exact ⟨_, rfl, role .a⟩
    case refine_9 => exact ⟨_, rfl, role .b⟩
    all_goals
      and_intros <;> exact ⟨_, rfl, rfl⟩
  case clamps =>
    have row {code lo hi : Nat} {i : Item} (named : Item.ofCode code = some i) (order : lo ≤ hi)
        (judged : x.judge i value = some (clamp lo hi value)) := clamped named order judged
    refine ⟨row rfl ?_ rfl, row rfl ?_ rfl, row rfl ?_ rfl, row rfl ?_ rfl, row rfl ?_ rfl, row rfl ?_ rfl,
      row rfl ?_ rfl, row rfl ?_ rfl, row rfl ?_ rfl, row rfl ?_ rfl, row rfl ?_ rfl, row rfl ?_ rfl, row rfl ?_ rfl,
      row rfl ?_ rfl, fun c low high => row (ofCode_quiet low high) (by decide) rfl, row rfl ?_ rfl, row rfl ?_ rfl,
      row rfl ?_ rfl, fun pos k low high => ?_⟩
    case refine_18 => interval_cases k <;> exact row rfl pos rfl
    all_goals decide
  case geometry =>
    have judged := judge_geometry x geometry value
    obtain ⟨-, write⟩ := settings_geometry x value geometry
    obtain ⟨read, -⟩ := settings_geometry (x.write i value) value geometry
    dsimp only
    rw [read, write]
    simp only [← ok_iff]
    refine ⟨fun y accepted => ?_, fun refused => ?_⟩
    · rw [judged] at accepted
      rcases named : x.geometry.withItem i value with _ | g
      · simp [named] at accepted
      · rw [named] at accepted
        obtain ⟨ok, same⟩ := Option.ite_none_right_eq_some.mp accepted
        cases same
        exact ⟨rfl, ok, withItem_read_same named⟩
    · refine or_iff_not_imp_right.mpr fun same legal => ?_
      obtain ⟨g, named⟩ := withItem_isSome x.geometry geometry value (not_not.mp same)
      simp only [named, Option.getD_some] at judged legal
      rw [judged, if_pos legal] at refused
      cases refused
  case tests =>
    have grade {source : Nat} (src : Source) (lo hi : Grade) (named : Item.ofCode (512 + source) = some (.programmed src))
        (range : src.programmedRange = some (lo, hi)) :
        ∃ i, Item.ofCode (512 + source) = some i ∧
          x.judge i value = if value ≤ 5 then some (max lo.value (min hi.value value)) else none :=
      ⟨_, named, judge_programmed x range value⟩
    refine ⟨grade .windSensor .unload .stop rfl rfl, grade .platformStopA .stop .brake rfl rfl,
      grade .platformStopB .stop .brake rfl rfl, grade .loopFault .stop .brake rfl rfl,
      grade .disagree .park .stop rfl rfl, grade .planEnd .none .park rfl rfl, grade .berthMiss .none .park rfl rfl,
      fun source mem => ?_,
      fun j c hj low high => ⟨_, ofCode_column hj low high, ?_⟩⟩
    · simp only [List.mem_cons, List.not_mem_nil, or_false] at mem
      rcases mem with rfl | rfl | rfl | rfl <;> exact ⟨_, rfl, rfl⟩
    · dsimp only
      rw [← withColumn_at _ hj, judge_threshold, ← legal_iff, and_assoc]
      refine ⟨?_, classes_get_set_same _ _ _, fun d low' high' other => classes_get_set_other _ _ ⟨low, high⟩ ⟨low', high'⟩ other,
        fun lawful => if_pos lawful, fun refused => if_neg refused⟩
      simp only [Settings.write, Settings.read, classes_get_set_same, column_withColumn_same]
  case kinds =>
    rcases ofCode_cases named with listed | ⟨low, threshold⟩ | hold
    · rcases listed with range | range | range | range | range <;> obtain ⟨low, high⟩ := range <;>
        interval_cases code <;> (cases named; decide)
    · obtain ⟨high, geometry, lockable⟩ := thresholdOfCode_some threshold
      simp only [geometry, lockable, Bool.false_eq_true, true_iff, false_iff]
      omega
    · obtain ⟨low, high, geometry, lockable⟩ := holdItemOfCode_some hold
      simp only [geometry, lockable, Bool.false_eq_true, true_iff, false_iff]
      omega
  case others =>
    refine ⟨fun out => ?_, fun out => ?_, fun out => ?_⟩
    · rw [ofCode_holdItem (by omega) (by omega)]
      exact programmedOfCode_none small out
    · rw [ofCode_holdItem (by omega) (by omega)]
      exact autoOfCode_none small out
    · rw [ofCode_threshold (by omega) (by omega)]
      exact thresholdOfCode_none out

end Sys2Proof.ConfigItems
end

section
/-! The drive exchange: DRIVE REPORT with its three conditions and the expiry of the silence timer (R155 to R157, R9,
R161). -/

namespace Sys2Proof.DriveExchange

open Machine CabinTable StatusLoop WheelTicks

/-! ## A hold that does not fall -/

/-- Latches that do not fall leave a held grade that does not. -/
theorem heldGrade_mono {t u : HoldTable} (h : ∀ src, (t.get src).latched.value ≤ (u.get src).latched.value) :
    t.heldGrade.value ≤ u.heldGrade.value := by
  obtain ⟨src, latched⟩ := HoldGrades.exists_latched_heldGrade t
  rw [← latched]
  exact (h src).trans (latched_le_heldGrade u src)

/-- A condition of a source that keeps its peak does not lower the held grade (R137). -/
theorem setCondition_rises {s : State} (h : HoldsDerived s) {src : Source} (keeps : s.settings.auto.get src = false)
    (g : Grade) : s.holds.held.value ≤ (s.setCondition src g).holds.held.value := by
  obtain ⟨record, held⟩ := setCondition_record h src g keeps
  rw [h.2, held]
  refine heldGrade_mono fun other => ?_
  by_cases same : other = src
  · subst same
    rw [record, (h.1 other).2, keeps]
    simp only [latchOf, latchedAt, Bool.false_eq_true, if_false, Grade.value_max]
    exact max_le_max_right _ (le_max_left _ _)
  · rw [setCondition_other s g same]

/-- A reaction to changes of `srcs` in which the held grade does not fall and nothing is assigned. -/
structure Tightened (srcs : List Source) (s t : State) : Prop where
  followed : Followed s t
  others : ∀ src : Source, src ∉ srcs → t.holds.table.get src = s.holds.table.get src
  rises : s.holds.held.value ≤ t.holds.held.value
  idle : Idle s t
  still : t.holds.held = s.holds.held → t.unload = s.unload ∧ t.permit.park = s.permit.park

/-- A condition at NONE or at UNLOAD and above, of a source that keeps its peak. -/
theorem tightened_setCondition {s : State} (h : HoldsDerived s) {src : Source}
    (keeps : s.settings.auto.get src = false) {g : Grade} (ends : g = .none ∨ Grade.unload.value ≤ g.value) :
    Tightened [src] s (s.setCondition src g) := by
  obtain ⟨-, others, -, still⟩ := holdFrame_setCondition s src g
  refine ⟨followed_setCondition s src g, others, setCondition_rises h keeps g, idle_setCondition h keeps ends,
    fun same => ?_⟩
  obtain ⟨unload, park, -⟩ := still same
  exact ⟨unload, park⟩

theorem Tightened.trans {as bs : List Source} {s t u : State} (h : Tightened as s t) (k : Tightened bs t u) :
    Tightened (as ++ bs) s u := by
  refine ⟨h.followed.trans k.followed, fun src out => ?_, h.rises.trans k.rises, h.idle.trans k.idle, fun same => ?_⟩
  · rw [List.mem_append, not_or] at out
    exact (k.others src out.2).trans (h.others src out.1)
  · have middle : t.holds.held = s.holds.held :=
      Grade.value_injective (le_antisymm (by rw [← same]; exact k.rises) h.rises)
    obtain ⟨unload, park⟩ := h.still middle
    obtain ⟨unload', park'⟩ := k.still (same.trans middle.symm)
    exact ⟨unload'.trans unload, park'.trans park⟩

/-- A tightening with the figures formed is a hold frame. -/
theorem Tightened.holdFrame {srcs : List Source} {s t : State} (h : Tightened srcs s t) : HoldFrame s t.refresh srcs := by
  have visits : t.refresh.sequencers = s.sequencers ∧ t.refresh.queues = s.queues := ⟨h.idle.sequencers, h.idle.queues⟩
  refine ⟨reacted_of_followed h.followed, h.others, fun _ => visits, fun same => ?_⟩
  obtain ⟨unload, park⟩ := h.still same
  exact ⟨unload, park, visits⟩

/-- After a tightening a condition of any grade still has the frame: below UNLOAD nothing has moved before it. -/
theorem Tightened.holdFrame_setCondition {srcs : List Source} {s t : State} (h : Tightened srcs s t)
    (derived : HoldsDerived t) {src : Source} (keeps : t.settings.auto.get src = false) (g : Grade) :
    HoldFrame s (t.setCondition src g).refresh (srcs ++ [src]) := by
  obtain ⟨-, others, above, still⟩ := Sys2Proof.holdFrame_setCondition t src g
  have rises := setCondition_rises derived keeps g
  refine ⟨reacted_of_followed (h.followed.trans (followed_setCondition t src g)), fun other out => ?_, fun high => ?_,
    fun same => ?_⟩
  · rw [List.mem_append, not_or] at out
    exact (others other out.2).trans (h.others other out.1)
  · obtain ⟨sequencers, queues⟩ := above high
    exact ⟨sequencers.trans h.idle.sequencers, queues.trans h.idle.queues⟩
  · have same' : (t.setCondition src g).holds.held = s.holds.held := same
    have middle : t.holds.held = s.holds.held :=
      Grade.value_injective (le_antisymm (by rw [← same']; exact rises) h.rises)
    obtain ⟨unload, park⟩ := h.still middle
    obtain ⟨unload', park', sequencers, queues⟩ := still (same'.trans middle.symm)
    exact ⟨unload'.trans unload, park'.trans park, sequencers.trans h.idle.sequencers, queues.trans h.idle.queues⟩

/-! ## What a tightening does not hang on -/

theorem followed_setPosition {s t : State} (h : Followed s t) (x : Position) :
    Followed { s with position := x } { t with position := x } := by
  obtain ⟨r, parties, fall⟩ := h
  have p := parties_congr (s := s) (s' := { s with position := x }) (t := t) (t' := { t with position := x })
    ⟨rfl, rfl, rfl, rfl, rfl⟩ rfl rfl rfl rfl
  obtain ⟨xs, recorded⟩ := r.events
  have recorded' : Recorded { s with position := x } { t with position := x } xs := recorded_congr recorded rfl
  exact ⟨⟨r.phase, rfl, r.cabins, r.loop, r.output, r.plans, r.wind, r.stops, r.ports, r.store, r.clock,
    r.brakeDemand, r.pending, r.unload, r.permit, r.visits, xs, recorded'⟩, parties.imp p.1 p.2,
    fun above below => p.2 (fall above below)⟩

theorem Tightened.setPosition {srcs : List Source} {s t : State} (h : Tightened srcs s t) (x : Position) :
    Tightened srcs { s with position := x } { t with position := x } :=
  ⟨followed_setPosition h.followed x, h.others, h.rises, ⟨h.idle.cabins, h.idle.sequencers, h.idle.queues, h.idle.output⟩,
    h.still⟩

/-- The state with the drive fault written, its condition still to follow (R157). -/
def faultWritten (s : State) (fault : Bool) : State := { s with permit := { s.permit with driveFault := fault } }

theorem followed_faultWritten {s t : State} (h : Followed s t) (fault : Bool) :
    Followed (faultWritten s fault) (faultWritten t fault) := by
  obtain ⟨r, parties, fall⟩ := h
  have p := parties_congr (s := s) (s' := faultWritten s fault) (t := t) (t' := faultWritten t fault)
    ⟨rfl, rfl, rfl, rfl, rfl⟩ rfl rfl rfl rfl
  obtain ⟨xs, recorded⟩ := r.events
  have recorded' : Recorded (faultWritten s fault) (faultWritten t fault) xs := recorded_congr recorded rfl
  have permit : (faultWritten t fault).permit =
      { (faultWritten s fault).permit with park := (faultWritten t fault).permit.park } :=
    congrArg (fun x : Permit => { x with driveFault := fault }) r.permit
  exact ⟨⟨r.phase, r.position, r.cabins, r.loop, r.output, r.plans, r.wind, r.stops, r.ports, r.store, r.clock,
    r.brakeDemand, r.pending, r.unload, permit, r.visits, xs, recorded'⟩, parties.imp p.1 p.2,
    fun above below => p.2 (fall above below)⟩

theorem Tightened.faultWritten {srcs : List Source} {s t : State} (h : Tightened srcs s t) (fault : Bool) :
    Tightened srcs (faultWritten s fault) (faultWritten t fault) :=
  ⟨followed_faultWritten h.followed fault, h.others, h.rises,
    ⟨h.idle.cabins, h.idle.sequencers, h.idle.queues, h.idle.output⟩, h.still⟩

/-! ## The expiry of the silence timer (R156) -/

/-- The timer expired, DRIVE_SILENT's condition still to follow. -/
def silent (s : State) : State := { s with permit := { s.permit with silenceTimer := none, driveSilent := true } }

theorem driveSilence_eq {s : State} (runs : s.permit.silenceTimer ≠ none) :
    s.driveSilence = ((silent s).setCondition .driveSilent .brake).refresh :=
  if_pos (Option.isSome_iff_ne_none.mpr runs)

theorem driveSilence_expired {s : State} (expired : s.permit.silenceTimer = none) : s.driveSilence = s := by
  refine if_neg ?_
  rw [expired]
  exact Bool.false_ne_true

/-- A source latched at BRAKE demands the brake and leaves no speed (R148, R159). -/
theorem braked {s : State} (running : s.phase = .running) (h : HoldsDerived s) {src : Source}
    (latched : (s.holds.table.get src).latched = .brake) :
    s.refresh.holds.held = .brake ∧ s.refresh.brakeDemand = true ∧ s.refresh.permit.ceiling = 0 := by
  have held := held_brake h src latched
  refine ⟨held, ?_, ceilingNow_of_stopped (by rw [held]; decide)⟩
  rw [State.refresh_brakeDemand, State.brakeWanted, running, held]
  rfl

end Sys2Proof.DriveExchange
end

section
/-! DRIVE REPORT (R155 to R157, R9): the record, the cross-check and the reply. -/

namespace Sys2Proof.DriveExchange

open Machine CabinTable StatusLoop WheelTicks

/-! ## The record and the drive fault -/

/-- A report's record taken, the silence timer and the drive fault with it; no condition has changed yet. -/
def reportTaken (s : State) (d : DriveRecord) : State :=
  rewound { s with permit := { s.permit with drive := d, sinceReport := 0 } }

/-- After the conditions of DRIVE_SILENT and DRIVE_FAULT, ahead of the cross-check. -/
def faultJudged (s : State) (d : DriveRecord) : State := (s.takeDriveRecord d).formDriveFault (d.state = some .fault)

theorem takeDriveRecord_eq (s : State) (d : DriveRecord) :
    s.takeDriveRecord d = (reportTaken s d).setCondition .driveSilent .none := rfl

theorem faultJudged_eq (s : State) (d : DriveRecord) :
    faultJudged s d = (faultWritten (s.takeDriveRecord d) (d.state = some .fault)).setCondition .driveFault
      (if d.state = some .fault then .stop else .none) := by
  simp only [faultJudged, State.formDriveFault, decide_eq_true_eq]
  rfl

theorem reportTaken_derived {s : State} (h : HoldsDerived s) (d : DriveRecord) : HoldsDerived (reportTaken s d) :=
  holdsDerived_congr h rfl rfl

theorem takeDriveRecord_derived {s : State} (h : HoldsDerived s) (d : DriveRecord) : HoldsDerived (s.takeDriveRecord d) := by
  rw [takeDriveRecord_eq]
  exact holdsDerived_setCondition (reportTaken_derived h d) _ _

theorem faultWritten_derived {s : State} (h : HoldsDerived s) (fault : Bool) : HoldsDerived (faultWritten s fault) :=
  holdsDerived_congr h rfl rfl

theorem faultJudged_derived {s : State} (h : HoldsDerived s) (d : DriveRecord) : HoldsDerived (faultJudged s d) := by
  rw [faultJudged_eq]
  exact holdsDerived_setCondition (faultWritten_derived (takeDriveRecord_derived h d) _) _ _

theorem faultJudged_tightened {s : State} (h : HoldsDerived s) (d : DriveRecord) :
    Tightened [.driveSilent, .driveFault] (faultWritten (reportTaken s d) (d.state = some .fault)) (faultJudged s d) := by
  have silent : Tightened [.driveSilent] (reportTaken s d) (s.takeDriveRecord d) := by
    rw [takeDriveRecord_eq]
    exact tightened_setCondition (reportTaken_derived h d) rfl (.inl rfl)
  have fault : Tightened [.driveFault] (faultWritten (s.takeDriveRecord d) (d.state = some .fault)) (faultJudged s d) := by
    rw [faultJudged_eq]
    refine tightened_setCondition (faultWritten_derived (takeDriveRecord_derived h d) _) rfl ?_
    split
    · exact .inr (by decide)
    · exact .inl rfl
  exact (silent.faultWritten _).trans fault

/-- The two conditions leave their records at their grades (R156, R157). -/
theorem faultJudged_records {s : State} (h : HoldsDerived s) (d : DriveRecord) :
    (faultJudged s d).holds.table.get .driveSilent = latchedAt (s.holds.table.get .driveSilent) .none ∧
    (faultJudged s d).holds.table.get .driveFault =
      latchedAt (s.holds.table.get .driveFault) (if d.state = some .fault then .stop else .none) := by
  rw [faultJudged_eq]
  obtain ⟨silent, -⟩ := setCondition_record (reportTaken_derived h d) .driveSilent .none rfl
  obtain ⟨fault, -⟩ := setCondition_record (faultWritten_derived (takeDriveRecord_derived h d) (d.state = some .fault))
    .driveFault (if d.state = some .fault then .stop else .none) rfl
  have before : (s.takeDriveRecord d).holds.table.get .driveFault = s.holds.table.get .driveFault :=
    setCondition_other (reportTaken s d) .none nofun
  refine ⟨(setCondition_other _ _ (by decide)).trans silent, fault.trans ?_⟩
  rw [← before]
  rfl

/-! ## The cross-check (R9) -/

/-- The position after the cross-check of a reported position, where one was reported. -/
def checkedPosition (s : State) (reported : Option Nat) : Position :=
  match reported with
  | none => s.position
  | some p =>
    if s.position.verified then
      s.position.crossChecked
        (s.settings.disagreementTolerance < (signedMod ((p : Int) - s.position.theta) s.geometry.p).natAbs)
    else s.position

theorem checkedPosition_congr {s t : State} (position : t.position = s.position) (store : t.store = s.store)
    (reported : Option Nat) : checkedPosition t reported = checkedPosition s reported := by
  have settings : t.settings = s.settings := congrArg Store.working store
  have geometry : t.geometry = s.geometry := congrArg Settings.geometry settings
  unfold checkedPosition
  rw [position, settings, geometry]

theorem checkedPosition_of_unchecked {s : State} {reported : Option Nat}
    (h : reported = none ∨ s.position.verified = false) : checkedPosition s reported = s.position := by
  rcases h with rfl | unverified
  · rfl
  · unfold checkedPosition
    split
    · rfl
    · rw [unverified, if_neg Bool.false_ne_true]

theorem checkedPosition_of_checked {s : State} (verified : s.position.verified = true) (p : Nat) :
    checkedPosition s (some p) = s.position.crossChecked
      (s.settings.disagreementTolerance < (signedMod ((p : Int) - s.position.theta) s.geometry.p).natAbs) :=
  if_pos verified

/-- Where DISAGREE's condition is the owner's, the cross-check is one forming of it at the position checked. -/
theorem crossCheck_eq {s : State}
    (owned : (s.holds.table.get .disagree).cond = if s.position.disagree then s.programmed .disagree else .none) :
    let x := checkedPosition s s.permit.drive.position
    s.crossCheck =
      State.setCondition { s with position := x } .disagree (if x.disagree then s.programmed .disagree else .none) := by
  have stands : State.setCondition { s with position := s.position } .disagree
      (if s.position.disagree then s.programmed .disagree else .none) = s := if_pos owned
  dsimp only
  unfold State.crossCheck
  rcases s.permit.drive.position with _ | p
  · rw [checkedPosition_of_unchecked (.inl rfl)]
    exact stands.symm
  · rcases verified : s.position.verified with _ | _
    · rw [checkedPosition_of_unchecked (.inr verified)]
      exact stands.symm
    · rw [checkedPosition_of_checked verified]
      rfl

/-- A report is the two conditions of the drive, then DISAGREE's at the position checked. -/
theorem driveReport_eq {s : State} (h : HoldsDerived s) (owned : ConditionsOwned s) (d : DriveRecord) :
    let x := checkedPosition s d.position
    s.driveReport d = (State.setCondition { faultJudged s d with position := x } .disagree
      (if x.disagree then s.settings.programmed.disagree else .none)).refresh := by
  have tight := faultJudged_tightened h d
  have reaction := tight.followed.reach
  have position : (faultJudged s d).position = s.position := reaction.position
  have store : (faultJudged s d).store = s.store := reaction.store
  have drive : (faultJudged s d).permit.drive = d := congrArg Permit.drive reaction.permit
  have programmed : (faultJudged s d).programmed .disagree = s.settings.programmed.disagree :=
    congrArg (fun x : Store => x.working.programmed.disagree) store
  have cond : ((faultJudged s d).holds.table.get .disagree).cond = if s.position.disagree
      then s.settings.programmed.disagree else .none :=
    (congrArg HoldRecord.cond (tight.others .disagree (by decide))).trans (owned .disagree)
  have checked := crossCheck_eq (s := faultJudged s d) (by rw [cond, position, programmed])
  rw [drive, checkedPosition_congr position store, programmed] at checked
  exact congrArg State.refresh checked

theorem ports_of_reacted {s t : State} (h : Reacted s t) : t.ports = s.ports := by rw [h.1]

/-- The frame of a report, all that it writes beside the sources put first (R155). -/
theorem driveReport_frame {s : State} (h : HoldsDerived s) (owned : ConditionsOwned s) (d : DriveRecord) :
    let taken := faultWritten (reportTaken s d) (d.state = some .fault)
    (s.driveReport d).position = checkedPosition s d.position ∧
    HoldFrame { taken with position := (s.driveReport d).position } (s.driveReport d)
      [.driveSilent, .driveFault, .disagree] := by
  have eq := driveReport_eq h owned d
  have position : (s.driveReport d).position = checkedPosition s d.position := by
    rw [eq]
    exact (State.setCondition_reaction _ _ _).position
  have frame := ((faultJudged_tightened h d).setPosition (checkedPosition s d.position)).holdFrame_setCondition
    (holdsDerived_congr (faultJudged_derived h d) rfl rfl) (src := .disagree) rfl
    (if (checkedPosition s d.position).disagree then s.settings.programmed.disagree else .none)
  rw [← eq, ← position] at frame
  exact ⟨position, frame⟩

theorem driveReport_records {s : State} (h : HoldsDerived s) (owned : ConditionsOwned s) (d : DriveRecord) :
    let t := s.driveReport d
    t.holds.table.get .driveSilent = latchedAt (s.holds.table.get .driveSilent) .none ∧
    t.holds.table.get .driveFault =
      latchedAt (s.holds.table.get .driveFault) (if d.state = some .fault then .stop else .none) ∧
    t.holds.table.get .disagree = latchedAt (s.holds.table.get .disagree)
      (if (checkedPosition s d.position).disagree then s.settings.programmed.disagree else .none) := by
  have before : (faultJudged s d).holds.table.get .disagree = s.holds.table.get .disagree :=
    (faultJudged_tightened h d).others .disagree (by decide)
  have derived : HoldsDerived { faultJudged s d with position := checkedPosition s d.position } :=
    holdsDerived_congr (faultJudged_derived h d) rfl rfl
  obtain ⟨silent, fault⟩ := faultJudged_records h d
  obtain ⟨disagree, -⟩ := setCondition_record derived .disagree
    (if (checkedPosition s d.position).disagree then s.settings.programmed.disagree else .none) rfl
  rw [driveReport_eq h owned d]
  refine ⟨(setCondition_other _ _ (by decide)).trans silent, (setCondition_other _ _ (by decide)).trans fault,
    disagree.trans ?_⟩
  rw [← before]

/-! ## The request -/

/-- The drive states by their codes (R155). -/
def stateOfCode (code : Nat) : DriveState := if code = 0 then .running else if code = 1 then .stopped else .fault

theorem driveState_ofCode {code : Nat} (h : code ≤ 2) : DriveState.ofCode code = some (stateOfCode code) := by
  interval_cases code <;> rfl

theorem driveState_ofCode_of_lt {code : Nat} (h : 2 < code) : DriveState.ofCode code = none := by
  unfold DriveState.ofCode
  split <;> first | omega | rfl

theorem stateOfCode_fault {code : Nat} (h : code ≤ 2) : stateOfCode code = .fault ↔ code = 2 := by
  interval_cases code <;> decide

theorem ownDriveReport_badField {speed position code brake : Nat} (h : 2 < code ∨ 1 < brake) (s : State) :
    ownDriveReport speed position code brake s = s.refuse .badField := by
  unfold ownDriveReport
  rcases h with h | h
  · rw [driveState_ofCode_of_lt h]
  · split
    · rfl
    · exact if_pos h

theorem ownDriveReport_accepted {code brake : Nat} (known : code ≤ 2) (told : brake ≤ 1) (speed position : Nat) (s : State) :
    let t := s.driveReport (s.driveFields speed position (stateOfCode code) (brake = 1))
    ownDriveReport speed position code brake s = t.accept t.permitReply := by
  unfold ownDriveReport
  rw [driveState_ofCode known]
  exact if_neg (by omega)

/-- The PERMIT, its park remainder said of the park record (R161). -/
theorem permitReply_eq (s : State) : s.permitReply =
    bytes4 s.permit.ceiling ++ bytes1 s.holds.held.value ++ yesNo s.brakeDemand ++ bytes1 (parkStateCode s.permit.park) ++
    optionSigned4 ((s.permit.park.filter fun r => r.state ≠ .parked).map fun r => (r.target - s.position.tau).toInt) ++
    bytes4 s.position.theta ++ yesNo s.position.verified ++ bytes4 (s.nextEnterDistance s.position.points.park) := by
  have remainder : s.remainder =
      (s.permit.park.filter fun r => r.state ≠ .parked).map fun r => (r.target - s.position.tau).toInt := by
    unfold State.remainder
    rcases s.permit.park with _ | r
    · rfl
    · by_cases parked : r.state = .parked
      · simp [parked]
      · simp [parked, State.parkRemainder]
  rw [State.permitReply, remainder]

/-- What a report leaves of the position: nothing where it is not checked, else the runs (R9). -/
theorem reported_position (s : State) {speed position code : Nat} {brake : Bool} :
    let x := checkedPosition s (s.driveFields speed position (stateOfCode code) brake).position
    let checked : Prop := s.position.verified = true ∧ position < s.geometry.p
    let disagrees : Prop :=
      s.settings.disagreementTolerance < (signedMod ((position : Int) - s.position.theta) s.geometry.p).natAbs
    let up (run : Nat) : Nat := min 3 (run + 1)
    (¬checked → x = s.position) ∧
    (checked → disagrees → x = { s.position with
      disagreementRun := up s.position.disagreementRun, agreementRun := 0
      disagree := s.position.disagree || up s.position.disagreementRun = 3 }) ∧
    (checked → ¬disagrees → x = { s.position with
      agreementRun := up s.position.agreementRun, disagreementRun := 0
      disagree := s.position.disagree && up s.position.agreementRun ≠ 3 }) := by
  unfold State.driveFields
  dsimp only
  refine ⟨fun unchecked => checkedPosition_of_unchecked ?_, fun ⟨verified, on⟩ far => ?_, fun ⟨verified, on⟩ near => ?_⟩
  · by_cases on : position < s.geometry.p
    · exact .inr (by simpa using fun verified => unchecked ⟨verified, on⟩)
    · exact .inl (if_neg on)
  · rw [if_pos on, checkedPosition_of_checked verified, Position.crossChecked, if_pos (decide_eq_true far)]
  · rw [if_pos on, checkedPosition_of_checked verified, Position.crossChecked, if_neg (by simpa using near)]

/-- Settles O41: a report is its record and three conditions (`driveReport_frame`, `driveReport_records`), the expiry one
condition at BRAKE. -/
theorem driveExchangeIsSupervised : Obligations.DriveExchangeIsSupervised := by
  unfold Obligations.DriveExchangeIsSupervised
  refine ⟨fun speed position code brake s ready derived owned => ?report, fun s running derived => ?silence⟩
  case report =>
    refine ⟨_, State.request_ready ready _ rfl, fun bad => refused_of (ownDriveReport_badField bad s),
      fun known told => ?_⟩
    have accepted := ownDriveReport_accepted known told speed position s
    obtain ⟨unchecked, far, near⟩ := reported_position s (speed := speed) (position := position) (code := code)
      (brake := brake = 1)
    have fault : (s.driveFields speed position (stateOfCode code) (brake = 1)).state = some .fault ↔ code = 2 := by
      simp only [State.driveFields, Option.some.injEq, stateOfCode_fault known]
    obtain ⟨checked, frame⟩ := driveReport_frame derived owned
      (s.driveFields speed position (stateOfCode code) (brake = 1))
    obtain ⟨silent, failed, disagree⟩ := driveReport_records derived owned
      (s.driveFields speed position (stateOfCode code) (brake = 1))
    have formed : Formed (s.driveReport (s.driveFields speed position (stateOfCode code) (brake = 1))) :=
      State.refresh_formed _
    have ports : (s.driveReport (s.driveFields speed position (stateOfCode code) (brake = 1))).ports = s.ports :=
      (ports_of_reacted frame.1).trans rfl
    obtain ⟨eq, replied⟩ := accepted_of (s := s) (p := .drive) (kind := 0x10) accepted ports
    rw [← checked] at unchecked far near disagree
    simp only [fault] at frame failed
    generalize State.reply .drive 0x10 (ownDriveReport speed position code brake s) = t at eq replied ⊢
    generalize s.driveReport (s.driveFields speed position (stateOfCode code) (brake = 1)) = u at *
    have reply : u.permitReply = t.permitReply := by rw [eq]; rfl
    rw [reply, permitReply_eq t] at replied
    have place : t.position = u.position := by rw [eq]
    have holds : t.holds = u.holds := by rw [eq]
    dsimp only
    rw [place, holds]
    rw [holds, place] at replied
    refine ⟨unchecked, far, near, ?_, ?_, silent, ?_, disagree, replied⟩
    · rw [eq]
      exact frame.setPorts t.ports
    · rw [eq]
      exact formed_of_same formed rfl rfl rfl rfl rfl rfl rfl rfl (fun _ => rfl) fun _ => rfl
    · simpa using failed
  case silence =>
    refine ⟨_, State.running_of running _, driveSilence_expired, fun runs => ?_⟩
    have derived' : HoldsDerived (silent s) := holdsDerived_congr derived rfl rfl
    obtain ⟨record, -⟩ := setCondition_record derived' .driveSilent .brake rfl
    have latched : (((silent s).setCondition .driveSilent .brake).holds.table.get .driveSilent).latched = .brake := by
      rw [record]
      refine eq_brake_of_le ?_
      simp [latchedAt]
    rw [driveSilence_eq runs]
    exact ⟨holdFrame_setCondition (silent s) .driveSilent .brake, record,
      braked ((State.setCondition_reaction _ _ _).phase.trans running) (holdsDerived_setCondition derived' _ _) latched⟩

end Sys2Proof.DriveExchange
end

section
/-! A lost geometry (R15): changes of hold sources that leave the held grade where it stands. -/

namespace Sys2Proof.ConfigEffects

open Machine CabinTable StatusLoop WheelTicks DriveExchange

/-! ## A change that leaves the held grade -/

/-- A reaction to changes of `srcs` that leaves the held grade, and so nothing but their records to record. -/
structure Unmoved (srcs : List Source) (s t : State) : Prop where
  tight : Tightened srcs s t
  held : t.holds.held = s.holds.held
  quiet : RecordedOf s t [.unloadComplete] []

theorem logLatch_quiet (s : State) (src : Source) (old new : Grade) :
    RecordedOf s (s.logLatch src old new) [.unloadComplete] [] := by
  unfold State.logLatch
  split
  · exact .append_other s _ rfl
  · split
    · exact .append_other s _ rfl
    · exact .refl s _

theorem changeSource_quiet {s : State} {src : Source} {f : HoldRecord → HoldRecord}
    (same : (s.changeSource src f).holds.held = s.holds.held) :
    RecordedOf s (s.changeSource src f) [.unloadComplete] [] := by
  have logged (x : Holds) (old new : Grade) :
      RecordedOf s (State.logLatch { s with holds := x } src old new) [.unloadComplete] [] :=
    (logLatch_quiet { s with holds := x } src old new).congr rfl rfl
  rw [State.changeSource_holds] at same
  unfold State.changeSource
  dsimp only at same ⊢
  rw [if_pos same.symm]
  exact logged _ _ _

theorem setCondition_unmoved {s : State} {src : Source} {g : Grade}
    (same : (s.setCondition src g).holds.held = s.holds.held) : Unmoved [src] s (s.setCondition src g) := by
  obtain ⟨-, others, -, still⟩ := holdFrame_setCondition s src g
  obtain ⟨unload, park, sequencers, queues⟩ := still same
  have idle : Idle s (s.setCondition src g) := .of_reaction (State.setCondition_reaction s src g) ⟨sequencers, queues⟩
  refine ⟨⟨followed_setCondition s src g, others, (congrArg Grade.value same).ge, idle, fun _ => ⟨unload, park⟩⟩, same, ?_⟩
  unfold State.setCondition at same ⊢
  split
  · exact .refl s _
  · next moves =>
    rw [if_neg moves] at same
    exact changeSource_quiet same

theorem Unmoved.trans {as bs : List Source} {s t u : State} (h : Unmoved as s t) (k : Unmoved bs t u) :
    Unmoved (as ++ bs) s u :=
  ⟨h.tight.trans k.tight, k.held.trans h.held, h.quiet.trans k.quiet⟩

theorem Unmoved.setLoop {srcs : List Source} {s t : State} (h : Unmoved srcs s t) (x : Loop) :
    Unmoved srcs { s with loop := x } { t with loop := x } := by
  obtain ⟨⟨followed, others, rises, idle, still⟩, held, quiet⟩ := h
  exact ⟨⟨StatusLoop.Followed.setLoop followed x, others, rises, ⟨idle.cabins, idle.sequencers, idle.queues, idle.output⟩,
    still⟩, held, quiet.congr rfl rfl⟩

/-! ## Which conditions leave the held grade -/

/-- What a condition leaves of its source's record (R136, R137). -/
theorem setCondition_get {s : State} (h : HoldsDerived s) (src : Source) (g : Grade) :
    (s.setCondition src g).holds.table.get src =
      { (s.holds.table.get src).withCond g with
        latched := latchOf (s.settings.auto.get src) ((s.holds.table.get src).withCond g) } := by
  unfold State.setCondition
  split
  · next same =>
    obtain ⟨peak, latched⟩ := h.1 src
    have kept : (s.holds.table.get src).withCond g = s.holds.table.get src := by
      rw [HoldRecord.withCond, ← same, max_of_le peak]
    rw [kept, ← latched]
  · rw [State.changeSource_holds]
    exact HoldTable.get_set_same _ _ _

/-- A condition that does not fall, at a grade the wheel is held at or above, leaves the held grade. -/
theorem setCondition_held_of_le {s : State} (h : HoldsDerived s) {src : Source} {g : Grade}
    (rises : (s.holds.table.get src).cond.value ≤ g.value) (low : g.value ≤ s.holds.held.value) :
    (s.setCondition src g).holds.held = s.holds.held := by
  obtain ⟨peak, latched⟩ := h.1 src
  have record := setCondition_get h src g
  have derived := holdsDerived_setCondition h src g
  have bound := latched_le_heldGrade s.holds.table src
  rw [← h.2, latched] at bound
  refine Grade.value_injective (le_antisymm ?_ ?_)
  · obtain ⟨other, attained⟩ := HoldGrades.exists_latched_heldGrade (s.setCondition src g).holds.table
    rw [derived.2, ← attained]
    by_cases same : other = src
    · subst same
      rw [record]
      revert bound
      simp only [latchOf, HoldRecord.withCond]
      split <;> simp only [Grade.value_max, Nat.max_def] <;> split_ifs <;> omega
    · rw [setCondition_other s g same, h.2]
      exact latched_le_heldGrade _ other
  · rw [h.2, derived.2]
    refine heldGrade_mono fun other => ?_
    by_cases same : other = src
    · subst same
      rw [record, latched]
      simp only [latchOf, HoldRecord.withCond]
      split
      · simp only [Grade.value_max]
        exact max_le_max_right _ rises
      · simp only [Grade.value_max]
        exact max_le_max_right _ (le_max_left _ _)
    · rw [setCondition_other s g same]

theorem setCondition_none_held {s : State} (h : HoldsDerived s) {src : Source}
    (keeps : s.settings.auto.get src = false) : (s.setCondition src .none).holds.held = s.holds.held := by
  rw [setCondition_none h keeps]

/-! ## θ lost (R15) -/

/-- The position after a write of N or of P. -/
def lostPosition (x : Position) : Position :=
  { x with theta := 0, verified := false, disagreementRun := 0, agreementRun := 0, disagree := false, stillCrossed := [] }

/-- θ lost and no cabin away, the conditions still to follow. -/
def geometryLost (s : State) : State :=
  { s with position := lostPosition s.position, loop := { s.loop with away := [] } }

/-- No cabin is judged away without a verified position (R50). -/
theorem awaySet_of_unverified {s : State} (unverified : s.position.verified = false) : s.awaySet = [] := by
  rw [awaySet_eq_nil_iff]
  intro k c _ away
  obtain ⟨-, verified, -⟩ := away
  rw [unverified] at verified
  cases verified

/-- The conditions of POSITION and DISAGREE after θ is lost, ahead of the away set. -/
def positionLost (s : State) : State :=
  (State.setCondition { s with position := lostPosition s.position } .position .unload).setCondition .disagree .none

theorem positionLost_reaction (s : State) : Reaction { s with position := lostPosition s.position } (positionLost s) :=
  (State.setCondition_reaction _ _ _).trans (State.setCondition_reaction _ _ _)

theorem loseGeometry_eq (s : State) :
    s.loseGeometry = State.setCondition { positionLost s with loop := { s.loop with away := [] } } .doorAway .none := by
  have eq : s.loseGeometry = (positionLost s).judgeAway := rfl
  have position : (positionLost s).position = lostPosition s.position := (positionLost_reaction s).position
  have loop : (positionLost s).loop = s.loop := (positionLost_reaction s).loop
  have away : (positionLost s).awaySet = [] := awaySet_of_unverified (by rw [position]; rfl)
  rw [eq, State.judgeAway, away, loop]
  rfl

section
variable {s : State} (h : HoldsDerived s) (cond : (s.holds.table.get .position).cond.value ≤ Grade.unload.value)
  (stopped : Grade.stop.value ≤ s.holds.held.value)
include h cond stopped

/-- θ lost while the wheel is held at STOP or above moves three records and no grade. -/
theorem loseGeometry_unmoved : Unmoved [.position, .disagree, .doorAway] (geometryLost s) s.loseGeometry := by
  have derived : HoldsDerived { s with position := lostPosition s.position } := holdsDerived_congr h rfl rfl
  have unloaded := holdsDerived_setCondition derived .position .unload
  have lost : HoldsDerived (positionLost s) := holdsDerived_setCondition unloaded .disagree .none
  have position := setCondition_unmoved (setCondition_held_of_le derived cond
    ((show Grade.unload.value ≤ Grade.stop.value by decide).trans stopped))
  have disagree := setCondition_unmoved (setCondition_none_held unloaded (src := .disagree) rfl)
  have away : HoldsDerived { positionLost s with loop := { s.loop with away := [] } } := holdsDerived_congr lost rfl rfl
  have judged := setCondition_unmoved (setCondition_none_held away (src := .doorAway) rfl)
  rw [loseGeometry_eq]
  exact ((position.trans disagree).setLoop { s.loop with away := [] }).trans judged

end

theorem loseGeometry_conds (s : State) : (s.loseGeometry.holds.table.get .position).cond = .unload ∧
    (s.loseGeometry.holds.table.get .disagree).cond = .none := by
  rw [loseGeometry_eq, setCondition_other _ _ (by decide), setCondition_other _ _ (by decide)]
  refine ⟨?_, setCondition_cond _ _ _⟩
  show ((positionLost s).holds.table.get .position).cond = .unload
  rw [positionLost, setCondition_other _ _ (by decide)]
  exact setCondition_cond _ _ _

end Sys2Proof.ConfigEffects
end

section
/-! What the owning rules add to an accepted CONFIG WRITE (R15, R19, R49, R139, R140, R181). -/

namespace Sys2Proof.ConfigEffects

open Machine CabinTable StatusLoop WheelTicks DriveExchange ConfigItems WheelAndSave

/-! ## The settings written -/

theorem holdsDerived_setSettings {s : State} (h : HoldsDerived s) {x : Settings} (auto : x.auto = s.settings.auto) :
    HoldsDerived (s.setSettings x) := by
  obtain ⟨records, held⟩ := h
  refine ⟨fun src => ?_, held⟩
  show RecordDerived (x.auto.get src) _
  rw [auto]
  exact records src

/-! ## Auto-release (R140) -/

/-- A change of the auto-release setting leaves the latch. -/
theorem latchOf_switchAuto {r : HoldRecord} {on : Bool} (h : RecordDerived (!on) r) :
    latchOf on (r.switchAuto on) = r.latched := by
  obtain ⟨peak, latched⟩ := h
  cases on with
  | false => exact latched.symm
  | true =>
    have latch : r.latched = r.peak.max r.floor := latched
    apply Grade.value_injective
    simp only [latchOf, HoldRecord.switchAuto, if_true, latch, Grade.value_max, Nat.max_def]
    split_ifs <;> omega

theorem switchAuto_held {s : State} (held : s.holds.held = s.holds.table.heldGrade) {src : Source}
    {f : HoldRecord → HoldRecord}
    (latch : latchOf (s.settings.auto.get src) (f (s.holds.table.get src)) = (s.holds.table.get src).latched) :
    (s.changeSource src f).holds.held = s.holds.held ∧
    (s.changeSource src f).holds.table.get src =
      { f (s.holds.table.get src) with latched := (s.holds.table.get src).latched } := by
  rw [State.changeSource_holds, latch]
  dsimp only
  refine ⟨?_, HoldTable.get_set_same _ _ _⟩
  rw [held]
  refine heldGrade_congr fun other => ?_
  by_cases same : other = src
  · subst same
    rw [HoldTable.get_set_same]
  · rw [HoldTable.get_set_other _ _ same]

/-- A write that changes an auto-release setting turns it over. -/
theorem auto_turned {s : State} {src : Source} {x : Nat} {now : Bool} (reads : (if now then 1 else 0) = x)
    (changes : s.settings.read (.auto src) ≠ x) : now = decide (x = 1) ∧ s.settings.auto.get src = !now := by
  have before : (if s.settings.auto.get src then 1 else 0) ≠ x := changes
  subst reads
  cases now with
  | false => exact ⟨rfl, by simpa using before⟩
  | true => exact ⟨rfl, by simpa using before⟩

/-! ## A table made up to a length (R19, R49) -/

theorem madeUpTo_kept {α : Type} {n k : Nat} (fresh : α) {xs : List α} (low : k < n) (here : k < xs.length) :
    (madeUpTo n fresh xs)[k]? = xs[k]? := by
  rw [madeUpTo, List.getElem?_append_left (by rw [List.length_take]; omega), List.getElem?_take_of_lt low]

theorem madeUpTo_fresh {α : Type} {n k : Nat} (fresh : α) {xs : List α} (low : k < n) (past : xs.length ≤ k) :
    (madeUpTo n fresh xs)[k]? = some fresh := by
  have length : (xs.take n).length = xs.length := by rw [List.length_take]; omega
  rw [madeUpTo, List.getElem?_append_right (by omega), length, List.getElem?_replicate, if_pos (by omega)]

/-! ## The recount (R149, R150) -/

theorem resize_recounted (s : State) (n : Nat) : Recounted s (s.resize n) := by
  obtain ⟨eq, recorded⟩ := judgeUnload_eq (resized s n)
  have cabins : (s.resize n).cabins = (resized s n).cabins := (resize_reaction s n).cabins
  have unload : (s.resize n).unload = { (resized s n).unload with complete := unloadWanted (resized s n) } := by
    rw [resize_eq, eq]
  refine ⟨?_, ?_, ?_⟩
  · rw [unload, cabins]
    exact occupiedCount_eq _
  · rw [unload]
    rfl
  · rw [unload]
    exact recorded_congr recorded rfl

/-- The recount's record is the one record of its kind. -/
theorem recordedOf_recounted {s t : State} (h : Recounted s t) : RecordedOf s t [.unloadComplete]
    (if t.unload.complete && !s.unload.complete then
      [{ time := s.clock, kind := .unloadComplete, cabin := none, platform := none, source := none
         grade := some s.holds.held, value := 0 }] else []) := by
  obtain ⟨-, -, recorded⟩ := h
  refine ⟨_, recorded, ?_⟩
  split <;> rfl

/-! ## The frame of a write of N or P -/

theorem followed_priorUnload {s t : State} (h : Followed s t) : Followed { s with unload := t.unload } t := by
  obtain ⟨r, parties, fall⟩ := h
  have p := parties_congr (s := s) (s' := { s with unload := t.unload }) (t := t) (t' := t)
    ⟨rfl, rfl, rfl, rfl, rfl⟩ rfl rfl rfl rfl
  obtain ⟨xs, recorded⟩ := r.events
  have recorded' : Recorded { s with unload := t.unload } t xs := recorded_congr recorded rfl
  exact ⟨⟨r.phase, r.position, r.cabins, r.loop, r.output, r.plans, r.wind, r.stops, r.ports, r.store, r.clock,
    r.brakeDemand, r.pending, rfl, r.permit, r.visits, xs, recorded'⟩, parties.imp p.1 p.2,
    fun above below => p.2 (fall above below)⟩

/-- The store is written and the tables are resized from `b` to `r`: no condition and no visit has changed. -/
structure Prepared (b r : State) : Prop where
  followed : Followed b r
  holds : r.holds = b.holds
  idle : Idle b r
  park : r.permit.park = b.permit.park

theorem Prepared.refl (s : State) : Prepared s s := ⟨.refl s, rfl, .refl s, rfl⟩

theorem prepared_resize (s : State) (n : Nat) : Prepared (resized s n) (s.resize n) :=
  ⟨followed_judgeUnload _, State.judgeUnload_holds _,
    .of_reaction (resize_reaction s n) (State.judgeUnload_visits _), by rw [resize_eq, judgeUnload_permit]⟩

/-- What is left of a prepared state once θ is lost (R15). -/
theorem lost_frame {b r u : State} (prepared : Prepared b r)
    (lost : Unmoved [.position, .disagree, .doorAway] (geometryLost r) u) :
    HoldFrame { b with position := u.position, loop := u.loop, cabins := u.cabins, unload := u.unload } u.refresh
      [.position, .disagree, .doorAway] := by
  obtain ⟨followed, holds, idle, park⟩ := prepared
  obtain ⟨tight, held, -⟩ := lost
  have reaction := tight.followed.reach
  have position : u.position = lostPosition r.position := reaction.position
  have loop : u.loop = { r.loop with away := [] } := reaction.loop
  have cabins : u.cabins = b.cabins := reaction.cabins.trans followed.reach.cabins
  obtain ⟨-, park'⟩ := tight.still held
  have placed := followed_setPosition followed (lostPosition r.position)
  have looped := StatusLoop.Followed.setLoop placed { r.loop with away := [] }
  have whole := followed_priorUnload (looped.trans tight.followed)
  rw [← position, ← loop] at whole
  have sequencers : u.sequencers = b.sequencers := tight.idle.sequencers.trans idle.sequencers
  have queues : u.queues = b.queues := tight.idle.queues.trans idle.queues
  rw [cabins]
  refine ⟨reacted_of_followed whole, fun src out => ?_, fun _ => ⟨sequencers, queues⟩,
    fun _ => ⟨rfl, park'.trans park, sequencers, queues⟩⟩
  exact (tight.others src out).trans (congrArg (fun x : Holds => x.table.get src) holds)

/-! ## The items -/

/-- The settings written, the owning rule still to follow (R181). -/
def written (s : State) (i : Item) (x : Nat) : State := s.setSettings (s.settings.write i x)

theorem itemEffect_programmed (s : State) (src : Source) :
    s.itemEffect (.programmed src) = s.setCondition src (if s.holding src then s.programmed src else .none) := rfl

theorem itemEffect_n (s : State) (x : Nat) :
    (written s .n x).itemEffect .n = ((written s .n x).resize x).loseGeometry := rfl

theorem itemEffect_p (s : State) (x : Nat) : (written s .p x).itemEffect .p = (written s .p x).loseGeometry := rfl

theorem itemEffect_auto (s : State) (src : Source) :
    s.itemEffect (.auto src) = s.changeSource src fun r => r.switchAuto (s.settings.auto.get src) := rfl

/-- A programmed grade is taken by a condition that holds, and only by it (R139). -/
theorem programmed_effect {s : State} (owned : ConditionsOwned s) {src : Source}
    (ranged : src.programmedRange.isSome = true) {x : Nat}
    (reads : (s.settings.write (.programmed src) x).read (.programmed src) = x) :
    let t := (written s (.programmed src) x).itemEffect (.programmed src)
    HoldFrame (written s (.programmed src) x) t.refresh [src] ∧
    (s.holding src = true → (t.holds.table.get src).cond.value = x) ∧ (s.holding src = false → t.holds = s.holds) := by
  have holding : (written s (.programmed src) x).holding src = s.holding src := by cases src <;> rfl
  have stands : (s.holds.table.get src).cond = if s.holding src then s.programmed src else .none :=
    (owned src).trans (ownedGrade_programmed s ranged)
  dsimp only
  rw [itemEffect_programmed, holding]
  refine ⟨holdFrame_setCondition _ _ _, fun holds => ?_, fun rests => ?_⟩
  · rw [holds, if_pos rfl, setCondition_cond]
    exact reads
  · rw [rests, if_neg Bool.false_ne_true] at stands ⊢
    have idle : State.setCondition (written s (.programmed src) x) src .none = written s (.programmed src) x := if_pos stands
    rw [idle]
    rfl

/-- A change of auto-release writes the floor and the peak and leaves every latch (R140). -/
theorem auto_effect {s : State} (derived : HoldsDerived s) {src : Source} {x : Nat}
    (reads : (s.settings.write (.auto src) x).read (.auto src) = x) (changes : s.settings.read (.auto src) ≠ x) :
    let t := (written s (.auto src) x).itemEffect (.auto src)
    let old := s.holds.table.get src
    HoldFrame (written s (.auto src) x) t.refresh [src] ∧ t.holds.held = s.holds.held ∧
    t.holds.table.get src = { old with
      peak := old.cond
      floor := if x = 1 then old.floor.max old.latched else old.floor } := by
  obtain ⟨now, before⟩ := auto_turned reads changes
  have record : RecordDerived (!(written s (.auto src) x).settings.auto.get src) (s.holds.table.get src) :=
    before ▸ derived.1 src
  obtain ⟨held, get⟩ := switchAuto_held (s := written s (.auto src) x) (src := src)
    (f := fun r => r.switchAuto ((written s (.auto src) x).settings.auto.get src)) derived.2 (latchOf_switchAuto record)
  have frame := holdFrame_changeSource (written s (.auto src) x) src
    fun r => r.switchAuto ((written s (.auto src) x).settings.auto.get src)
  dsimp only
  rw [itemEffect_auto]
  refine ⟨frame, held, get.trans ?_⟩
  have on : (written s (.auto src) x).settings.auto.get src = decide (x = 1) := now
  rw [on]
  simp only [HoldRecord.switchAuto, decide_eq_true_eq]
  rfl

/-- What a lost geometry needs of a part at rest: POSITION's condition at UNLOAD or below, and the wheel held (R181). -/
theorem position_low {s : State} (owned : ConditionsOwned s) (writable : s.geometryWritable = true) :
    (s.holds.table.get .position).cond.value ≤ Grade.unload.value ∧ Grade.stop.value ≤ s.holds.held.value := by
  obtain ⟨-, stopped, -⟩ := (geometryWritable_iff s).mp writable
  constructor
  · rw [owned .position, ownedGrade]
    split <;> decide
  · rcases List.mem_pair.mp stopped with held | held
    · rw [held]
    · rw [held]
      decide

/-- What θ lost leaves of a state, its hold records apart. -/
theorem lost_kept {r u : State} (lost : Unmoved [.position, .disagree, .doorAway] (geometryLost r) u) :
    u.position = lostPosition r.position ∧ u.loop = { r.loop with away := [] } ∧ u.cabins = r.cabins ∧
    u.unload = r.unload ∧ u.holds.held = r.holds.held ∧ RecordedOf r u [.unloadComplete] [] := by
  obtain ⟨tight, held, quiet⟩ := lost
  have reaction := tight.followed.reach
  obtain ⟨unload, -⟩ := tight.still held
  exact ⟨reaction.position, reaction.loop, reaction.cabins, unload, held, quiet.congr rfl rfl⟩

section
variable {s : State} (derived : HoldsDerived s) (owned : ConditionsOwned s) (writable : s.geometryWritable = true)
include derived owned writable

/-- A write of P at rest loses θ and moves no grade (R15). -/
theorem p_unmoved (x : Nat) : Unmoved [.position, .disagree, .doorAway] (geometryLost (written s .p x))
    (written s .p x).loseGeometry := by
  obtain ⟨cond, stopped⟩ := position_low owned writable
  exact loseGeometry_unmoved (holdsDerived_setSettings derived rfl) cond stopped

/-- So does a write of N, its tables resized and the occupied count formed. -/
theorem n_unmoved (x : Nat) : Unmoved [.position, .disagree, .doorAway] (geometryLost ((written s .n x).resize x))
    ((written s .n x).resize x).loseGeometry := by
  obtain ⟨cond, stopped⟩ := position_low owned writable
  obtain ⟨-, holds, -, -⟩ := prepared_resize (written s .n x) x
  have store := (resize_reaction (written s .n x) x).store
  have stored : HoldsDerived (written s .n x) := holdsDerived_setSettings derived rfl
  have same : ((written s .n x).resize x).holds = s.holds := holds
  refine loseGeometry_unmoved (holdsDerived_congr stored holds store) ?_ ?_
  · rw [same]
    exact cond
  · rw [same]
    exact stopped

theorem geometry_effect {i : Item} (geometry : i = .n ∨ i = .p) (x : Nat) :
    let w := written s i x
    let u := w.itemEffect i
    u.position = lostPosition s.position ∧ (u.holds.table.get .position).cond = .unload ∧
    (u.holds.table.get .disagree).cond = .none ∧ u.holds.held = s.holds.held ∧
    HoldFrame { w with position := u.position, loop := u.loop, cabins := u.cabins, unload := u.unload } u.refresh
      [.position, .disagree, .doorAway] := by
  rcases geometry with rfl | rfl
  · have unmoved := n_unmoved derived owned writable x
    obtain ⟨position, -, -, -, held, -⟩ := lost_kept unmoved
    obtain ⟨cond, disagree⟩ := loseGeometry_conds ((written s .n x).resize x)
    have frame := lost_frame (prepared_resize (written s .n x) x) unmoved
    obtain ⟨-, holds, -, -⟩ := prepared_resize (written s .n x) x
    have reaction := resize_reaction (written s .n x) x
    dsimp only
    rw [itemEffect_n]
    generalize ((written s .n x).resize x).loseGeometry = u at *
    refine ⟨position.trans (congrArg lostPosition reaction.position), cond, disagree,
      held.trans (congrArg Holds.held holds), frame⟩
  · have unmoved := p_unmoved derived owned writable x
    obtain ⟨position, -, -, -, held, -⟩ := lost_kept unmoved
    obtain ⟨cond, disagree⟩ := loseGeometry_conds (written s .p x)
    have frame := lost_frame (.refl (written s .p x)) unmoved
    dsimp only
    rw [itemEffect_p]
    generalize (written s .p x).loseGeometry = u at *
    exact ⟨position, cond, disagree, held, frame⟩

theorem p_effect (x : Nat) :
    let u := (written s .p x).itemEffect .p
    u.loop = { s.loop with away := [] } ∧ u.cabins = s.cabins ∧ u.unload = s.unload ∧
    RecordedOf s u [.unloadComplete] [] := by
  obtain ⟨-, loop, cabins, unload, -, quiet⟩ := lost_kept (p_unmoved derived owned writable x)
  dsimp only
  rw [itemEffect_p]
  exact ⟨loop, cabins, unload, quiet.congr rfl rfl⟩

/-- After a write of N each cabin has its record, the new ones fresh, and the recount has followed (R19, R49, R149). -/
theorem n_effect (x : Nat) :
    let u := (written s .n x).itemEffect .n
    let loops := madeUpTo x LoopCabin.unreported s.loop.cabins
    let cabins := madeUpTo x (Cabin.fresh CabinConfig.default) s.cabins
    u.loop = { s.loop with
      newest := none, previous := none, scan := s.loop.scan.map fun y => { y with stale := true }, cabins := loops
      away := [] } ∧
    u.cabins = cabins ∧
    u.unload.occupied = (cabins.filter fun c => 0 < c.occupancy || c.occupancyUnknown).length ∧
    u.unload.complete = (s.holds.held.atLeast .unload && u.unload.occupied = 0) ∧
    RecordedOf s u [.unloadComplete]
      (if u.unload.complete && !s.unload.complete then
        [{ time := s.clock, kind := .unloadComplete, cabin := none, platform := none, source := none
           grade := some s.holds.held, value := 0 }] else []) := by
  obtain ⟨-, loop, cabins, unload, -, quiet⟩ := lost_kept (n_unmoved derived owned writable x)
  have reaction := resize_reaction (written s .n x) x
  have recounted := resize_recounted (written s .n x) x
  have recorded := recordedOf_recounted recounted
  obtain ⟨occupied, complete, -⟩ := recounted
  dsimp only
  rw [itemEffect_n]
  generalize ((written s .n x).resize x).loseGeometry = u at *
  generalize (written s .n x).resize x = r at *
  have rcabins : r.cabins = madeUpTo x (Cabin.fresh CabinConfig.default) s.cabins := reaction.cabins
  have rloop : r.loop = (resized (written s .n x) x).loop := reaction.loop
  rw [rcabins] at occupied cabins
  rw [rloop] at loop
  have whole := (recorded.trans quiet).congr (s' := s) (t' := u) rfl rfl
  rw [List.append_nil] at whole
  rw [unload]
  exact ⟨loop, cabins, occupied, complete, whole⟩

end

/-- What a reply to an accepted write leaves of the state written. -/
theorem answered_fields {t u : State} {x : Ports} (eq : t = { u.refresh with ports := x }) :
    t.holds = u.holds ∧ t.position = u.position ∧ t.loop = u.loop ∧ t.cabins = u.cabins ∧ t.unload = u.unload ∧
    t.events = u.events := by
  subst eq
  exact ⟨rfl, rfl, rfl, rfl, rfl, rfl⟩

/-- Settles O33: the accepted write is its item's effect on the settings written; N and P by `lost_frame`, N after the
recount of the resized tables. -/
theorem configWriteHasItsEffects : Obligations.ConfigWriteHasItsEffects := by
  unfold Obligations.ConfigWriteHasItsEffects
  intro code value i x s ready derived owned named judged changes
  obtain ⟨eq, -, -⟩ := configWrite_reply named judged rfl
  have effect : s.storeItem i x = (written s i x).itemEffect i := if_neg changes
  have reads := read_write_same (listed_of_ofCode named) (judge_of_judgeWrite judged)
  refine ⟨_, State.request_ready ready _ rfl, ?_⟩
  rw [effect] at eq
  generalize State.reply .controlRoom 0x30 (ownConfigWrite code value s) = t at eq ⊢
  dsimp only
  obtain ⟨holds, place, loops, tables, unloads, events⟩ := answered_fields eq
  refine ⟨?programmed, ?auto, ?frame, ?p, ?n⟩
  case programmed =>
    rintro src rfl
    obtain ⟨frame, taken, kept⟩ := programmed_effect owned (listed_of_ofCode named) reads
    rw [holds]
    refine ⟨?_, taken, kept⟩
    rw [eq]
    exact frame.setPorts t.ports
  case auto =>
    rintro src rfl
    obtain ⟨frame, held, record⟩ := auto_effect derived reads changes
    rw [holds]
    refine ⟨?_, held, record⟩
    rw [eq]
    exact frame.setPorts t.ports
  case frame =>
    intro geometry
    have writable := writable_of_judgeWrite judged (by rcases geometry with rfl | rfl <;> rfl)
    obtain ⟨position, cond, disagree, held, frame⟩ := geometry_effect derived owned writable geometry x
    rw [holds, place, loops, tables, unloads]
    refine ⟨position, cond, disagree, held, ?_⟩
    rw [eq]
    exact frame.setPorts t.ports
  case p =>
    rintro rfl
    obtain ⟨loop, cabins, unload, recorded⟩ := p_effect derived owned (writable_of_judgeWrite judged rfl) x
    exact ⟨loops.trans loop, tables.trans cabins, unloads.trans unload, recorded.congr rfl events⟩
  case n =>
    rintro rfl
    obtain ⟨loop, cabins, occupied, complete, recorded⟩ := n_effect derived owned (writable_of_judgeWrite judged rfl) x
    have recorded' := recorded.congr (s' := s) (t' := t) rfl events
    rw [← unloads] at occupied complete recorded'
    rw [tables.trans cabins, loops.trans loop]
    refine ⟨rfl, length_madeUpTo _ _ _, fun k low here => madeUpTo_kept _ low here,
      fun k low past => madeUpTo_fresh _ low past, occupied, complete, recorded', length_madeUpTo _ _ _,
      fun k low here => madeUpTo_kept _ low here, fun k low past => ⟨_, madeUpTo_fresh _ low past, rfl⟩⟩

end Sys2Proof.ConfigEffects
end
